-- ==== Sys2Proof/Word.lean ====
section
/-!
DEFINITION. The word types of the 2260: bytes, card tokens and station numbers.
-/

namespace Sys2Proof

/-- One byte of either line (spec/10 section 10.2, spec/11 section 11.7). -/
abbrev Byte := BitVec 8

/-- A card token: 16 opaque bytes, compared as a whole (spec/11 R189, spec/00 section 5). -/
abbrev Token := BitVec 128

/-- A station number, 0 to 15 (spec/00 section 6.3). With the STATIONS strap low only 0 to 7 are in the frame. -/
abbrev StationId := Fin 16

/-- All station numbers, ascending. -/
def allStations : List StationId := List.finRange 16

end Sys2Proof
end

