-- ==== Sys2Proof/Syntax.lean ====
section
/-!
DEFINITION. The commands of the 2260, one constructor of `Instr` for each row of spec/opcode_table.json, with the data
each carries; and the host requests as data (`Request`), which a command or a received frame hands to the part.
-/

namespace Sys2Proof

/-- The card class that a CARD carries (spec/11 section 11.8). -/
inductive CardClass where
  | credit
  | debit
  deriving DecidableEq, Repr

/-- The upstream half of a slot as the line carries it: four bytes (spec/11 section 11.7). -/
structure UpHalf where
  b0 : Byte
  b1 : Byte
  b2 : Byte
  b3 : Byte
  deriving DecidableEq, Repr

/-- One character received on HRX: its eight data bits, and whether its stop bit was at mark (R170). -/
structure HrxChar where
  data : Byte
  stopAtMark : Bool
  deriving DecidableEq, Repr

/-- The host requests of the catalogue (spec/10 section 10.10), each with the fields of its body as spec/11 section 11.2
lays them out: every field has the width it has in the body, so every value a body can carry can be written here. -/
inductive Request where
  | status
  | start
  | stop
  | halt
  | setTimers (idle pickWait transit stall auth silence : BitVec 16)
  | setLevels (jam session station anomaly journal : Byte)
  | setClock (value : BitVec 32)
  | setTariff (tariffClass media colour : Byte) (price : BitVec 16)
  | setTiers (tariffClass discount0 : Byte) (threshold1 : BitVec 24) (discount1 : Byte) (threshold2 : BitVec 24)
      (discount2 : Byte) (threshold3 : BitVec 24) (discount3 : Byte)
  | setRange (entry operation : Byte) (low high : BitVec 24) (kind tariffClass : Byte) (overdraft : BitVec 24)
  | setCardPolicy (initialHold increment threshold : BitVec 16) (tariffClass : Byte)
      (standInLimit standInMinimum : BitVec 16) (standInCap : BitVec 24)
  | cardPolicyGet
  | accountPut (number : BitVec 24) (balance : BitVec 32) (state maxSessions : Byte)
  | accountGet (number : BitVec 24)
  | accountAdjust (number : BitVec 24) (amount : BitVec 32)
  | accountFreeze (number : BitVec 24)
  | accountThaw (number : BitVec 24)
  | accountRemove (number : BitVec 24)
  | authResult (reference : BitVec 16) (outcome : Byte) (amount : BitVec 24)
  | authPending
  | denyAdd (token : Token)
  | denyRemove (token : Token)
  | denyClear
  | standinList (start : Byte)
  | standinClear (token : Token)
  | journalRead (count : Byte)
  | journalRelease (count : BitVec 16) (expected : BitVec 32)
  | stationGet (station : Byte)
  | stationEnable (station : Byte)
  | stationDisable (station : Byte)
  | sessionEnd (station : Byte)
  | serviceHold (station : Byte)
  | serviceRelease (station : Byte)
  | meterGet (station : Byte)
  | meterClear (station : Byte)
  deriving DecidableEq, Repr

/-- The commands of the 2260: one constructor for each row of spec/opcode_table.json, in the table's order (the last row,
LINE_RETURNED_TO_MARK, last). Commands that are events at a station name the station; a request command carries the
fields of its request's body. -/
inductive Instr where
  /-- RESET (R187): release of RESET or power-on, with the levels of the two straps. -/
  | reset (stationsHigh lineRateHigh : Bool)
  /-- UPSTREAM_HALF (R1, R2): the slot of a station, when it comes in the frame, with the upstream half that the station
  sends in it. -/
  | upstreamHalf (station : StationId) (half : UpHalf)
  /-- STATION_LOST (R4): the arrival that makes a present station ABSENT. -/
  | stationLost (station : StationId)
  /-- STATION_PRESENT (R5): the arrival that makes an ABSENT station present. -/
  | stationPresent (station : StationId)
  /-- PICK_WAIT_EXPIRY (R69). -/
  | pickWaitExpiry (station : StationId)
  /-- RECEIVE_LIMIT (R15). -/
  | receiveLimit (station : StationId)
  /-- NO_ACKNOWLEDGEMENT (R19). -/
  | noAcknowledgement (station : StationId)
  /-- CARD (R28): a delivered CARD message. -/
  | card (station : StationId) (token : Token) (cardClass : CardClass)
  /-- ACCOUNT (R27): a delivered ACCOUNT message. -/
  | account (station : StationId) (number : BitVec 24)
  /-- FINISH (R34): a delivered FINISH message. -/
  | finish (station : StationId)
  /-- IDLE_EXPIRY (R32). -/
  | idleExpiry (station : StationId)
  /-- STALL_TIMER_EXPIRY (R91). -/
  | stallTimerExpiry (station : StationId)
  /-- OVERDUE (R75). -/
  | overdue (station : StationId)
  /-- INITIAL_AUTH_TIMEOUT (R127). -/
  | initialAuthTimeout (station : StationId)
  /-- INCREMENT_AUTH_TIMEOUT (R131). -/
  | incrementAuthTimeout (station : StationId)
  /-- SILENCE_EXPIRY (R183). -/
  | silenceExpiry
  /-- HOST_FRAME (R172): characters received on HRX, in order. -/
  | hostFrame (chars : List HrxChar)
  /-- GAP_ERROR (R172). -/
  | gapError
  /-- LINE_BREAK (R185). -/
  | lineBreak
  /-- HRDYI (R176): the shop computer's ready line takes a level. -/
  | hrdyi (asserted : Bool)
  /-- FRAME_SENT (R174): the last byte of the frame on HTX has been sent. -/
  | frameSent
  /-- NOTICE_BUILD (R182): the outbound arbiter makes its choice. -/
  | noticeBuild
  /-- SECONDS_CLOCK (R152). -/
  | secondsClock
  /-- STATUS (R186). -/
  | status
  /-- START (R23). -/
  | start
  /-- STOP (R24). -/
  | stop
  /-- HALT (R42). -/
  | halt
  /-- SET_TIMERS (R184). -/
  | setTimers (idle pickWait transit stall auth silence : BitVec 16)
  /-- SET_LEVELS (R177). -/
  | setLevels (jam session station anomaly journal : Byte)
  /-- SET_CLOCK (R153). -/
  | setClock (value : BitVec 32)
  /-- SET_TARIFF (R46). -/
  | setTariff (tariffClass media colour : Byte) (price : BitVec 16)
  /-- SET_TIERS (R48). -/
  | setTiers (tariffClass discount0 : Byte) (threshold1 : BitVec 24) (discount1 : Byte) (threshold2 : BitVec 24)
      (discount2 : Byte) (threshold3 : BitVec 24) (discount3 : Byte)
  /-- SET_RANGE (R101). -/
  | setRange (entry operation : Byte) (low high : BitVec 24) (kind tariffClass : Byte) (overdraft : BitVec 24)
  /-- SET_CARD_POLICY (R120). -/
  | setCardPolicy (initialHold increment threshold : BitVec 16) (tariffClass : Byte)
      (standInLimit standInMinimum : BitVec 16) (standInCap : BitVec 24)
  /-- CARD_POLICY_GET (R120). -/
  | cardPolicyGet
  /-- ACCOUNT_PUT (R111, R112). -/
  | accountPut (number : BitVec 24) (balance : BitVec 32) (state maxSessions : Byte)
  /-- ACCOUNT_GET (R117). -/
  | accountGet (number : BitVec 24)
  /-- ACCOUNT_ADJUST (R113). -/
  | accountAdjust (number : BitVec 24) (amount : BitVec 32)
  /-- ACCOUNT_FREEZE (R114). -/
  | accountFreeze (number : BitVec 24)
  /-- ACCOUNT_THAW (R115). -/
  | accountThaw (number : BitVec 24)
  /-- ACCOUNT_REMOVE (R116). -/
  | accountRemove (number : BitVec 24)
  /-- AUTH_RESULT (R125). -/
  | authResult (reference : BitVec 16) (outcome : Byte) (amount : BitVec 24)
  /-- AUTH_PENDING (R121). -/
  | authPending
  /-- DENY_ADD (R138). -/
  | denyAdd (token : Token)
  /-- DENY_REMOVE (R138). -/
  | denyRemove (token : Token)
  /-- DENY_CLEAR (R138). -/
  | denyClear
  /-- STANDIN_LIST (R136). -/
  | standinList (start : Byte)
  /-- STANDIN_CLEAR (R137). -/
  | standinClear (token : Token)
  /-- JOURNAL_READ (R145). -/
  | journalRead (count : Byte)
  /-- JOURNAL_RELEASE (R146). -/
  | journalRelease (count : BitVec 16) (expected : BitVec 32)
  /-- STATION_GET (R98). -/
  | stationGet (station : Byte)
  /-- STATION_ENABLE (R96). -/
  | stationEnable (station : Byte)
  /-- STATION_DISABLE (R94). -/
  | stationDisable (station : Byte)
  /-- SESSION_END (R35). -/
  | sessionEnd (station : Byte)
  /-- SERVICE_HOLD (R158). -/
  | serviceHold (station : Byte)
  /-- SERVICE_RELEASE (R160). -/
  | serviceRelease (station : Byte)
  /-- METER_GET (R79). -/
  | meterGet (station : Byte)
  /-- METER_CLEAR (R79). -/
  | meterClear (station : Byte)
  /-- LINE_RETURNED_TO_MARK (R185). -/
  | lineReturnedToMark
  deriving DecidableEq, Repr

end Sys2Proof
end

