-- ==== Sys2Proof/Decode.lean ====
section
/-!
DEFINITION. The table decoder. spec/opcode_table.json gives no bits to any row (its commands are events and requests, not
instruction words), so no word spells a command. The bytes of host frames and slots are decoded in Machine/Operands.lean.
-/

namespace Sys2Proof

/-- The command that a word spells by the table's bits: none, since no row of the table has bits. -/
def decodeTableWord (_nbits _w : Nat) : Option Instr := none

end Sys2Proof
end

