-- ==== Sys2Proof/Config.lean ====
section
/-!
DEFINITION. What the 2260's manual fixes for every part (capacities and limits), the length of the model's time tick,
and the free values of the model: the order in which the part takes things whose order the manual leaves open, and two fields
of a reply.
-/

namespace Sys2Proof.Config

/-- Frames in one second: each frame takes 500 µs (R1). One tick of the model's time is one frame (log entry 4). -/
def ticksPerSecond : Nat := 2000

/-- Downstream message queue, messages per station (R16). -/
def downQueueRoom : Nat := 4

/-- In-flight queue, sheets per station (R71). -/
def inFlightRoom : Nat := 8

/-- Upstream receive buffer, bytes (R13). -/
def upBufferRoom : Nat := 32

/-- Consecutive arrivals that change the presence state (R3). -/
def presenceLimit : Nat := 16

/-- Consecutive arrivals that end a message in either direction (R15, R19). -/
def arrivalLimit : Nat := 64

/-- Account table, records (R103). -/
def accountRoom : Nat := 2048

/-- Deny list, tokens (R138). -/
def denyRoom : Nat := 256

/-- Stand-in list, entries (R135). -/
def standInRoom : Nat := 32

/-- Billing journal, records (R141). -/
def journalRoom : Nat := 512

/-- Host receive queue, requests (R174). -/
def receiveRoom : Nat := 4

/-- Top of the session's impression count (R50). -/
def impressionTop : Nat := 999999

/-- Top of the fine total, in fine units (R50). -/
def fineTop : Nat := 1200000000

/-- Top of a card session's authority, in minor units (R129). -/
def authorityTop : Nat := 200000

/-- Highest account balance, in minor units (R104). -/
def balanceTop : Int := 9999999

/-- Lowest account balance ACCOUNT PUT may carry, in minor units (R111). -/
def balanceBottom : Int := -99999

/-- Top of the saturating 3-byte history counts (R61, R73, R109). -/
def countTop : Nat := 16777215

/-- Top of the saturating 2-byte counts (R84, R130, R172, R183). -/
def shortTop : Nat := 65535

/-- Station meters and lifetime spend roll over at this count (R77, R106). -/
def meterModulus : Nat := 1000000000

/-- The seconds clock and the journal number roll over at this count (R141, R152). -/
def longModulus : Nat := 4294967296

/-- A FREE VALUE: which of the orders the manual leaves open is taken at the `n`-th open choice (R2: the events of one
arrival; R42: the stations at HALT; R132: the stations at link DOWN; R114: the stations of a frozen account; R121: the
entries of an AUTH PENDING reply). It has no body, so no proof can see it. Log entry 1. -/
opaque openChoice : Nat → Nat

/-- A FREE VALUE: the tariff class that an account reply carries for a number in no range. The manual gives the reply's entry
and kind there and no tariff class (spec/11 section 11.3). Log entry 10. -/
opaque unstatedTariffClass : Nat → Nat

/-- A FREE VALUE: the overdraft that an account reply carries for a number in no range, which the manual does not give
(spec/11 section 11.3). Log entry 10. -/
opaque unstatedOverdraft : Nat → Nat

end Sys2Proof.Config
end

