-- ==== Sys2Proof/Machine/State.lean ====
section
/-!
DEFINITION. The state of the 2260: every piece of state that spec/ gives its nine blocks (spec/00 section 4.1), as plain
data, with its value after RESET, and the queue of waiting commands. INVENTORY.md lists each field with its rule.
-/

namespace Sys2Proof.Machine

/-! ## Values shared by several blocks -/

/-- The colour of a sheet (R45). -/
inductive Colour where
  | mono
  | colour
  deriving DecidableEq, Repr

/-- The sheet specification of a pick (R8), with the sides value as received, 0 to 3. -/
structure SheetSpec where
  media : Fin 8
  colour : Colour
  sides : Fin 4
  deriving DecidableEq, Repr

/-- The seven station state codes; a JAM includes its location (R6). -/
inductive Code where
  | ready
  | running
  | warming
  | paperOut
  | doorOpen
  | jam (location : Fin 16)
  | fault
  deriving DecidableEq, Repr

/-- The line state as reported: one of the seven codes, a JAM without its location, or ABSENT (R7, R180). -/
inductive LineState where
  | ready
  | running
  | warming
  | paperOut
  | doorOpen
  | jam
  | fault
  | absent
  deriving DecidableEq, Repr

/-- STOP reasons (R64). -/
inductive StopReason where
  | noSession
  | stalled
  | closing
  | hold
  | badSpec
  | notPriced
  | limit
  | funds
  | pathFull
  deriving DecidableEq, Repr

/-- A pick answer as held for the downstream half (R8, R9). -/
inductive Answer where
  | none
  | go
  | wait
  | stop (reason : StopReason)
  deriving DecidableEq, Repr

/-- REFUSED reasons (R25 to R29, spec/11 section 11.8). -/
inductive RefusedReason where
  | session
  | stopped
  | outOfService
  | journal
  | cardsOff
  | unknown
  | frozen
  | inUse
  | funds
  | declined
  | offline
  deriving DecidableEq, Repr

/-- Payer kinds (R20). -/
inductive PayerKind where
  | account
  | card
  | standIn
  deriving DecidableEq, Repr

/-- A payer: its kind with its identity, an account number or a card token (R20). -/
inductive Payer where
  | account (number : Nat)
  | card (token : Token)
  | standIn (token : Token)
  deriving DecidableEq, Repr

/-- Close reasons. A session in DRAINING, or its close pending, holds one of the first five; STALL_TIMEOUT and HALT are
recorded at a close (R20, R39). -/
inductive CloseReason where
  | finish
  | idle
  | host
  | frozen
  | disabled
  | stallTimeout
  | halt
  deriving DecidableEq, Repr

/-- The outcome of the closing cent (R59). -/
inductive ClosingCent where
  | none
  | posted
  | waived
  deriving DecidableEq, Repr

/-- Causes of an AUTH CANCEL (R122). -/
inductive CancelCause where
  | timeout
  | linkDown
  | closed
  | absent
  | halt
  deriving DecidableEq, Repr

/-- Stoppage causes, a JAM with its location (R80). -/
inductive Cause where
  | jam (location : Fin 16)
  | door
  | fault
  | absent
  deriving DecidableEq, Repr

/-- ANOMALY kinds (spec/01 section 1.9, R73, R75). -/
inductive AnomalyKind where
  | badCode
  | upUnknown
  | upAbort
  | upLong
  | upTimeout
  | downFull
  | downAbort
  | downTimeout
  | unchargedExit
  | overdue
  deriving DecidableEq, Repr

/-! ## The station line controller (chapter 1) -/

/-- The pick latch (spec/01 section 1.4). RAISED holds the request's serial and specification and whether WAIT has been
given; ANSWERED holds the GO or STOP given. -/
inductive Latch where
  | disarmed
  | idle
  | raised (serial : Nat) (spec : SheetSpec) (waiting : Bool)
  | answeredGo
  | answeredStop (reason : StopReason)
  deriving DecidableEq, Repr

/-- The marks of a message byte (spec/01 section 1.1). -/
inductive MsgMark where
  | idle
  | data
  | last
  | abort
  deriving DecidableEq, Repr

/-- The acknowledge marks (spec/01 section 1.1). -/
inductive AckMark where
  | none
  | ack
  | abort
  deriving DecidableEq, Repr

/-- The upstream channel (R13): IDLE, or RECEIVING with its buffer and the arrivals since its last byte (R15). -/
inductive UpChannel where
  | idle
  | receiving (buffer : List Byte) (quiet : Nat)
  deriving DecidableEq, Repr

/-- The downstream messages, with their contents as fixed at the offer (spec/01 section 1.8). -/
inductive DownMsg where
  | opened (payer : PayerKind) (amount : Nat)
  | showing (spent remaining : Nat)
  | refused (reason : RefusedReason)
  | closed (spent : Nat) (cent : ClosingCent)
  deriving DecidableEq, Repr

/-- What the station line controller holds for one station. -/
structure StationLine where
  /-- present, or ABSENT (R3) -/
  present : Bool
  /-- the contrary count (R3) -/
  contrary : Nat
  /-- the confirmed code, `none` while UNSET (R6) -/
  confirmed : Option Code
  /-- the candidate code (R6) -/
  candidate : Option Code
  /-- the pick latch with its answer (R8, R9) -/
  latch : Latch
  /-- the station's pick serial (R8) -/
  serial : Nat
  /-- the upstream channel with its receive buffer (R13) -/
  up : UpChannel
  /-- the acknowledgement owed in the next downstream half (R13, R15) -/
  ackOwed : AckMark
  /-- the downstream queue, oldest first (R16) -/
  down : List DownMsg
  /-- how many bytes of the head message the station has acknowledged (R18) -/
  downTaken : Nat
  /-- a byte of the head awaits acknowledgement: the arrivals since it was sent (R18, R19) -/
  downWait : Option Nat
  /-- the message mark ABORT is due in the next downstream half (R19) -/
  downAbort : Bool
  /-- the model's own: the downstream half last driven on SLD, empty before the first (R12) -/
  sent : List Byte
  deriving DecidableEq, Repr

/-! ## The session controller (chapter 2) -/

/-- Session states (R20). -/
inductive SessionState where
  | none
  | authorizing
  | opened
  | stalled
  | draining
  deriving DecidableEq, Repr

/-- The session record (R20). -/
structure Session where
  state : SessionState
  number : Nat
  payer : Option Payer
  cardClass : Option CardClass
  tariffClass : Option (Fin 8)
  openTime : Option Nat
  closeReason : Option CloseReason
  closePending : Option CloseReason
  fineTotal : Nat
  spent : Nat
  impressions : Nat
  chargedMono : Nat
  chargedColour : Nat
  creditedImpressions : Nat
  creditedAmount : Nat
  unreturnedCredit : Nat
  authority : Option Nat
  increments : Nat
  noMoreIncrements : Bool
  stallCount : Nat
  unchargedExits : Nat
  deriving DecidableEq, Repr

/-! ## The sheet tracker (chapters 4 and 9) -/

/-- The wait cause of a WAITING request (R63). -/
inductive WaitCause where
  | pathFull
  | funds
  deriving DecidableEq, Repr

/-- The request state (R63): WAITING holds the serial, the specification, the wait cause and the time left on the pick
wait timer, in ticks. -/
inductive RequestState where
  | idle
  | waiting (serial : Nat) (spec : SheetSpec) (cause : WaitCause) (left : Nat)
  deriving DecidableEq, Repr

/-- The kind of an in-flight entry (R71). -/
inductive EntryKind where
  | charged
  | service
  deriving DecidableEq, Repr

/-- An entry of the in-flight queue (R71): its age is counted in ticks, its transit limit in seconds. -/
structure InFlight where
  kind : EntryKind
  impressions : Nat
  colour : Colour
  media : Fin 8
  price : Nat
  age : Nat
  limit : Nat
  deriving DecidableEq, Repr

/-- The seven station meters (R77). -/
structure Meters where
  granted : Nat
  delivered : Nat
  serviceDelivered : Nat
  writtenOff : Nat
  stalls : Nat
  unchargedExits : Nat
  sessionsClosed : Nat
  deriving DecidableEq, Repr

/-- The service hold states (R157). -/
inductive HoldState where
  | none
  | requested
  | held
  | releasing
  deriving DecidableEq, Repr

/-! ## The recovery unit (chapter 5) -/

/-- Station availability (R80). -/
inductive Availability where
  | enabled
  | outOfService
  deriving DecidableEq, Repr

/-- What the recovery unit holds for one station (R80). -/
structure Recovery where
  /-- the stoppage condition with its cause, `none` while clear -/
  stoppage : Option Cause
  /-- the stall timer: stopped, or running with the ticks left -/
  stallTimer : Option Nat
  availability : Availability
  disablePending : Bool
  deriving DecidableEq, Repr

/-! ## The card authorization unit (chapter 7) -/

/-- Authorization kinds (R121). -/
inductive AuthKind where
  | initial
  | increment
  deriving DecidableEq, Repr

/-- An entry of the pending authorization table (R121), with the ticks left on its authorization timer. -/
structure AuthEntry where
  reference : Nat
  sessionNumber : Nat
  kind : AuthKind
  amount : Nat
  token : Token
  left : Nat
  deriving DecidableEq, Repr

/-- The card policy (R119). -/
structure CardPolicy where
  initialHold : Nat
  increment : Nat
  threshold : Nat
  tariffClass : Fin 8
  standInLimit : Nat
  standInMinimum : Nat
  standInCap : Nat
  deriving DecidableEq, Repr

/-- An entry of the stand-in list (R135). -/
structure StandInEntry where
  token : Token
  amount : Nat
  sessionNumber : Nat
  station : StationId
  settled : Bool
  deriving DecidableEq, Repr

/-- What the card authorization unit holds beside the pending authorization table, which is kept per station. -/
structure CardUnit where
  policy : CardPolicy
  /-- the authorization reference counter (R121) -/
  nextReference : Nat
  /-- the deny list (R138) -/
  deny : List Token
  /-- the stand-in list, oldest first (R135) -/
  standIn : List StandInEntry
  deriving DecidableEq, Repr

/-! ## The host line controller's notice conditions (chapter 10) -/

/-- The content of an AUTH REQUEST notice, but for its station (R122). -/
structure AuthRequest where
  reference : Nat
  sessionNumber : Nat
  kind : AuthKind
  amount : Nat
  token : Token
  deriving DecidableEq, Repr

/-- The content of an AUTH CANCEL notice, but for its station (R122). -/
structure AuthCancel where
  reference : Nat
  cause : CancelCause
  deriving DecidableEq, Repr

/-- The report kinds of the JAM class (R97). -/
inductive JamKind where
  | stoppage
  | recovery
  | stallTimeout
  deriving DecidableEq, Repr

/-- One report of the JAM class, but for its station (R97). -/
structure JamReport where
  kind : JamKind
  cause : Cause
  credited : Nat
  deriving DecidableEq, Repr

/-- The pending forms that the host line controller keeps for one station (R178 to R181). -/
structure Conditions where
  authRequest : Option AuthRequest
  authCancel : Option AuthCancel
  jam : Option JamReport
  session : Bool
  lineFirst : Option LineState
  lineLatest : Option LineState
  anomalies : Nat
  latestAnomaly : Option AnomalyKind
  deriving DecidableEq, Repr

/-- All that the 2260 holds for one station, block by block. -/
structure Station where
  line : StationLine
  session : Session
  /-- the idle timer: stopped, or running with the ticks left (R31) -/
  idleTimer : Option Nat
  request : RequestState
  /-- the in-flight queue, oldest first (R71) -/
  queue : List InFlight
  meters : Meters
  hold : HoldState
  recovery : Recovery
  /-- the station's entry of the pending authorization table (R121) -/
  auth : Option AuthEntry
  cond : Conditions
  deriving DecidableEq, Repr

/-! ## The charge unit (chapter 3) -/

/-- A tier of volume discount: its threshold, 0 for unused, and its discount in percent (R47). -/
structure Tier where
  threshold : Nat
  discount : Nat
  deriving DecidableEq, Repr

/-- The four tiers of a tariff class; tier 0 always starts at index 1 (R47). -/
structure TierSet where
  discount0 : Nat
  tier1 : Tier
  tier2 : Tier
  tier3 : Tier
  deriving DecidableEq, Repr

/-- The charge unit's tables: the tariff table, indexed by class, media and colour, `none` for UNSET (R45), and the tier
table (R47). -/
structure ChargeUnit where
  tariff : Vector (Option Nat) 128
  tiers : Vector TierSet 8
  deriving DecidableEq, Repr

/-! ## The account unit (chapter 6) -/

/-- The kind of a range (R99). -/
inductive RangeKind where
  | prepaid
  | postpaid
  deriving DecidableEq, Repr

/-- A used entry of the range table (R99). -/
structure Range where
  low : Nat
  high : Nat
  kind : RangeKind
  tariffClass : Fin 8
  overdraft : Nat
  deriving DecidableEq, Repr

/-- A record of the account table (R103). -/
structure Account where
  number : Nat
  balance : Int
  frozen : Bool
  maxSessions : Nat
  openSessions : Nat
  lifetimeSpend : Nat
  lastUse : Nat
  deriving DecidableEq, Repr

/-- The account unit: the range table, `none` for an unused entry (R99), and the account table, held in rising order of
the account number (R103). -/
structure AccountUnit where
  ranges : Vector (Option Range) 8
  accounts : List Account
  deriving DecidableEq, Repr

/-! ## The journal unit (chapter 8) -/

/-- A journal record (R142). -/
structure JournalRecord where
  journalNumber : Nat
  sessionNumber : Nat
  station : StationId
  payer : Payer
  cardClass : Option CardClass
  tariffClass : Fin 8
  openTime : Nat
  closeTime : Nat
  clockUnset : Bool
  reason : CloseReason
  cent : ClosingCent
  authority : Nat
  spent : Nat
  chargedMono : Nat
  chargedColour : Nat
  creditedImpressions : Nat
  creditedAmount : Nat
  stallCount : Nat
  unchargedExits : Nat
  increments : Nat
  unreturnedCredit : Nat
  deriving DecidableEq, Repr

/-- The urgency levels (R141). -/
inductive Urgency where
  | release
  | may
  | need
  | must
  deriving DecidableEq, Repr

/-- The journal unit (R141). The occupancy is the number of records. -/
structure JournalUnit where
  /-- the billing journal, oldest first -/
  records : List JournalRecord
  nextNumber : Nat
  level : Urgency
  clock : Nat
  clockUnset : Bool
  deriving DecidableEq, Repr

/-! ## The host line controller (chapter 10) -/

/-- The operating states (R23). -/
inductive OpState where
  | stopped
  | running
  | stopping
  deriving DecidableEq, Repr

/-- The receiver (R172): HUNTING, or IN_FRAME with the bytes taken after the start byte. -/
inductive Receiver where
  | hunting
  | inFrame (bytes : List Byte)
  deriving DecidableEq, Repr

/-- A queued request as its frame brought it: kind and body (R174). -/
structure HostFrame where
  kind : Byte
  body : List Byte
  deriving DecidableEq, Repr

/-- The reply statuses (R175). -/
inductive Status where
  | ok
  | kind
  | length
  | range
  | state
  | busy
  | full
  | notFound
  | conflict
  | late
  deriving DecidableEq, Repr

/-- A reply: the kind of the request it answers, its status, and the body after the status byte (R175, R191). -/
structure Reply where
  requestKind : Byte
  status : Status
  body : List Byte
  deriving DecidableEq, Repr

/-- The reply buffer (R174). -/
inductive ReplyBuffer where
  | empty
  | waiting (reply : Reply)
  | sending (reply : Reply)
  deriving DecidableEq, Repr

/-- The outbound line HTX (R182): free, or claimed by a reply or a notice whose frame it carries. -/
inductive Htx where
  | free
  | reply (bytes : List Byte)
  | notice (bytes : List Byte)
  deriving DecidableEq, Repr

/-- The six timer values of SET TIMERS, the stall value in minutes and the others in seconds (R184). -/
structure TimerValues where
  idle : Nat
  pickWait : Nat
  transit : Nat
  stall : Nat
  auth : Nat
  silence : Nat
  deriving DecidableEq, Repr

/-- The five notice levels that SET LEVELS sets; the level of AUTH is 3 and does not change (R177). -/
structure Levels where
  jam : Nat
  session : Nat
  station : Nat
  anomaly : Nat
  journal : Nat
  deriving DecidableEq, Repr

/-- The station last served in each class (R182, R187). The JOURNAL class is kept for the part and serves no station. -/
structure LastServed where
  auth : StationId
  jam : StationId
  session : StationId
  station : StationId
  anomaly : StationId
  journal : StationId
  deriving DecidableEq, Repr

/-- The line counters (R172, R173, R183, R185). -/
structure Counters where
  lengthErrors : Nat
  checkErrors : Nat
  gapErrors : Nat
  strayFrames : Nat
  overruns : Nat
  breaks : Nat
  linkDowns : Nat
  deriving DecidableEq, Repr

/-- The host line controller, but for the conditions that it keeps per station. -/
structure HostLine where
  /-- the STATIONS strap as sampled: high is 16 stations (R1) -/
  stationsHigh : Bool
  /-- the LINERATE strap as sampled: high is 115,200 bit/s (R170) -/
  lineRateHigh : Bool
  receiver : Receiver
  /-- a line break has been taken and HRX has not yet returned to mark (R185) -/
  breakHeld : Bool
  /-- the receive queue, oldest first (R174) -/
  received : List HostFrame
  reply : ReplyBuffer
  htx : Htx
  /-- the level of the input HRDYI (R170, R176) -/
  hrdyi : Bool
  op : OpState
  /-- the link state, `true` while UP (R183) -/
  linkUp : Bool
  /-- the silence timer: stopped, or running with the ticks left (R183) -/
  silenceTimer : Option Nat
  timers : TimerValues
  levels : Levels
  lastServed : LastServed
  /-- the flag of the JOURNAL class (R181) -/
  journalFlag : Bool
  counters : Counters
  deriving DecidableEq, Repr

/-- An upstream message as delivered to the session controller (R14). -/
inductive UpMessage where
  | card (token : Token) (cardClass : CardClass)
  | account (number : Nat)
  | finish
  deriving DecidableEq, Repr

/-! ## What may come between two parts of one command (log entry 20) -/

/-- Something that reaches the part between two parts of one command, where the rules let it (R32, R58, R88, R107, R118). -/
inductive Meanwhile where
  /-- a pick raised at a station -/
  | pick (station : StationId) (spec : SheetSpec)
  /-- the pick field of a station dropped -/
  | dropped (station : StationId)
  /-- exits reported at a station, 1 to 3; a count of 0 raises no event (R11) -/
  | exits (station : StationId) (count : Fin 4)
  /-- a message delivered at a station -/
  | message (station : StationId) (content : UpMessage)
  /-- READY, or RUNNING, confirmed at a station -/
  | recovered (station : StationId) (running : Bool)
  /-- a code confirmed at a station -/
  | code (station : StationId) (code : Code)
  /-- the idle timer of a station runs out -/
  | idleExpiry (station : StationId)
  /-- the stall timer of a station runs out -/
  | stallExpiry (station : StationId)
  /-- the head entry of a station reaches its transit limit -/
  | overdue (station : StationId)
  /-- a request of the shop computer -/
  | request (request : Request)
  /-- the outbound arbiter acts -/
  | arbiter
  /-- the last byte of the frame on HTX has been sent -/
  | frameSent
  /-- the removal series under way at a station goes on, or HALT goes on to a station: the next credit there, or the end -/
  | advance (station : StationId)
  deriving DecidableEq, Repr

/-- The state of the machine. The last four fields are the model's own: the tape and the count of the open choices (log
entry 1), what comes between the parts of the commands to come (log entry 20), and the queue of waiting commands. -/
structure State where
  stations : Vector Station 16
  /-- the slot that comes next in the frame, which belongs to the station of its number (R1) -/
  slot : StationId
  /-- the session number counter (R21) -/
  nextSession : Nat
  charge : ChargeUnit
  accounts : AccountUnit
  cards : CardUnit
  journal : JournalUnit
  host : HostLine
  /-- the orders to take at the next open choices; when it is empty they come from `Config.openChoice` -/
  choiceTape : List Nat
  /-- how many open choices have come from `Config.openChoice` -/
  choiceCount : Nat
  /-- what reaches the part at the gaps to come, a list for each gap, in order; at the end of it nothing more does -/
  meanwhile : List (List Meanwhile)
  /-- the commands that wait, first in, first out -/
  pending : List Instr
  deriving DecidableEq, Repr

/-! ## Reset values -/

/-- The station line state at power-on (spec/01 section 1.10). -/
def StationLine.reset : StationLine where
  present := false
  contrary := 0
  confirmed := none
  candidate := none
  latch := .disarmed
  serial := 0
  up := .idle
  ackOwed := .none
  down := []
  downTaken := 0
  downWait := none
  downAbort := false
  sent := []

/-- The session record in NONE, holding the number of the session that has ended (R20). -/
def Session.ended (number : Nat) : Session where
  state := .none
  number := number
  payer := none
  cardClass := none
  tariffClass := none
  openTime := none
  closeReason := none
  closePending := none
  fineTotal := 0
  spent := 0
  impressions := 0
  chargedMono := 0
  chargedColour := 0
  creditedImpressions := 0
  creditedAmount := 0
  unreturnedCredit := 0
  authority := none
  increments := 0
  noMoreIncrements := false
  stallCount := 0
  unchargedExits := 0

/-- All seven meters at 0 (R77). -/
def Meters.zero : Meters := ⟨0, 0, 0, 0, 0, 0, 0⟩

/-- The recovery unit's state at power-on (R80). -/
def Recovery.reset : Recovery := ⟨none, none, .enabled, false⟩

/-- Every pending form empty, every flag clear, every count 0 (R178 to R181, R187). -/
def Conditions.clear : Conditions := ⟨none, none, none, false, none, none, 0, none⟩

/-- One station at power-on. -/
def Station.reset : Station where
  line := StationLine.reset
  session := Session.ended 0
  idleTimer := none
  request := .idle
  queue := []
  meters := Meters.zero
  hold := .none
  recovery := Recovery.reset
  auth := none
  cond := Conditions.clear

/-- The tiers of a class at power-on: tier 0 with discount 0, the others unused (R47). -/
def TierSet.reset : TierSet := ⟨0, ⟨0, 0⟩, ⟨0, 0⟩, ⟨0, 0⟩⟩

/-- The tariff table all UNSET (R45) and the tier table of R47. -/
def ChargeUnit.reset : ChargeUnit := ⟨Vector.replicate 128 none, Vector.replicate 8 TierSet.reset⟩

/-- Every range unused (R99), no account stored (R103). -/
def AccountUnit.reset : AccountUnit := ⟨Vector.replicate 8 none, []⟩

/-- The card policy at power-on (R119). -/
def CardPolicy.reset : CardPolicy := ⟨0, 1000, 0, 0, 0, 0, 0⟩

/-- The card authorization unit at power-on (R119, R121, R135, R138). -/
def CardUnit.reset : CardUnit := ⟨CardPolicy.reset, 1, [], []⟩

/-- The journal unit at power-on (R141). -/
def JournalUnit.reset : JournalUnit := ⟨[], 0, .release, 0, true⟩

/-- The timer values at power-on (R184). -/
def TimerValues.reset : TimerValues := ⟨120, 15, 30, 20, 20, 30⟩

/-- The notice levels at power-on (R177). -/
def Levels.reset : Levels := ⟨3, 2, 1, 1, 2⟩

/-- The station last served is 15 in each class (R182). -/
def LastServed.reset : LastServed := ⟨15, 15, 15, 15, 15, 15⟩

/-- All line counters at 0 (R187). -/
def Counters.zero : Counters := ⟨0, 0, 0, 0, 0, 0, 0⟩

/-- The host line controller at power-on (R187), with the levels that the straps and the input HRDYI have then. -/
def HostLine.powerOn (stationsHigh lineRateHigh hrdyi : Bool) : HostLine where
  stationsHigh := stationsHigh
  lineRateHigh := lineRateHigh
  receiver := .hunting
  breakHeld := false
  received := []
  reply := .empty
  htx := .free
  hrdyi := hrdyi
  op := .stopped
  linkUp := true
  silenceTimer := some (30 * Config.ticksPerSecond)
  timers := TimerValues.reset
  levels := Levels.reset
  lastServed := LastServed.reset
  journalFlag := false
  counters := Counters.zero

/-- The part at power-on, for given strap levels and a given level of HRDYI; nothing waits. -/
def State.powerOn (stationsHigh lineRateHigh hrdyi : Bool) : State where
  stations := Vector.replicate 16 Station.reset
  slot := 0
  nextSession := 1
  charge := ChargeUnit.reset
  accounts := AccountUnit.reset
  cards := CardUnit.reset
  journal := JournalUnit.reset
  host := HostLine.powerOn stationsHigh lineRateHigh hrdyi
  choiceTape := []
  choiceCount := 0
  meanwhile := []
  pending := []

/-- The machine right after reset. The levels of the straps and of HRDYI come from the board and the shop computer: the
STATIONS strap high, LINERATE low and HRDYI asserted are the model's choice (DESIGN CHOICE, log entry 2). -/
def State.reset : State := State.powerOn true false true

/-! ## Outcomes -/

/-- Faults. There is none: the manual gives the 2260 no condition that stops it, so no command faults and this type has
no constructor. -/
inductive Fault where
  deriving DecidableEq, Repr

/-- Refusals. -/
inductive Refusal where
  /-- Raised only by an arm of `exec` whose command has no meaning yet; safe, since the model then claims nothing. No arm
  of this model answers it. -/
  | notModelled (mnemonic : String)
  deriving DecidableEq, Repr

end Sys2Proof.Machine
end

