-- ==== Sys2Proof/Machine/Operands.lean ====
section
/-!
DEFINITION. Every form that crosses the two lines as bytes (chapter 11): the field encodings, the code values, the frame
and its check, the bodies of requests, the journal record, the notices, the station messages, and the two slot halves.
-/

namespace Sys2Proof.Machine

/-! ## Field encodings (R189) -/

/-- A number as `n` bytes, most significant byte first (R189). -/
def beBytes : Nat → Nat → List Byte
  | 0, _ => []
  | n + 1, v => BitVec.ofNat 8 (v / 256 ^ n) :: beBytes n v

/-- The number that bytes give, most significant byte first (R189). -/
def ofBytes (bytes : List Byte) : Nat :=
  bytes.foldl (fun acc b => acc * 256 + b.toNat) 0

/-- A signed amount: 4 bytes, two's complement (R189). -/
def signedBytes (v : Int) : List Byte := beBytes 4 (BitVec.ofInt 32 v).toNat

/-- A flag as one byte: clear 0, set 1 (spec/11 section 11.8). -/
def flagByte (b : Bool) : Byte := if b then 1 else 0

/-- The field of `width` bits that starts `offset` bytes into a body (R190). -/
def bodyField (width offset : Nat) (body : List Byte) : BitVec width :=
  BitVec.ofNat width (ofBytes ((body.drop offset).take (width / 8)))

/-! ## Code values (spec/11 section 11.8) -/

def codeValue : Code → Byte
  | .ready => 1
  | .running => 2
  | .warming => 3
  | .paperOut => 4
  | .doorOpen => 5
  | .jam _ => 6
  | .fault => 7

/-- The jam location of a code, 0 where the code is not JAM. -/
def codeLocation : Code → Byte
  | .jam l => BitVec.ofNat 8 l.val
  | _ => 0

def lineStateValue : LineState → Byte
  | .ready => 1
  | .running => 2
  | .warming => 3
  | .paperOut => 4
  | .doorOpen => 5
  | .jam => 6
  | .fault => 7
  | .absent => 8

def stopReasonValue : StopReason → Byte
  | .noSession => 1
  | .stalled => 2
  | .closing => 3
  | .hold => 4
  | .badSpec => 5
  | .notPriced => 6
  | .limit => 7
  | .funds => 8
  | .pathFull => 9

def refusedReasonValue : RefusedReason → Byte
  | .session => 1
  | .stopped => 2
  | .outOfService => 3
  | .journal => 4
  | .cardsOff => 5
  | .unknown => 6
  | .frozen => 7
  | .inUse => 8
  | .funds => 9
  | .declined => 10
  | .offline => 11

def sessionStateValue : SessionState → Byte
  | .none => 0
  | .authorizing => 1
  | .opened => 2
  | .stalled => 3
  | .draining => 4

/-- The kind of a payer. -/
def payerKind : Payer → PayerKind
  | .account _ => .account
  | .card _ => .card
  | .standIn _ => .standIn

def payerKindValue : PayerKind → Byte
  | .account => 1
  | .card => 2
  | .standIn => 3

def cardClassValue : Option CardClass → Byte
  | none => 0
  | some .credit => 1
  | some .debit => 2

def closeReasonValue : CloseReason → Byte
  | .finish => 1
  | .idle => 2
  | .host => 3
  | .frozen => 4
  | .disabled => 5
  | .stallTimeout => 6
  | .halt => 7

def centValue : ClosingCent → Byte
  | .none => 0
  | .posted => 1
  | .waived => 2

def colourValue : Colour → Byte
  | .mono => 0
  | .colour => 1

def opStateValue : OpState → Byte
  | .stopped => 0
  | .running => 1
  | .stopping => 2

def urgencyValue : Urgency → Byte
  | .release => 0
  | .may => 1
  | .need => 2
  | .must => 3

def holdValue : HoldState → Byte
  | .none => 0
  | .requested => 1
  | .held => 2
  | .releasing => 3

def availabilityValue : Availability → Byte
  | .enabled => 0
  | .outOfService => 1

def rangeKindValue : RangeKind → Byte
  | .prepaid => 1
  | .postpaid => 2

def authKindValue : AuthKind → Byte
  | .initial => 1
  | .increment => 2

def cancelCauseValue : CancelCause → Byte
  | .timeout => 1
  | .linkDown => 2
  | .closed => 3
  | .absent => 4
  | .halt => 5

def jamKindValue : JamKind → Byte
  | .stoppage => 1
  | .recovery => 2
  | .stallTimeout => 3

def causeValue : Cause → Byte
  | .jam _ => 1
  | .door => 2
  | .fault => 3
  | .absent => 4

/-- The jam location of a cause, 0 where the cause is not JAM (R97). -/
def causeLocation : Cause → Byte
  | .jam l => BitVec.ofNat 8 l.val
  | _ => 0

def standInStateValue (settled : Bool) : Byte := if settled then 2 else 1

def requestStateValue : RequestState → Byte
  | .idle => 0
  | .waiting _ _ .pathFull _ => 1
  | .waiting _ _ .funds _ => 2

def anomalyValue : AnomalyKind → Byte
  | .badCode => 1
  | .upUnknown => 2
  | .upAbort => 3
  | .upLong => 4
  | .upTimeout => 5
  | .downFull => 6
  | .downAbort => 7
  | .downTimeout => 8
  | .unchargedExit => 9
  | .overdue => 10

def statusValue : Status → Byte
  | .ok => 0
  | .kind => 1
  | .length => 2
  | .range => 3
  | .state => 4
  | .busy => 5
  | .full => 6
  | .notFound => 7
  | .conflict => 8
  | .late => 9

/-! ## The frame and its check (R171, spec/10 section 10.2) -/

/-- One bit of the cyclic check with polynomial x^16 + x^12 + x^5 + 1 (R171). -/
def checkBit (r : BitVec 16) : BitVec 16 :=
  if r.msb then (r <<< 1) ^^^ 0x1021#16 else r <<< 1

/-- One byte fed to the check register, most significant bit first (R171). -/
def checkByte (r : BitVec 16) (b : Byte) : BitVec 16 :=
  checkBit (checkBit (checkBit (checkBit (checkBit (checkBit (checkBit (checkBit
    (r ^^^ (b.zeroExtend 16 <<< 8)))))))))

/-- The frame check of the bytes from the length byte to the last body byte (R171). -/
def frameCheck (bytes : List Byte) : BitVec 16 := bytes.foldl checkByte 0xFFFF#16

/-- A whole frame of a kind and a body: start, length, kind, body and check (spec/10 section 10.2, R171). -/
def frameBytes (kind : Byte) (body : List Byte) : List Byte :=
  let counted := BitVec.ofNat 8 (1 + body.length) :: kind :: body
  0xA5#8 :: (counted ++ beBytes 2 (frameCheck counted).toNat)

/-- The frame of a reply: the request's kind plus 0x80, the status, and the body (R191). -/
def replyFrame (r : Reply) : List Byte :=
  frameBytes (r.requestKind + 0x80#8) (statusValue r.status :: r.body)

/-! ## Request bodies (spec/11 section 11.2) -/

/-- The body length of each kind of the catalogue; `none` for a kind that the catalogue does not name (R175). -/
def bodyLength : Nat → Option Nat
  | 0x01 => some 0
  | 0x02 => some 0
  | 0x03 => some 0
  | 0x04 => some 0
  | 0x05 => some 12
  | 0x06 => some 5
  | 0x07 => some 4
  | 0x08 => some 5
  | 0x09 => some 14
  | 0x0A => some 13
  | 0x0B => some 14
  | 0x0C => some 0
  | 0x10 => some 9
  | 0x11 => some 3
  | 0x12 => some 7
  | 0x13 => some 3
  | 0x14 => some 3
  | 0x15 => some 3
  | 0x18 => some 6
  | 0x19 => some 0
  | 0x1A => some 16
  | 0x1B => some 16
  | 0x1C => some 0
  | 0x1D => some 1
  | 0x1E => some 16
  | 0x20 => some 1
  | 0x21 => some 6
  | 0x28 => some 1
  | 0x29 => some 1
  | 0x2A => some 1
  | 0x2B => some 1
  | 0x2C => some 1
  | 0x2D => some 1
  | 0x2E => some 1
  | 0x2F => some 1
  | _ => none

/-- The request that a kind and a body of its length spell, field by field in the order of the layout (R190). -/
def requestFields (kind : Nat) (b : List Byte) : Option Request :=
  match kind with
  | 0x01 => some .status
  | 0x02 => some .start
  | 0x03 => some .stop
  | 0x04 => some .halt
  | 0x05 => some (.setTimers (bodyField 16 0 b) (bodyField 16 2 b) (bodyField 16 4 b) (bodyField 16 6 b)
      (bodyField 16 8 b) (bodyField 16 10 b))
  | 0x06 => some (.setLevels (bodyField 8 0 b) (bodyField 8 1 b) (bodyField 8 2 b) (bodyField 8 3 b) (bodyField 8 4 b))
  | 0x07 => some (.setClock (bodyField 32 0 b))
  | 0x08 => some (.setTariff (bodyField 8 0 b) (bodyField 8 1 b) (bodyField 8 2 b) (bodyField 16 3 b))
  | 0x09 => some (.setTiers (bodyField 8 0 b) (bodyField 8 1 b) (bodyField 24 2 b) (bodyField 8 5 b)
      (bodyField 24 6 b) (bodyField 8 9 b) (bodyField 24 10 b) (bodyField 8 13 b))
  | 0x0A => some (.setRange (bodyField 8 0 b) (bodyField 8 1 b) (bodyField 24 2 b) (bodyField 24 5 b)
      (bodyField 8 8 b) (bodyField 8 9 b) (bodyField 24 10 b))
  | 0x0B => some (.setCardPolicy (bodyField 16 0 b) (bodyField 16 2 b) (bodyField 16 4 b) (bodyField 8 6 b)
      (bodyField 16 7 b) (bodyField 16 9 b) (bodyField 24 11 b))
  | 0x0C => some .cardPolicyGet
  | 0x10 => some (.accountPut (bodyField 24 0 b) (bodyField 32 3 b) (bodyField 8 7 b) (bodyField 8 8 b))
  | 0x11 => some (.accountGet (bodyField 24 0 b))
  | 0x12 => some (.accountAdjust (bodyField 24 0 b) (bodyField 32 3 b))
  | 0x13 => some (.accountFreeze (bodyField 24 0 b))
  | 0x14 => some (.accountThaw (bodyField 24 0 b))
  | 0x15 => some (.accountRemove (bodyField 24 0 b))
  | 0x18 => some (.authResult (bodyField 16 0 b) (bodyField 8 2 b) (bodyField 24 3 b))
  | 0x19 => some .authPending
  | 0x1A => some (.denyAdd (bodyField 128 0 b))
  | 0x1B => some (.denyRemove (bodyField 128 0 b))
  | 0x1C => some .denyClear
  | 0x1D => some (.standinList (bodyField 8 0 b))
  | 0x1E => some (.standinClear (bodyField 128 0 b))
  | 0x20 => some (.journalRead (bodyField 8 0 b))
  | 0x21 => some (.journalRelease (bodyField 16 0 b) (bodyField 32 2 b))
  | 0x28 => some (.stationGet (bodyField 8 0 b))
  | 0x29 => some (.stationEnable (bodyField 8 0 b))
  | 0x2A => some (.stationDisable (bodyField 8 0 b))
  | 0x2B => some (.sessionEnd (bodyField 8 0 b))
  | 0x2C => some (.serviceHold (bodyField 8 0 b))
  | 0x2D => some (.serviceRelease (bodyField 8 0 b))
  | 0x2E => some (.meterGet (bodyField 8 0 b))
  | 0x2F => some (.meterClear (bodyField 8 0 b))
  | _ => none

/-- The first two checks of R175 on a queued request: its kind, then the length of its body; and the request it spells. -/
def parseRequest (f : HostFrame) : Except Status Request :=
  match bodyLength f.kind.toNat with
  | none => .error .kind
  | some n =>
    if f.body.length = n then
      match requestFields f.kind.toNat f.body with
      | some r => .ok r
      | none => .error .kind
    else .error .length

/-- The kind value of a request (spec/11 section 11.2). -/
def requestKind : Request → Byte
  | .status => 0x01
  | .start => 0x02
  | .stop => 0x03
  | .halt => 0x04
  | .setTimers .. => 0x05
  | .setLevels .. => 0x06
  | .setClock .. => 0x07
  | .setTariff .. => 0x08
  | .setTiers .. => 0x09
  | .setRange .. => 0x0A
  | .setCardPolicy .. => 0x0B
  | .cardPolicyGet => 0x0C
  | .accountPut .. => 0x10
  | .accountGet .. => 0x11
  | .accountAdjust .. => 0x12
  | .accountFreeze .. => 0x13
  | .accountThaw .. => 0x14
  | .accountRemove .. => 0x15
  | .authResult .. => 0x18
  | .authPending => 0x19
  | .denyAdd .. => 0x1A
  | .denyRemove .. => 0x1B
  | .denyClear => 0x1C
  | .standinList .. => 0x1D
  | .standinClear .. => 0x1E
  | .journalRead .. => 0x20
  | .journalRelease .. => 0x21
  | .stationGet .. => 0x28
  | .stationEnable .. => 0x29
  | .stationDisable .. => 0x2A
  | .sessionEnd .. => 0x2B
  | .serviceHold .. => 0x2C
  | .serviceRelease .. => 0x2D
  | .meterGet .. => 0x2E
  | .meterClear .. => 0x2F

/-- The body of a request (spec/11 section 11.2). -/
def requestBody : Request → List Byte
  | .status => []
  | .start => []
  | .stop => []
  | .halt => []
  | .setTimers a b c d e f =>
    beBytes 2 a.toNat ++ beBytes 2 b.toNat ++ beBytes 2 c.toNat ++ beBytes 2 d.toNat ++ beBytes 2 e.toNat
      ++ beBytes 2 f.toNat
  | .setLevels a b c d e => [a, b, c, d, e]
  | .setClock v => beBytes 4 v.toNat
  | .setTariff c m k p => c :: m :: k :: beBytes 2 p.toNat
  | .setTiers c d0 t1 d1 t2 d2 t3 d3 =>
    c :: d0 :: (beBytes 3 t1.toNat ++ d1 :: (beBytes 3 t2.toNat ++ d2 :: (beBytes 3 t3.toNat ++ [d3])))
  | .setRange e o l h k c v =>
    e :: o :: (beBytes 3 l.toNat ++ (beBytes 3 h.toNat ++ k :: c :: beBytes 3 v.toNat))
  | .setCardPolicy h i t c l m p =>
    beBytes 2 h.toNat ++ (beBytes 2 i.toNat ++ (beBytes 2 t.toNat ++ c :: (beBytes 2 l.toNat ++ (beBytes 2 m.toNat
      ++ beBytes 3 p.toNat))))
  | .cardPolicyGet => []
  | .accountPut n b st m => beBytes 3 n.toNat ++ (beBytes 4 b.toNat ++ [st, m])
  | .accountGet n => beBytes 3 n.toNat
  | .accountAdjust n a => beBytes 3 n.toNat ++ beBytes 4 a.toNat
  | .accountFreeze n => beBytes 3 n.toNat
  | .accountThaw n => beBytes 3 n.toNat
  | .accountRemove n => beBytes 3 n.toNat
  | .authResult r o a => beBytes 2 r.toNat ++ o :: beBytes 3 a.toNat
  | .authPending => []
  | .denyAdd t => beBytes 16 t.toNat
  | .denyRemove t => beBytes 16 t.toNat
  | .denyClear => []
  | .standinList p => [p]
  | .standinClear t => beBytes 16 t.toNat
  | .journalRead n => [n]
  | .journalRelease n e => beBytes 2 n.toNat ++ beBytes 4 e.toNat
  | .stationGet n => [n]
  | .stationEnable n => [n]
  | .stationDisable n => [n]
  | .sessionEnd n => [n]
  | .serviceHold n => [n]
  | .serviceRelease n => [n]
  | .meterGet n => [n]
  | .meterClear n => [n]

/-- A request as its frame brings it to the receive queue. -/
def requestFrame (r : Request) : HostFrame := ⟨requestKind r, requestBody r⟩

/-! ## The journal record (spec/11 section 11.5) -/

/-- The 16 bytes of a payer identity: the card token, or 13 bytes of 0 and the account number. -/
def payerBytes : Payer → List Byte
  | .account n => beBytes 16 n
  | .card t => beBytes 16 t.toNat
  | .standIn t => beBytes 16 t.toNat

/-- A journal record as JOURNAL READ returns it: 61 bytes. -/
def recordBytes (r : JournalRecord) : List Byte :=
  beBytes 4 r.journalNumber ++ beBytes 2 r.sessionNumber
    ++ [BitVec.ofNat 8 (r.station.val * 16 + r.tariffClass.val),
        BitVec.ofNat 8 ((payerKindValue (payerKind r.payer)).toNat * 16 + (cardClassValue r.cardClass).toNat)]
    ++ payerBytes r.payer ++ beBytes 4 r.openTime ++ beBytes 4 r.closeTime
    ++ [BitVec.ofNat 8 ((flagByte r.clockUnset).toNat * 128 + (closeReasonValue r.reason).toNat * 4
        + (centValue r.cent).toNat)]
    ++ beBytes 3 r.authority ++ beBytes 3 r.spent ++ beBytes 3 r.chargedMono ++ beBytes 3 r.chargedColour
    ++ beBytes 3 r.creditedImpressions ++ beBytes 3 r.creditedAmount ++ beBytes 2 r.stallCount
    ++ beBytes 2 r.increments ++ beBytes 3 r.unchargedExits ++ beBytes 3 r.unreturnedCredit

/-! ## Notices (spec/11 section 11.4) -/

/-- A notice as built, with the values read at the build. -/
inductive Notice where
  | authRequest (station : StationId) (content : AuthRequest)
  | authCancel (station : StationId) (content : AuthCancel)
  | jam (station : StationId) (report : JamReport)
  | session (station : StationId) (state : SessionState) (number : Nat)
  | stationState (station : StationId) (first latest : LineState) (availability : Availability)
  | anomaly (station : StationId) (count : Nat) (latest : Option AnomalyKind)
  | journalLevel (level : Urgency) (occupancy : Nat)
  deriving DecidableEq, Repr

/-- A station number as one byte. -/
def stationByte (i : StationId) : Byte := BitVec.ofNat 8 i.val

/-- The kind of a notice. -/
def noticeKind : Notice → Byte
  | .authRequest .. => 0x40
  | .authCancel .. => 0x41
  | .jam .. => 0x42
  | .session .. => 0x43
  | .stationState .. => 0x44
  | .anomaly .. => 0x45
  | .journalLevel .. => 0x46

/-- The body of a notice. -/
def noticeBody : Notice → List Byte
  | .authRequest i c =>
    beBytes 2 c.reference ++ [stationByte i] ++ beBytes 2 c.sessionNumber ++ [authKindValue c.kind]
      ++ beBytes 3 c.amount ++ beBytes 16 c.token.toNat
  | .authCancel i c => beBytes 2 c.reference ++ [stationByte i, cancelCauseValue c.cause]
  | .jam i r => [stationByte i, jamKindValue r.kind, causeValue r.cause, causeLocation r.cause, BitVec.ofNat 8 r.credited]
  | .session i st n => stationByte i :: sessionStateValue st :: beBytes 2 n
  | .stationState i f l a => [stationByte i, lineStateValue f, lineStateValue l, availabilityValue a]
  | .anomaly i n k => [stationByte i, BitVec.ofNat 8 n, (k.map anomalyValue).getD 0]
  | .journalLevel l n => urgencyValue l :: beBytes 2 n

/-- The frame of a notice. -/
def noticeFrame (n : Notice) : List Byte := frameBytes (noticeKind n) (noticeBody n)

/-! ## Station messages (spec/11 section 11.6) -/

/-- The bytes of a downstream message. -/
def downBytes : DownMsg → List Byte
  | .opened p a => 0x81#8 :: payerKindValue p :: beBytes 3 a
  | .showing s r => 0x82#8 :: (beBytes 3 s ++ beBytes 3 r)
  | .refused r => [0x83#8, refusedReasonValue r]
  | .closed s c => 0x84#8 :: (beBytes 3 s ++ [centValue c])

/-- The judgement of a complete upstream message by its type and length, and of the card class of a CARD; `none` is
UP_UNKNOWN (R14, R192). -/
def upMessage (bytes : List Byte) : Option UpMessage :=
  match bytes with
  | [] => none
  | t :: rest =>
    if t = 0x01#8 ∧ rest.length = 17 then
      match (rest.drop 16).headD 0 with
      | 1#8 => some (.card (bodyField 128 0 rest) .credit)
      | 2#8 => some (.card (bodyField 128 0 rest) .debit)
      | _ => none
    else if t = 0x02#8 ∧ rest.length = 3 then some (.account (ofBytes rest))
    else if t = 0x03#8 ∧ rest.length = 0 then some .finish
    else none

/-! ## Slot halves (spec/11 section 11.7) -/

/-- The fields of an upstream half. `code` is `none` for a value that is not a code (R6, R193). -/
structure Arrival where
  present : Bool
  code : Option Code
  pick : Option SheetSpec
  exits : Nat
  mark : MsgMark
  ack : AckMark
  byte : Byte
  deriving DecidableEq, Repr

/-- The state code of an upstream half: 0 is no code, and neither is JAM with location 0 (R193). -/
def decodeCode (code location : Nat) : Option Code :=
  match code with
  | 1 => some .ready
  | 2 => some .running
  | 3 => some .warming
  | 4 => some .paperOut
  | 5 => some .doorOpen
  | 6 => if location = 0 then none else some (.jam (Fin.ofNat 16 location))
  | 7 => some .fault
  | _ => none

/-- The pick field (R193): NONE while bit 7 is 0. -/
def decodePick (b : Nat) : Option SheetSpec :=
  if b / 128 % 2 = 0 then none
  else some ⟨Fin.ofNat 8 b, if b / 64 % 2 = 0 then .mono else .colour, Fin.ofNat 4 (b / 16)⟩

/-- The message mark of an upstream half (spec/11 section 11.7). -/
def decodeMark : Nat → MsgMark
  | 1 => .data
  | 2 => .last
  | 3 => .abort
  | _ => .idle

/-- The upstream acknowledge mark: 3 is taken as NONE (R193). -/
def decodeAck : Nat → AckMark
  | 1 => .ack
  | 2 => .abort
  | _ => .none

/-- The fields of an upstream half (R193, spec/11 section 11.7). -/
def decodeHalf (h : UpHalf) : Arrival where
  present := h.b0.toNat / 128 % 2 = 1
  code := decodeCode (h.b0.toNat / 16 % 8) (h.b0.toNat % 16)
  pick := decodePick h.b1.toNat
  exits := h.b2.toNat / 64 % 4
  mark := decodeMark (h.b2.toNat / 16 % 4)
  ack := decodeAck (h.b2.toNat / 4 % 4)
  byte := h.b3

/-- The pick answer's value, and the STOP reason beside it (spec/11 section 11.7). -/
def answerValue : Answer → Nat × Nat
  | .none => (0, 0)
  | .go => (1, 0)
  | .wait => (2, 0)
  | .stop r => (3, (stopReasonValue r).toNat)

def markValue : MsgMark → Nat
  | .idle => 0
  | .data => 1
  | .last => 2
  | .abort => 3

def ackValue : AckMark → Nat
  | .none => 0
  | .ack => 1
  | .abort => 2

/-- A downstream half as the line carries it: three bytes (spec/11 section 11.7). -/
def downHalfBytes (answer : Answer) (hold : Bool) (mark : MsgMark) (ack : AckMark) (byte : Byte) : List Byte :=
  [BitVec.ofNat 8 ((answerValue answer).1 * 64 + (flagByte hold).toNat * 32 + (answerValue answer).2),
   BitVec.ofNat 8 (markValue mark * 64 + ackValue ack * 16), byte]

end Sys2Proof.Machine
end

