-- ==== Sys2Proof/Machine/Ops.lean ====
section
/-!
DEFINITION. The shared operations of every block: reading and updating one station and one block of the state, which
stations are in the frame, the open choices, the passing of time, and counts that stop or roll over.
-/

namespace Sys2Proof.Machine

/-! ## One home for each read and each write -/

/-- What the part holds for station `i`. -/
def State.st (s : State) (i : StationId) : Station := s.stations[i]

/-- Station `i` updated; nothing else changes. -/
def State.upd (s : State) (i : StationId) (f : Station → Station) : State :=
  { s with stations := s.stations.set i (f s.stations[i]) }

/-- Every station updated alike. -/
def State.updAll (s : State) (f : Station → Station) : State := { s with stations := s.stations.map f }

/-- The host line controller updated; nothing else changes. -/
def State.updHost (s : State) (f : HostLine → HostLine) : State := { s with host := f s.host }

/-- The card authorization unit updated; nothing else changes. -/
def State.updCards (s : State) (f : CardUnit → CardUnit) : State := { s with cards := f s.cards }

/-- The account unit updated; nothing else changes. -/
def State.updAccounts (s : State) (f : AccountUnit → AccountUnit) : State := { s with accounts := f s.accounts }

/-- The journal unit updated; nothing else changes. -/
def State.updJournal (s : State) (f : JournalUnit → JournalUnit) : State := { s with journal := f s.journal }

/-- The charge unit's tables updated; nothing else changes. -/
def State.updCharge (s : State) (f : ChargeUnit → ChargeUnit) : State := { s with charge := f s.charge }

/-- The session record of station `i` updated; nothing else changes. -/
def State.updSession (s : State) (i : StationId) (f : Session → Session) : State :=
  s.upd i fun x => { x with session := f x.session }

/-- The line state of station `i` updated; nothing else changes. -/
def State.updLine (s : State) (i : StationId) (f : StationLine → StationLine) : State :=
  s.upd i fun x => { x with line := f x.line }

/-- The pending forms of station `i` updated; nothing else changes. -/
def State.updCond (s : State) (i : StationId) (f : Conditions → Conditions) : State :=
  s.upd i fun x => { x with cond := f x.cond }

/-- The recovery unit's state of station `i` updated; nothing else changes. -/
def State.updRecovery (s : State) (i : StationId) (f : Recovery → Recovery) : State :=
  s.upd i fun x => { x with recovery := f x.recovery }

/-- The meters of station `i` updated; nothing else changes. -/
def State.updMeters (s : State) (i : StationId) (f : Meters → Meters) : State :=
  s.upd i fun x => { x with meters := f x.meters }

/-! ## Stations in the frame -/

/-- How many stations exist: 16 with the STATIONS strap high, 8 with it low (R1). -/
def State.frameSize (s : State) : Nat := if s.host.stationsHigh then 16 else 8

/-- Station `i` has a slot (R1). -/
def State.inFrame (s : State) (i : StationId) : Bool := i.val < s.frameSize

/-- The slot after the present one: ascending through the frame, and then slot 0 of the next, which begins at once (R1). -/
def State.nextSlot (s : State) : StationId :=
  if s.slot.val + 1 < s.frameSize then s.slot + 1 else 0

/-- The present slot over, and the next one to come; nothing else changes. -/
def State.passSlot (s : State) : State := { s with slot := s.nextSlot }

/-- The frame mark on SLF: a frame begins with it, before slot 0 (R1, spec/01 section 1.1). -/
def frameMark (s : State) : Bool := s.slot == 0

/-- An event at a station happens only at a station of the frame: with the strap low, "no event is ever raised" for
stations 8 to 15 (R1). -/
def atStation (i : StationId) (f : State → State) (s : State) : State :=
  if s.inFrame i then f s else s

/-! ## Counts -/

/-- A count that stops at its top (R61, R84, R172). -/
def addUpTo (top n k : Nat) : Nat := min top (n + k)

/-- A meter, which passes from 999,999,999 to 0 (R77). -/
def addMeter (n k : Nat) : Nat := (n + k) % Config.meterModulus

/-- The next value of a counter that runs from 1 to 65,535 (R21, R121). -/
def nextShort (n : Nat) : Nat := if n < Config.shortTop then n + 1 else 1

/-! ## Sessions that exist -/

/-- A session that is not in NONE exists (R20). -/
def sessionLive (x : Session) : Bool := x.state != .none

/-- The stations whose session exists. -/
def State.liveStations (s : State) : List StationId := allStations.filter fun i => sessionLive (s.st i).session

/-- The number of sessions (R20). -/
def State.sessions (s : State) : Nat := s.liveStations.length

/-- A station's queue holds a CHARGED entry (R36). -/
def holdsCharged (q : List InFlight) : Bool := q.any fun e => e.kind == .charged

/-- How many entries of a queue are CHARGED (R79, R169). -/
def chargedCount (q : List InFlight) : Nat := (q.filter fun e => e.kind == .charged).length

/-! ## Open choices (log entry 1) -/

/-- The ordering of a list that a number names. Every ordering of the list is named by some number. -/
def orderBy {α : Type} : Nat → List α → List α
  | _, [] => []
  | c, x :: xs => (orderBy (c / (xs.length + 1)) xs).insertIdx (c % (xs.length + 1)) x

/-- One open choice: the head of the tape, or the next free value when the tape is empty. -/
def State.choose (s : State) : Nat × State :=
  match s.choiceTape with
  | [] => (Config.openChoice s.choiceCount, { s with choiceCount := s.choiceCount + 1 })
  | c :: rest => (c, { s with choiceTape := rest })

/-- A list in an order that the manual leaves open. A list of fewer than two things has one order and takes no choice. -/
def inOpenOrder {α : Type} (xs : List α) (s : State) : List α × State :=
  if xs.length < 2 then (xs, s) else (orderBy s.choose.1 xs, s.choose.2)

/-! ## Gaps (log entry 20) -/

/-- What reaches the part at the next gap, and the tape without it. -/
def State.popMeanwhile (s : State) : List Meanwhile × State :=
  match s.meanwhile with
  | [] => ([], s)
  | events :: rest => (events, { s with meanwhile := rest })

/-! ## Time (log entry 4) -/

/-- A time in seconds as ticks. -/
def seconds (n : Nat) : Nat := n * Config.ticksPerSecond

/-- A time in minutes as ticks. -/
def minutes (n : Nat) : Nat := seconds (n * 60)

/-- Ticks as whole seconds rounded down (R98, R121, R186). -/
def wholeSeconds (ticks : Nat) : Nat := ticks / Config.ticksPerSecond

/-- A running timer one tick later; it waits at 0 for the command that takes its expiry. -/
def tickTimer (t : Option Nat) : Option Nat := t.map (· - 1)

/-- The request state one tick later: the pick wait timer counts down (R69). -/
def tickRequest : RequestState → RequestState
  | .idle => .idle
  | .waiting n p c left => .waiting n p c (left - 1)

/-- The in-flight entries one tick later: every age grows while the stoppage condition is clear (R74). -/
def tickQueue (stoppage : Option Cause) (q : List InFlight) : List InFlight :=
  if stoppage.isNone then q.map fun e => { e with age := e.age + 1 } else q

/-- One station one tick later (R31, R69, R74, R84, R123). -/
def tickStation (x : Station) : Station :=
  { x with
    idleTimer := tickTimer x.idleTimer
    request := tickRequest x.request
    queue := tickQueue x.recovery.stoppage x.queue
    recovery := { x.recovery with stallTimer := tickTimer x.recovery.stallTimer }
    auth := x.auth.map fun e => { e with left := e.left - 1 } }

/-- The part one tick later: the 2260's timers count their own time (R152). The seconds clock is moved by the command
SECONDS_CLOCK alone. -/
def tick (s : State) : State :=
  (s.updAll tickStation).updHost fun h => { h with silenceTimer := tickTimer h.silenceTimer }

end Sys2Proof.Machine
end

