-- ==== Sys2Proof/Machine/Flags.lean ====
section
/-!
DEFINITION. Raising the notice conditions that the host line controller keeps (section 10.4).
-/

namespace Sys2Proof.Machine

/-- A code as a line state: a JAM without its location (R180). -/
def codeLineState : Code → LineState
  | .ready => .ready
  | .running => .running
  | .warming => .warming
  | .paperOut => .paperOut
  | .doorOpen => .doorOpen
  | .jam _ => .jam
  | .fault => .fault

/-- The reported line state: the confirmed code, and ABSENT until one is confirmed (R5, R7). -/
def lineState (x : StationLine) : LineState :=
  if x.present then (x.confirmed.map codeLineState).getD .absent else .absent

/-- An ANOMALY condition: the count grows by one, stopping at 255, and the kind is the latest (R181). -/
def raiseAnomaly (i : StationId) (kind : AnomalyKind) (s : State) : State :=
  s.updCond i fun c => { c with anomalies := addUpTo 255 c.anomalies 1, latestAnomaly := some kind }

/-- The SESSION condition of a station (R22, R179). -/
def raiseSession (i : StationId) (s : State) : State :=
  s.updCond i fun c => { c with session := true }

/-- A STATION condition: the line state held now goes into first if that is empty, and into latest (R180). -/
def raiseStation (i : StationId) (s : State) : State :=
  s.upd i fun x =>
    let now := lineState x.line
    { x with cond := { x.cond with
        lineFirst := some (x.cond.lineFirst.getD now), lineLatest := some now } }

/-- A JAM condition: the report replaces an unsent one (R97, R179). -/
def raiseJam (i : StationId) (kind : JamKind) (cause : Cause) (credited : Nat) (s : State) : State :=
  s.updCond i fun c => { c with jam := some ⟨kind, cause, credited⟩ }

/-- An AUTH REQUEST condition: the content goes into the station's pending request (R178). -/
def raiseAuthRequest (i : StationId) (content : AuthRequest) (s : State) : State :=
  s.updCond i fun c => { c with authRequest := some content }

/-- An AUTH CANCEL condition: the content replaces any unsent cancel of the station (R178). -/
def raiseAuthCancel (i : StationId) (content : AuthCancel) (s : State) : State :=
  s.updCond i fun c => { c with authCancel := some content }

/-- An unsent AUTH REQUEST is withdrawn (R122, R178). -/
def withdrawAuthRequest (i : StationId) (s : State) : State :=
  s.updCond i fun c => { c with authRequest := none }

/-- The JOURNAL condition (R151, R181). -/
def raiseJournal (s : State) : State :=
  s.updHost fun h => { h with journalFlag := true }

end Sys2Proof.Machine
end

