-- ==== Sys2Proof/Machine/Downstream.lean ====
section
/-!
DEFINITION. What the station line controller does with the answers and messages of the other blocks: it applies a pick
answer to the latch (R9) and queues a message for the station (R16, R17); and the downstream half it sends (R12, R18).
-/

namespace Sys2Proof.Machine

/-! ## The pick latch -/

/-- The pick serial that a station's next request takes (R8). -/
def nextSerial (l : StationLine) : Nat := (l.serial + 1) % 256

/-- An IDLE latch takes a request: it is RAISED with the next serial and the specification (R8). -/
def raiseLatch (p : SheetSpec) (l : StationLine) : StationLine :=
  { l with latch := .raised (nextSerial l) p false, serial := nextSerial l }

/-- The answer of the sheet tracker to a request. -/
inductive Verdict where
  | go
  | wait (cause : WaitCause)
  | stop (reason : StopReason)
  deriving DecidableEq, Repr

/-- The latch after an answer for a serial: applied only in RAISED and for the serial held (R9). -/
def answerLatch (serial : Nat) (v : Verdict) (l : Latch) : Latch :=
  match l with
  | .raised held spec w =>
    if held = serial then
      match v with
      | .go => .answeredGo
      | .wait _ => .raised held spec true
      | .stop r => .answeredStop r
    else .raised held spec w
  | l => l

/-- The sheet tracker's answer at the line (R9). -/
def answerLine (i : StationId) (serial : Nat) (v : Verdict) (s : State) : State :=
  s.updLine i fun l => { l with latch := answerLatch serial v l.latch }

/-- The answer that the latch holds (section 1.4). -/
def heldAnswer : Latch → Answer
  | .disarmed => .none
  | .idle => .none
  | .raised _ _ w => if w then .wait else .none
  | .answeredGo => .go
  | .answeredStop r => .stop r

/-! ## Offering a message -/

/-- A SHOW message. -/
def isShow : DownMsg → Bool
  | .showing .. => true
  | _ => false

/-- The head message has begun sending: one of its bytes has been placed in a downstream half (R16). -/
def headBegun (l : StationLine) : Bool := l.downTaken != 0 || l.downWait.isSome

/-- How many messages at the head of the queue have begun sending: only the head can have (R16). -/
def begunCount (l : StationLine) : Nat := if headBegun l then 1 else 0

/-- The newest SHOW of a list replaced by a message, in its place; `none` where there is no SHOW (R17). -/
def replaceNewestShow (m : DownMsg) : List DownMsg → Option (List DownMsg)
  | [] => none
  | x :: rest =>
    match replaceNewestShow m rest with
    | some rest' => some (x :: rest')
    | none => if isShow x then some (m :: rest) else none

/-- The oldest SHOW of a list removed; `none` where there is no SHOW (R17). -/
def removeOldestShow : List DownMsg → Option (List DownMsg)
  | [] => none
  | x :: rest => if isShow x then some rest else (removeOldestShow rest).map (x :: ·)

/-- The queue after a message is offered to it with no room: a SHOW replaces the newest unsent SHOW; another message
removes the oldest unsent SHOW and goes to the tail; `none` is DOWN_FULL (R17). -/
def offerToFull (m : DownMsg) (l : StationLine) : Option (List DownMsg) :=
  let begun := l.down.take (begunCount l)
  let unsent := l.down.drop (begunCount l)
  if isShow m then (replaceNewestShow m unsent).map (begun ++ ·)
  else (removeOldestShow unsent).map fun rest => begun ++ rest ++ [m]

/-- A message offered for a station (R16). -/
def offer (i : StationId) (m : DownMsg) (s : State) : State :=
  let l := (s.st i).line
  if !l.present then s
  else if l.down.length < Config.downQueueRoom then s.updLine i fun l => { l with down := l.down ++ [m] }
  else
    match offerToFull m l with
    | some q => s.updLine i fun l => { l with down := q }
    | none => raiseAnomaly i .downFull s

/-! ## The downstream half -/

/-- The service hold shows as the hold mark in HELD and RELEASING (R12). -/
def holdMark : HoldState → Bool
  | .none => false
  | .requested => false
  | .held => true
  | .releasing => true

/-- The message byte of the next downstream half with its mark (R18, R19). -/
def nextDownByte (l : StationLine) : MsgMark × Byte :=
  if l.downAbort then (.abort, 0)
  else if l.downWait.isSome then (.idle, 0)
  else
    match l.down with
    | [] => (.idle, 0)
    | m :: _ =>
      (if l.downTaken + 1 < (downBytes m).length then .data else .last, (downBytes m).getD l.downTaken 0)

/-- The downstream half of a station, from its present state (R12); an ABSENT station's carries the hold mark alone. -/
def downHalf (x : Station) : List Byte :=
  let l := x.line
  if l.present then
    downHalfBytes (heldAnswer l.latch) (holdMark x.hold) (nextDownByte l).1 l.ackOwed (nextDownByte l).2
  else downHalfBytes .none (holdMark x.hold) .idle .none 0

/-- The line state once the downstream half has been sent: an owed acknowledgement and an ABORT mark are sent once
(R13, R19), and a byte placed awaits its acknowledgement (R18). -/
def afterDownHalf (x : Station) : StationLine :=
  let l := x.line
  let placed := (nextDownByte l).1 = .data ∨ (nextDownByte l).1 = .last
  if l.present then
    { l with
      sent := downHalf x
      ackOwed := .none
      downAbort := false
      downWait := if placed then some 0 else l.downWait }
  else { l with sent := downHalf x }

end Sys2Proof.Machine
end

