-- ==== Sys2Proof/Machine/Accounts.lean ====
section
/-!
DEFINITION. The account unit's tables (chapter 6): ranges, floors, available funds, and the debits and credits of
sessions. Each is taken whole (R107).
-/

namespace Sys2Proof.Machine

/-! ## Ranges and floors -/

/-- An account number lies in a range (R100). -/
def inRange (n : Nat) (r : Range) : Bool := r.low ≤ n && n ≤ r.high

/-- The entry of a range table that contains a number, the lowest if there were several (R100). -/
def containingEntry (ranges : Vector (Option Range) 8) (n : Nat) : Option (Fin 8) :=
  (List.finRange 8).find? fun e => (ranges[e]).any (inRange n)

/-- The range that contains a number (R100). -/
def containingRange (ranges : Vector (Option Range) 8) (n : Nat) : Option Range :=
  (containingEntry ranges n).bind fun e => ranges[e]

/-- The floor of an account number under a range table (R100). -/
def floorOf (ranges : Vector (Option Range) 8) (n : Nat) : Int :=
  match containingRange ranges n with
  | some r =>
    match r.kind with
    | .postpaid => -(r.overdraft : Int)
    | .prepaid => 0
  | none => 0

/-- Available funds: the balance less the floor (R100). -/
def availableFunds (u : AccountUnit) (a : Account) : Int := a.balance - floorOf u.ranges a.number

/-! ## The account table -/

/-- The stored record of an account number (R103). -/
def findAccount (u : AccountUnit) (n : Nat) : Option Account := u.accounts.find? fun a => a.number == n

/-- A record put into the table in its place by number, over the record of its number if there is one (R103). -/
def putRecord (a : Account) : List Account → List Account
  | [] => [a]
  | x :: rest =>
    if a.number < x.number then a :: x :: rest
    else if a.number = x.number then a :: rest
    else x :: putRecord a rest

/-- The account table with a record put (R103). -/
def putAccount (a : Account) (s : State) : State :=
  s.updAccounts fun u => { u with accounts := putRecord a u.accounts }

/-- The account table without a number (R116). -/
def dropAccount (n : Nat) (s : State) : State :=
  s.updAccounts fun u => { u with accounts := u.accounts.filter fun a => a.number != n }

/-! ## Debits and credits -/

/-- A debit, taken whole: the balance it leaves is at least the floor, or the amount is 0; `none` is a refusal, which
changes nothing (R53, R108). The account's state does not matter. -/
def debit (n amount : Nat) (s : State) : Option State :=
  match findAccount s.accounts n with
  | none => none
  | some a =>
    if amount = 0 ∨ floorOf s.accounts.ranges n ≤ a.balance - amount then
      some (putAccount { a with balance := a.balance - amount } s)
    else none

/-- A credit to the account of the session of station `i`: the balance stops at 9,999,999 and the excess joins the
session's unreturned credit (R57, R109). -/
def creditAccount (i : StationId) (n amount : Nat) (s : State) : State :=
  match findAccount s.accounts n with
  | none => s
  | some a =>
    let raised := a.balance + amount
    if raised ≤ Config.balanceTop then putAccount { a with balance := raised } s
    else
      (putAccount { a with balance := Config.balanceTop } s).updSession i fun x =>
        { x with unreturnedCredit := addUpTo Config.countTop x.unreturnedCredit (raised - Config.balanceTop).toNat }

/-- The close update of an account: one session less, the final spent on its lifetime spend, last use the clock (R40). -/
def settleAccount (n spent : Nat) (s : State) : State :=
  match findAccount s.accounts n with
  | none => s
  | some a =>
    putAccount { a with
      openSessions := a.openSessions - 1
      lifetimeSpend := addMeter a.lifetimeSpend spent
      lastUse := s.journal.clock } s

/-- The account unit's checks of an opening, in order: the reason of the first that fails (R27). -/
def openingAccountCheck (s : State) (n : Nat) : Except RefusedReason (Account × Range) :=
  match containingRange s.accounts.ranges n with
  | none => .error .unknown
  | some r =>
    match findAccount s.accounts n with
    | none => .error .unknown
    | some a =>
      if a.frozen then .error .frozen
      else if a.maxSessions ≤ a.openSessions then .error .inUse
      else if availableFunds s.accounts a < 1 then .error .funds
      else .ok (a, r)

end Sys2Proof.Machine
end

