-- ==== Sys2Proof/Machine/Charge.lean ====
section
/-!
DEFINITION. The charge unit (chapter 3): the price of a sheet, the charge of a sheet with its funds check, the credit of a
sheet, the closing cent, and the amounts shown to the customer.
-/

namespace Sys2Proof.Machine

/-! ## Prices -/

/-- The place of a tariff entry in the table (R45). -/
def tariffIndex (c m : Fin 8) (k : Colour) : Fin 128 :=
  ⟨c.val * 16 + m.val * 2 + (match k with | .mono => 0 | .colour => 1), by
    have := c.isLt; have := m.isLt; cases k <;> simp <;> omega⟩

/-- The base price of an impression, `none` for UNSET (R45). -/
def basePrice (u : ChargeUnit) (c m : Fin 8) (k : Colour) : Option Nat := u.tariff[tariffIndex c m k]

/-- A tier is used and starts at or below an index (R47). -/
def tierReached (t : Tier) (index : Nat) : Bool := t.threshold != 0 && t.threshold ≤ index

/-- The discount at an index: that of the highest-numbered used tier whose start is at most the index (R47). -/
def discountAt (t : TierSet) (index : Nat) : Nat :=
  if tierReached t.tier3 index then t.tier3.discount
  else if tierReached t.tier2 index then t.tier2.discount
  else if tierReached t.tier1 index then t.tier1.discount
  else t.discount0

/-- The price of one impression, rounded down (R49). -/
def impressionPrice (base discount : Nat) : Nat := base * (100 - discount) / 100

/-- The price of the `n` impressions that follow index `count`: each at its own index (R49). -/
def sheetPrice (t : TierSet) (base count : Nat) : Nat → Nat
  | 0 => 0
  | n + 1 => sheetPrice t base count n + impressionPrice base (discountAt t (count + n + 1))

/-- The impressions of a sheet: its sides, 1 or 2 (R50). -/
def sheetImpressions (p : SheetSpec) : Nat := p.sides.val

/-- The quote for a sheet (R50). -/
inductive Quote where
  | notPriced
  | limit
  | priced (impressions price delta : Nat)
  deriving DecidableEq, Repr

/-- What a charge of `price` fine units posts on a fine total, in minor units (R50). -/
def postedBy (fineTotal price : Nat) : Nat := (fineTotal + price) / 100 - fineTotal / 100

/-- The quote of a sheet against a session record, which it does not change (R50). -/
def quote (u : ChargeUnit) (x : Session) (p : SheetSpec) : Quote :=
  match x.tariffClass with
  | none => .notPriced
  | some c =>
    match basePrice u c p.media p.colour with
    | none => .notPriced
    | some b =>
      let price := sheetPrice u.tiers[c] b x.impressions (sheetImpressions p)
      if Config.impressionTop < x.impressions + sheetImpressions p then .limit
      else if Config.fineTop < x.fineTotal + price then .limit
      else .priced (sheetImpressions p) price (postedBy x.fineTotal price)

/-! ## Charges -/

/-- The outcome of a charge (R51). -/
inductive ChargeOutcome where
  | notPriced
  | limit
  | short
  | granted (impressions price : Nat)
  deriving DecidableEq, Repr

/-- The remaining authority covers an amount (R52). -/
def authorityCovers (x : Session) (amount : Nat) : Bool := x.spent + amount ≤ x.authority.getD 0

/-- The funds check: a debit of the account, or the remaining authority of a card or stand-in session (R52, R53). -/
def fundsCheck (x : Session) (delta : Nat) (s : State) : Option State :=
  match x.payer with
  | some (.account n) => debit n delta s
  | some (.card _) => if authorityCovers x delta then some s else none
  | some (.standIn _) => if authorityCovers x delta then some s else none
  | none => none

/-- A sheet posted on a session record (R51, R61). -/
def postSheet (colour : Colour) (impressions price : Nat) (x : Session) : Session :=
  { x with
    fineTotal := x.fineTotal + price
    spent := (x.fineTotal + price) / 100
    impressions := x.impressions + impressions
    chargedMono := if colour = .mono then addUpTo Config.countTop x.chargedMono impressions else x.chargedMono
    chargedColour := if colour = .colour then addUpTo Config.countTop x.chargedColour impressions else x.chargedColour }

/-- The charge step at station `i`: quote, funds check and posting as one (R51). -/
def chargeSheet (i : StationId) (p : SheetSpec) (s : State) : ChargeOutcome × State :=
  let x := (s.st i).session
  match quote s.charge x p with
  | .notPriced => (.notPriced, s)
  | .limit => (.limit, s)
  | .priced n price delta =>
    match fundsCheck x delta s with
    | none => (.short, s)
    | some s' => (.granted n price, s'.updSession i (postSheet p.colour n price))

/-! ## Amounts shown (R62) -/

/-- What a SHOW gives beside spent: the remaining authority, or the account's available funds now (R62). -/
def remainingFor (x : Session) (s : State) : Nat :=
  match x.payer with
  | some (.account n) =>
    match findAccount s.accounts n with
    | some a => (availableFunds s.accounts a).toNat
    | none => 0
  | _ => x.authority.getD 0 - x.spent

/-- A SHOW offered to a station with the amounts of the moment (R62). -/
def offerShow (i : StationId) (s : State) : State :=
  let x := (s.st i).session
  offer i (.showing x.spent (remainingFor x s)) s

/-! ## Credits -/

/-- What a credit of `price` fine units returns, in minor units (R56). -/
def returnedBy (fineTotal price : Nat) : Nat := fineTotal / 100 - (fineTotal - price) / 100

/-- A credit taken on a session record (R56, R61). -/
def creditRecord (impressions price : Nat) (x : Session) : Session :=
  { x with
    fineTotal := x.fineTotal - price
    spent := (x.fineTotal - price) / 100
    impressions := x.impressions - impressions
    creditedImpressions := addUpTo Config.countTop x.creditedImpressions impressions
    creditedAmount := addUpTo Config.countTop x.creditedAmount (returnedBy x.fineTotal price) }

/-- The credit of one CHARGED entry to the session of station `i` and to its payer (R56, R57). A credit names a session:
where none exists there is nothing to credit. -/
def creditSheet (i : StationId) (e : InFlight) (s : State) : State :=
  let x := (s.st i).session
  if sessionLive x then
    let s' := s.updSession i (creditRecord e.impressions e.price)
    match x.payer with
    | some (.account n) => creditAccount i n (returnedBy x.fineTotal e.price) s'
    | _ => s'
  else s

/-! ## The closing cent -/

/-- The closing cent of the session of station `i`, with the final spent (R59). -/
def closingCent (i : StationId) (s : State) : ClosingCent × Nat × State :=
  let x := (s.st i).session
  if x.fineTotal % 100 < 50 then (.none, x.spent, s)
  else
    match fundsCheck x 1 s with
    | some s' => (.posted, x.spent + 1, s')
    | none => (.waived, x.spent, s)

end Sys2Proof.Machine
end

