-- ==== Sys2Proof/Machine/Journal.lean ====
section
/-!
DEFINITION. The journal unit (chapter 8): the append of a record, the urgency level, and the removal of records.
-/

namespace Sys2Proof.Machine

/-- The order of the levels: RELEASE, MAY, NEED, MUST (R141). -/
def urgencyRank : Urgency → Nat
  | .release => 0
  | .may => 1
  | .need => 2
  | .must => 3

/-- The highest level whose entry threshold an occupancy has reached (section 8.4). -/
def enteredLevel (occupancy : Nat) : Urgency :=
  if 480 ≤ occupancy then .must
  else if 384 ≤ occupancy then .need
  else if 256 ≤ occupancy then .may
  else .release

/-- The level after an append: it rises to the level whose threshold has been reached, if that is above it (R148). -/
def riseLevel (occupancy : Nat) (level : Urgency) : Urgency :=
  if urgencyRank level < urgencyRank (enteredLevel occupancy) then enteredLevel occupancy else level

/-- The level after a release: it falls a step at a time while the occupancy is below the exit of the level held (R149). -/
def fallLevel (occupancy : Nat) : Urgency → Urgency
  | .release => .release
  | .may => if occupancy < 224 then .release else .may
  | .need => if occupancy < 352 then (if occupancy < 224 then .release else .may) else .need
  | .must =>
    if occupancy < 448 then
      (if occupancy < 352 then (if occupancy < 224 then .release else .may) else .need)
    else .must

/-- The level becomes `level`; a change raises the JOURNAL condition (R151). -/
def setLevel (level : Urgency) (s : State) : State :=
  if level = s.journal.level then s
  else raiseJournal (s.updJournal fun j => { j with level := level })

/-- The record of a session as the close step hands it over, numbered and stamped by the journal unit (R41, R142, R143). -/
def recordOf (i : StationId) (x : Session) (payer : Payer) (tariffClass : Fin 8) (reason : CloseReason)
    (cent : ClosingCent) (spent : Nat) (j : JournalUnit) : JournalRecord where
  journalNumber := j.nextNumber
  sessionNumber := x.number
  station := i
  payer := payer
  cardClass := x.cardClass
  tariffClass := tariffClass
  openTime := x.openTime.getD 0
  closeTime := j.clock
  clockUnset := j.clockUnset
  reason := reason
  cent := cent
  authority := x.authority.getD 0
  spent := spent
  chargedMono := x.chargedMono
  chargedColour := x.chargedColour
  creditedImpressions := x.creditedImpressions
  creditedAmount := x.creditedAmount
  stallCount := x.stallCount
  unchargedExits := x.unchargedExits
  increments := x.increments
  unreturnedCredit := x.unreturnedCredit

/-- A record at the tail of the journal; the next journal number moves on, and the level is judged (R143, R148). -/
def appendRecord (r : JournalRecord) (s : State) : State :=
  let s' := s.updJournal fun j =>
    { j with records := j.records ++ [r], nextNumber := (j.nextNumber + 1) % Config.longModulus }
  setLevel (riseLevel s'.journal.records.length s'.journal.level) s'

/-- The journal number of the head record, or the next journal number when the journal is empty (R146). -/
def headNumber (j : JournalUnit) : Nat := (j.records.head?.map (·.journalNumber)).getD j.nextNumber

/-- Records removed from the head; a removal of one or more judges the level (R146, R149). -/
def releaseRecords (count : Nat) (s : State) : State :=
  let s' := s.updJournal fun j => { j with records := j.records.drop count }
  if min count s.journal.records.length = 0 then s
  else setLevel (fallLevel s'.journal.records.length s'.journal.level) s'

end Sys2Proof.Machine
end

