-- ==== Sys2Proof/Machine/Cards.lean ====
section
/-!
DEFINITION. The card authorization unit's table and lists (chapter 7): making and removing entries of the pending
authorization table, the increment question, the exposure, and the stand-in list.
-/

namespace Sys2Proof.Machine

/-! ## The pending authorization table -/

/-- The stations with an entry in the pending authorization table (R121). -/
def State.authStations (s : State) : List StationId := allStations.filter fun i => (s.st i).auth.isSome

/-- A reference is held by an entry of the table (R121). -/
def referenceHeld (s : State) (n : Nat) : Bool := allStations.any fun i => (s.st i).auth.any fun e => e.reference == n

/-- The reference that a new entry takes: the counter moves on past every value that an entry holds (R121). Sixteen moves
are enough, since the table holds at most one entry per station. -/
def freeReference (s : State) : Nat → Nat → Nat
  | 0, n => n
  | fuel + 1, n => if referenceHeld s n then freeReference s fuel (nextShort n) else n

/-- The payer's card token; the all-zero token where the payer is no card, which no caller meets. -/
def payerToken : Option Payer → Token
  | some (.card t) => t
  | some (.standIn t) => t
  | _ => 0

/-- A new entry for station `i`: it takes a reference, starts its timer, and raises AUTH REQUEST (R121 to R123). -/
def makeEntry (i : StationId) (kind : AuthKind) (amount : Nat) (s : State) : State :=
  let x := (s.st i).session
  let n := freeReference s 16 s.cards.nextReference
  let s' := (s.updCards fun c => { c with nextReference := nextShort n }).upd i fun y =>
    { y with auth := some ⟨n, x.number, kind, amount, payerToken x.payer, seconds s.host.timers.auth⟩ }
  raiseAuthRequest i ⟨n, x.number, kind, amount, payerToken x.payer⟩ s'

/-- An unsent AUTH REQUEST of a reference waits with the host line controller (R178). -/
def requestUnsent (c : Conditions) (reference : Nat) : Bool := c.authRequest.any fun r => r.reference == reference

/-- The entry of station `i` removed, its timer with it. An AUTH REQUEST that has not begun sending is withdrawn and no
cancel is raised; otherwise a cancel is raised if the removal is "with cancel" (R122). -/
def removeEntry (i : StationId) (cancel : Option CancelCause) (s : State) : State :=
  match (s.st i).auth with
  | none => s
  | some e =>
    let s' := s.upd i fun x => { x with auth := none }
    if requestUnsent (s.st i).cond e.reference then withdrawAuthRequest i s'
    else
      match cancel with
      | some c => raiseAuthCancel i ⟨e.reference, c⟩ s'
      | none => s'

/-! ## Increments (R129) -/

/-- The increment conditions but for the third, that the station has no entry (R129). -/
def incrementOpen (s : State) (x : Session) : Bool :=
  (match x.payer with | some (.card _) => true | _ => false)
    && !x.noMoreIncrements && s.host.linkUp
    && x.authority.getD 0 + s.cards.policy.increment ≤ Config.authorityTop

/-- The answer to the increment question (R67). -/
inductive IncrementAnswer where
  | asked
  | pending
  | no
  deriving DecidableEq, Repr

/-- The increment question on a SHORT outcome at station `i` (R129): ASKED makes the entry; PENDING when the conditions
fail only because an INCREMENT entry of this session waits. -/
def askIncrement (i : StationId) (s : State) : IncrementAnswer × State :=
  let x := (s.st i).session
  if incrementOpen s x then
    match (s.st i).auth with
    | none => (.asked, makeEntry i .increment s.cards.policy.increment s)
    | some e => if e.kind = .increment ∧ e.sessionNumber = x.number then (.pending, s) else (.no, s)
  else (.no, s)

/-- After a charged GO on a CARD session: an increment is asked when the remaining authority is below the threshold and
the increment conditions hold (R65, R129). -/
def afterGo (i : StationId) (s : State) : State :=
  let x := (s.st i).session
  if incrementOpen s x ∧ (s.st i).auth = none ∧ x.authority.getD 0 - x.spent < s.cards.policy.threshold then
    makeEntry i .increment s.cards.policy.increment s
  else s

/-! ## The stand-in list -/

/-- The exposure: the sum of the amounts of the stand-in list (R135, spec/00 section 5). -/
def exposure (c : CardUnit) : Nat := (c.standIn.map (·.amount)).sum

/-- The stand-in list holds a token (R133). -/
def standInHolds (c : CardUnit) (t : Token) : Bool := c.standIn.any fun e => e.token == t

/-- The grant that stand-in would make: the smaller of the limit and the cap less the exposure (R133). -/
def standInGrant (c : CardUnit) : Nat := min c.policy.standInLimit (c.policy.standInCap - exposure c)

/-- The six conditions of a stand-in grant (R133, R150). -/
def standInAllowed (s : State) (t : Token) : Bool :=
  0 < s.cards.policy.standInLimit
    && urgencyRank s.journal.level < urgencyRank .need
    && !s.cards.deny.contains t
    && !standInHolds s.cards t
    && s.cards.standIn.length < Config.standInRoom
    && s.cards.policy.standInMinimum ≤ standInGrant s.cards

/-- The stand-in list after the close of the session that holds a token's entry: the entry is SETTLED at the final spent,
or removed where that is 0 (R40, R135). -/
def settleStandIn (t : Token) (spent : Nat) (entries : List StandInEntry) : List StandInEntry :=
  if spent = 0 then entries.filter fun e => e.token != t
  else entries.map fun e => if e.token = t then { e with amount := spent, settled := true } else e

end Sys2Proof.Machine
end

