-- ==== Sys2Proof/Machine/Permits.lean ====
section
/-!
DEFINITION. The idle timer (R31, R32) and the sheet permits (chapter 4): the evaluation of a request, its grants, and the
waiting request.
-/

namespace Sys2Proof.Machine

/-! ## The idle timer -/

/-- A request is with the sheet tracker and not finally answered (R63). -/
def requestPending : RequestState → Bool
  | .idle => false
  | .waiting .. => true

/-- The five conditions of the idle timer (R31). -/
def idleEligible (x : Station) : Bool :=
  x.session.state == .opened && x.hold == .none && x.queue.isEmpty && !requestPending x.request
    && x.line.confirmed != some .paperOut

/-- The idle timer after a report: it starts from the full value when it has become eligible, and stops when it has
stopped being eligible (R31). -/
def idleAfter (full : Nat) (x : Station) : Option Nat :=
  if idleEligible x then some (x.idleTimer.getD full) else none

/-- The session controller judges the idle timer of station `i` (R31). -/
def syncIdle (i : StationId) (s : State) : State :=
  s.upd i fun x => { x with idleTimer := idleAfter (seconds s.host.timers.idle) x }

/-- Session activity reloads a running idle timer (R32). -/
def activity (i : StationId) (s : State) : State :=
  s.upd i fun x => { x with idleTimer := x.idleTimer.map fun _ => seconds s.host.timers.idle }

/-! ## Grants -/

/-- The in-flight queue of station `i` changed, and the change reported to the idle timer (R65, R71). -/
def setQueue (i : StationId) (q : List InFlight) (s : State) : State :=
  syncIdle i (s.upd i fun x => { x with queue := q })

/-- An entry pushed at the tail of the queue with age 0 and the transit limit in force; its impressions join the granted
meter (R65, R66, R74). -/
def pushEntry (i : StationId) (kind : EntryKind) (impressions price : Nat) (p : SheetSpec) (s : State) : State :=
  let e : InFlight := ⟨kind, impressions, p.colour, p.media, price, 0, s.host.timers.transit⟩
  let s' := setQueue i ((s.st i).queue ++ [e]) s
  s'.updMeters i fun m => { m with granted := addMeter m.granted impressions }

/-- A CARD session, whose card authorization unit is told of a charged GO (R65). -/
def payerIsCard : Option Payer → Bool
  | some (.card _) => true
  | _ => false

/-- A grant as CHARGED, after the charge unit has posted the sheet (R65). -/
def grantCharged (i : StationId) (impressions price : Nat) (p : SheetSpec) (s : State) : State :=
  let s' := offerShow i (pushEntry i .charged impressions price p s)
  if payerIsCard (s.st i).session.payer then afterGo i s' else s'

/-- A grant as SERVICE, free, which the session does not see (R66). -/
def grantService (i : StationId) (p : SheetSpec) (s : State) : State :=
  pushEntry i .service (sheetImpressions p) 0 p s

/-- The answer to a SHORT outcome by the payer kind (R67). -/
def answerShort (i : StationId) (s : State) : Verdict × State :=
  if payerIsCard (s.st i).session.payer then
    match askIncrement i s with
    | (.asked, s') => (.wait .funds, s')
    | (.pending, s') => (.wait .funds, s')
    | (.no, s') => (.stop .funds, s')
  else (.stop .funds, s)

/-! ## The evaluation -/

/-- Steps 8 to 11 of an evaluation: one charge, with its grant or its answer (R64). -/
def evaluateCharge (i : StationId) (p : SheetSpec) (s : State) : Verdict × State :=
  match chargeSheet i p s with
  | (.notPriced, s') => (.stop .notPriced, s')
  | (.limit, s') => (.stop .limit, s')
  | (.granted n price, s') => (.go, grantCharged i n price p s')
  | (.short, s') => answerShort i s'

/-- No session, for a pick: NONE or AUTHORIZING (R64). -/
def noSession (x : SessionState) : Bool := x == .none || x == .authorizing

/-- Service sheets are given: the hold is HELD or RELEASING (R64). -/
def servesFree (h : HoldState) : Bool := h == .held || h == .releasing

/-- An evaluation: the first step that decides gives the answer (R64). -/
def evaluate (i : StationId) (p : SheetSpec) (s : State) : Verdict × State :=
  let x := s.st i
  if noSession x.session.state && !servesFree x.hold then (.stop .noSession, s)
  else if x.session.state = .stalled then (.stop .stalled, s)
  else if x.session.state = .draining then (.stop .closing, s)
  else if x.hold = .requested then (.stop .hold, s)
  else if p.sides = 0 ∨ p.sides = 3 then (.stop .badSpec, s)
  else if Config.inFlightRoom ≤ x.queue.length then (.wait .pathFull, s)
  else if servesFree x.hold then (.go, grantService i p s)
  else evaluateCharge i p s

/-! ## The request state -/

/-- The request state of station `i` changed, and the change reported to the idle timer (R63). -/
def setRequest (i : StationId) (r : RequestState) (s : State) : State :=
  syncIdle i (s.upd i fun x => { x with request := r })

/-- A request evaluated again while it waits: GO and STOP go to the line and end it; WAIT takes this evaluation's cause,
and the pick wait timer runs on (R68). -/
def reevaluate (i : StationId) (s : State) : State :=
  match (s.st i).request with
  | .idle => s
  | .waiting n p _ left =>
    match evaluate i p s with
    | (.wait c, s') => setRequest i (.waiting n p c left) s'
    | (v, s') => answerLine i n v (setRequest i .idle s')

/-- A pick raised: an older request ends as a withdrawal would end it, and the new one is evaluated at once. A WAIT starts
the pick wait timer with the value in force (R63, R69). -/
def pickRaised (i : StationId) (n : Nat) (p : SheetSpec) (s : State) : State :=
  match evaluate i p (setRequest i .idle (activity i s)) with
  | (.wait c, s') =>
    answerLine i n (.wait c) (setRequest i (.waiting n p c (seconds s'.host.timers.pickWait)) s')
  | (v, s') => answerLine i n v s'

/-- A pick withdrawn: a request WAITING under that serial ends without an answer (R70). -/
def pickWithdrawn (i : StationId) (n : Nat) (s : State) : State :=
  match (s.st i).request with
  | .waiting held _ _ _ => if held = n then setRequest i .idle s else s
  | .idle => s

/-- The answer when the pick wait timer runs out (R69). -/
def expiryReason : WaitCause → StopReason
  | .pathFull => .pathFull
  | .funds => .funds

/-- The pick wait timer of station `i` has run out (R69). -/
def pickWaitExpires (i : StationId) (s : State) : State :=
  match (s.st i).request with
  | .waiting n _ c 0 => answerLine i n (.stop (expiryReason c)) (setRequest i .idle s)
  | .waiting _ _ _ (_ + 1) => s
  | .idle => s

end Sys2Proof.Machine
end

