-- ==== Sys2Proof/Machine/Sessions.lean ====
section
/-!
DEFINITION. The session controller (chapter 2): changes of state, close reasons, draining, the close step, the stall of a
session, and opening.
-/

namespace Sys2Proof.Machine

/-! ## Changes of state -/

/-- The session of station `i` changes state: the SESSION condition is raised and the idle timer judged (R22, R31). The
waiting request is evaluated by the caller, where the rules have it evaluated (R68, R76). -/
def setSession (i : StationId) (f : Session → Session) (s : State) : State :=
  syncIdle i (raiseSession i (s.updSession i f))

/-- The availability of station `i` becomes `a`; a change raises the STATION condition (R93). -/
def setAvailability (i : StationId) (a : Availability) (s : State) : State :=
  if (s.st i).recovery.availability = a then s
  else raiseStation i (s.updRecovery i fun r => { r with availability := a })

/-- The recovery unit is told that the session of station `i` has returned to NONE: a running stall timer stops, and
disable pending takes the station out of service (R95). So it does where link DOWN has ended the session, although R80 has link DOWN
leave availability as it is (DEDUCED, log entry 25). -/
def sessionEnded (i : StationId) (s : State) : State :=
  let s' := s.updRecovery i fun r => { r with stallTimer := none }
  if (s.st i).recovery.disablePending then
    (setAvailability i .outOfService s').updRecovery i fun r => { r with disablePending := false }
  else s'

/-- The host line controller is told that the number of sessions is zero: STOPPING becomes STOPPED (R24). -/
def stopWhenEmpty (s : State) : State :=
  if s.host.op = .stopping ∧ s.sessions = 0 then s.updHost fun h => { h with op := .stopped } else s

/-- A return of the session of station `i` from AUTHORIZING to NONE: no record, no meter; the reason of a refusal, if any,
is offered (R29, R95). -/
def abandonAuthorizing (i : StationId) (refusal : Option RefusedReason) (s : State) : State :=
  let s1 := setSession i (fun x => Session.ended x.number) s
  let s2 := match refusal with
    | some r => offer i (.refused r) s1
    | none => s1
  stopWhenEmpty (sessionEnded i s2)

/-! ## The close step (R39) -/

/-- Part 3: the payer's owner is updated (R40). An INCREMENT entry of a CARD session is removed with cancel. -/
def updatePayer (i : StationId) (spent : Nat) (cancel : CancelCause) (s : State) : State :=
  match (s.st i).session.payer with
  | some (.account n) => settleAccount n spent s
  | some (.card _) => if (s.st i).auth.any fun e => e.kind == .increment then removeEntry i (some cancel) s else s
  | some (.standIn t) => s.updCards fun c => { c with standIn := settleStandIn t spent c.standIn }
  | none => s

/-- The close step of the session of station `i`, with its reason and the cause of a cancel that it raises (R39). Its
parts: closing cent, payer, record, return with the sessions closed meter, and reports. -/
def closeStep (i : StationId) (reason : CloseReason) (cancel : CancelCause) (s : State) : State :=
  let x := (s.st i).session
  let c := closingCent i s
  let s3 := updatePayer i c.2.1 cancel c.2.2
  let s4 := appendRecord
    (recordOf i x (x.payer.getD (.account 0)) (x.tariffClass.getD 0) reason c.1 c.2.1 s3.journal) s3
  let s5 := (setSession i (fun y => Session.ended y.number) s4).updMeters i fun m =>
    { m with sessionsClosed := addMeter m.sessionsClosed 1 }
  stopWhenEmpty (sessionEnded i (offer i (.closed c.2.1 c.1) s5))

/-! ## Draining and close reasons -/

/-- A DRAINING session closes when the queue of its station holds no CHARGED entry (R36). -/
def drainCheck (i : StationId) (s : State) : State :=
  let x := s.st i
  if x.session.state = .draining ∧ !holdsCharged x.queue then
    match x.session.closeReason with
    | some r => reevaluate i (closeStep i r .closed s)
    | none => s
  else s

/-- The session of station `i` enters DRAINING with a reason; a waiting request gets STOP(CLOSING) (R33, R36). -/
def startDraining (i : StationId) (r : CloseReason) (s : State) : State :=
  reevaluate i (setSession i (fun x => { x with state := .draining, closeReason := some r, closePending := none }) s)

/-- The session of station `i` goes to DRAINING with a reason, and closes at once if no CHARGED entry is left, with no
gap before the close (R33, R36; log entry 20). -/
def goDraining (i : StationId) (r : CloseReason) (s : State) : State := drainCheck i (startDraining i r s)

/-- Close pending takes a reason unless it holds one (R33). -/
def keepReason (i : StationId) (r : CloseReason) (s : State) : State :=
  s.updSession i fun x => { x with closePending := some (x.closePending.getD r) }

/-- A close reason taken by the session's state (R33). -/
def takeReason (i : StationId) (r : CloseReason) (s : State) : State :=
  match (s.st i).session.state with
  | .none => s
  | .authorizing => keepReason i r s
  | .opened => goDraining i r s
  | .draining => s
  | .stalled => keepReason i r s

/-! ## The stall (R84) -/

/-- A session record turned to STALLED: from DRAINING the close reason moves into close pending (R37, R84). -/
def stalledRecord (x : Session) : Session :=
  { x with
    state := .stalled
    stallCount := addUpTo Config.shortTop x.stallCount 1
    closePending := if x.state = .draining then x.closeReason else x.closePending
    closeReason := none }

/-- The session of station `i` is turned to STALLED: stall count, stalls meter, stall timer, state, and the waiting
request is evaluated (R84). -/
def stallSession (i : StationId) (s : State) : State :=
  let s1 := s.upd i fun x =>
    { x with
      meters := { x.meters with stalls := addMeter x.meters.stalls 1 }
      recovery := { x.recovery with stallTimer := some (minutes s.host.timers.stall) } }
  reevaluate i (setSession i stalledRecord s1)

/-- A session in OPEN or DRAINING, which a stoppage can stall (R83, R86). -/
def canStall (x : SessionState) : Bool := x == .opened || x == .draining

/-- The session of station `i` is stalled if its hold is NONE or REQUESTED (R83, R86). -/
def stallUnlessHeld (i : StationId) (s : State) : State :=
  let x := s.st i
  if canStall x.session.state && !servesFree x.hold then stallSession i s else s

/-! ## Opening -/

/-- A session that has just become OPEN with its payer: the open time is taken, OPENED is offered, the recovery unit may
stall it, and a close pending is taken (R30). So it is where link DOWN has caused the opening (R132, R134): the stalls meter or the
sessions closed meter then moves, although R77 has link DOWN leave the meters as they are (DEDUCED, log entry 28). -/
def sessionOpened (i : StationId) (kind : PayerKind) (amount : Nat) (s : State) : State :=
  let s1 := reevaluate i (offer i (.opened kind amount)
    (s.updSession i fun x => { x with openTime := some s.journal.clock }))
  let s2 := if (s1.st i).recovery.stoppage.isSome then stallUnlessHeld i s1 else s1
  let x := (s2.st i).session
  match x.state, x.closePending with
  | .opened, some r => goDraining i r s2
  | _, _ => s2

/-- The session number taken by a session that leaves NONE: the counter's value, and the counter moves on (R21). -/
def takeNumber (s : State) : Nat × State := (s.nextSession, { s with nextSession := nextShort s.nextSession })

/-- The opening checks 1 to 4 and, for a CARD, 5: the reason of the first that fails (R26). -/
def openingCheck (i : StationId) (isCard : Bool) (s : State) : Option RefusedReason :=
  if s.host.op ≠ .running then some .stopped
  else if (s.st i).recovery.availability = .outOfService then some .outOfService
  else if isCard && urgencyRank .must ≤ urgencyRank s.journal.level then some .journal
  else if Config.journalRoom ≤ s.journal.records.length + s.sessions then some .journal
  else if isCard && s.cards.policy.initialHold == 0 then some .cardsOff
  else none

/-- An account session opened (R27, R30): the account's count grows by one, and the session takes its number, payer and
tariff class. -/
def openAccount (i : StationId) (a : Account) (r : Range) (s : State) : State :=
  let funds := (availableFunds s.accounts a).toNat
  let s1 := putAccount { a with openSessions := a.openSessions + 1 } s
  let n := takeNumber s1
  sessionOpened i .account funds (setSession i (fun _ =>
    { Session.ended n.1 with
      state := .opened, payer := some (.account a.number), tariffClass := some r.tariffClass }) n.2)

/-- A delivered ACCOUNT at a station in NONE (R26, R27). -/
def openByAccount (i : StationId) (n : Nat) (s : State) : State :=
  match openingCheck i false s with
  | some r => offer i (.refused r) s
  | none =>
    match openingAccountCheck s n with
    | .error r => offer i (.refused r) s
    | .ok (a, r) => openAccount i a r s

end Sys2Proof.Machine
end

