-- ==== Sys2Proof/Machine/Authorization.lean ====
section
/-!
DEFINITION. The card authorization unit's decisions (chapter 7): stand-in, opening by card, results, timeouts, and the
link going DOWN.
-/

namespace Sys2Proof.Machine

/-! ## Stand-in (R133, R134) -/

/-- A stand-in grant: the list entry, the authority, and the session OPEN with payer STANDIN (R134). -/
def grantStandIn (i : StationId) (t : Token) (s : State) : State :=
  let g := standInGrant s.cards
  let s1 := s.updCards fun c =>
    { c with standIn := c.standIn ++ [⟨t, g, (s.st i).session.number, i, false⟩] }
  sessionOpened i .standIn g (setSession i (fun x =>
    { x with
      state := .opened, payer := some (.standIn t), authority := some g, increments := 0, noMoreIncrements := false }) s1)

/-- The stand-in decision for the card of the AUTHORIZING session of station `i` (R133). -/
def decideStandIn (i : StationId) (s : State) : State :=
  let x := (s.st i).session
  if x.state = .authorizing then
    if standInAllowed s (payerToken x.payer) then grantStandIn i (payerToken x.payer) s
    else reevaluate i (abandonAuthorizing i (some .offline) s)
  else s

/-! ## Opening by card (R28, R124) -/

/-- A CARD that has passed its checks: the session takes its number and enters AUTHORIZING; with the link UP an INITIAL
entry is made, with it DOWN the stand-in decision is made at once (R28, R124). -/
def startAuthorizing (i : StationId) (t : Token) (c : CardClass) (s : State) : State :=
  let n := takeNumber s
  let s1 := reevaluate i (setSession i (fun _ =>
    { Session.ended n.1 with
      state := .authorizing, payer := some (.card t), cardClass := some c
      tariffClass := some s.cards.policy.tariffClass }) n.2)
  if s1.host.linkUp then makeEntry i .initial s1.cards.policy.initialHold s1 else decideStandIn i s1

/-- A delivered CARD at a station in NONE (R26, R28). -/
def openByCard (i : StationId) (t : Token) (c : CardClass) (s : State) : State :=
  match openingCheck i true s with
  | some r => offer i (.refused r) s
  | none => startAuthorizing i t c s

/-- A message delivered to the session controller: it is session activity (R14, R32); a CARD or ACCOUNT is refused SESSION
where a session exists (R25); a FINISH is a close reason (R34). In STOPPING R24 has every CARD and ACCOUNT refused STOPPED, and
R25 refuses SESSION where a session exists: where both apply the model answers SESSION (DEDUCED, log entry 21). -/
def deliver (i : StationId) (m : UpMessage) (s : State) : State :=
  let s1 := activity i s
  match m with
  | .finish => takeReason i .finish s1
  | .card t c => if sessionLive (s.st i).session then offer i (.refused .session) s1 else openByCard i t c s1
  | .account n => if sessionLive (s.st i).session then offer i (.refused .session) s1 else openByAccount i n s1

/-! ## Results and timeouts -/

/-- An approval of an INITIAL entry: authority, and the session OPEN with payer CARD (R126). -/
def approveInitial (i : StationId) (amount : Nat) (s : State) : State :=
  if (s.st i).session.state = .authorizing then
    sessionOpened i .card amount (setSession i (fun x =>
      { x with state := .opened, authority := some amount, increments := 0, noMoreIncrements := false }) s)
  else s

/-- A decline of an INITIAL entry: NONE, with REFUSED(DECLINED) (R126). -/
def declineInitial (i : StationId) (s : State) : State :=
  if (s.st i).session.state = .authorizing then reevaluate i (abandonAuthorizing i (some .declined) s) else s

/-- An approval of an INCREMENT entry: the authority grows, and a waiting pick is evaluated again (R130). -/
def approveIncrement (i : StationId) (amount : Nat) (s : State) : State :=
  reevaluate i (s.updSession i fun x =>
    { x with
      authority := some (x.authority.getD 0 + amount)
      increments := addUpTo Config.shortTop x.increments 1 })

/-- A decline, a timeout or an abandoning of an INCREMENT entry: the no-more-increments flag is set, and a waiting pick is
evaluated again (R130 to R132). -/
def endIncrements (i : StationId) (s : State) : State :=
  reevaluate i (s.updSession i fun x => { x with noMoreIncrements := true })

/-- A taken result applied by the entry's kind; an approved amount of 0 is a decline (R125, R126, R130). -/
def applyResult (i : StationId) (kind : AuthKind) (amount : Nat) (s : State) : State :=
  match kind with
  | .initial => if amount = 0 then declineInitial i s else approveInitial i amount s
  | .increment => if amount = 0 then endIncrements i s else approveIncrement i amount s

/-- An entry of station `i` ended without a result, by its timer (R127, R131) or by the link going DOWN (R132): it is
removed with cancel; INITIAL leaves the card to stand-in, INCREMENT ends the session's increments. -/
def endEntry (i : StationId) (cause : CancelCause) (s : State) : State :=
  match (s.st i).auth with
  | none => s
  | some e =>
    let s1 := removeEntry i (some cause) s
    match e.kind with
    | .initial => decideStandIn i s1
    | .increment => endIncrements i s1

/-- The authorization timer of station `i`'s entry of a kind has run out (R127, R131). -/
def authTimesOut (i : StationId) (kind : AuthKind) (s : State) : State :=
  if (s.st i).auth.any fun e => e.kind == kind && e.left == 0 then endEntry i .timeout s else s

/-- The link goes DOWN: the pending authorization table is emptied, an entry at a time, in an open order (R132). Nothing comes
between two entries (DESIGN CHOICE, log entry 27). A stand-in grant here at a session with a close pending opens it, closes it at
once and appends its record (R30, R39, R143): the journal, the occupancy, the next journal number and the level then change,
although R141 has link DOWN leave them as they are (DEDUCED, log entry 28). -/
def emptyTable (s : State) : State :=
  let order := inOpenOrder s.authStations s
  order.1.foldl (fun t i => endEntry i .linkDown t) order.2

/-- The silence timer has run out with the link UP: the link becomes DOWN, the timer stops, the link down count grows, and
the card authorization unit is told (R183). Where a valid frame has come first, the timer runs again and the link stays UP. -/
def silenceExpires (s : State) : State :=
  if s.host.linkUp ∧ s.host.silenceTimer = some 0 then
    emptyTable (s.updHost fun h =>
      { h with
        linkUp := false
        silenceTimer := none
        counters := { h.counters with linkDowns := addUpTo Config.shortTop h.counters.linkDowns 1 } })
  else s

end Sys2Proof.Machine
end

