-- ==== Sys2Proof/Machine/PaperPath.lean ====
section
/-!
DEFINITION. The service hold's changes (chapter 9) and the in-flight queue's removals (sections 4.4 and 4.5): exits and
overdue sheets.
-/

namespace Sys2Proof.Machine

/-! ## Changes of the hold (R162) -/

/-- The hold state of station `i` changed, and the idle timer judged (R31, R162). -/
def setHold (i : StationId) (h : HoldState) (s : State) : State :=
  syncIdle i (s.upd i fun x => { x with hold := h })

/-- A change of hold with its reports: the idle timer; the recovery unit, which stalls the session when the hold has become
NONE while the stoppage condition is set (R86); and the waiting request (R162). `recovering` marks a change made within a
recovery, which leaves the session as the recovery has it (R89). -/
def changeHold (recovering : Bool) (i : StationId) (h : HoldState) (s : State) : State :=
  let s1 := setHold i h s
  let s2 :=
    if h = .none ∧ (s1.st i).recovery.stoppage.isSome ∧ !recovering then stallUnlessHeld i s1 else s1
  reevaluate i s2

/-- An empty queue moves the hold on: REQUESTED to HELD, RELEASING to NONE (R159, R161). Within a recovery the hold is NONE
before the waiting request is evaluated, so a pick that waited PATH_FULL on a queue of SERVICE entries is judged under hold NONE
(DEDUCED, log entry 8). -/
def holdWhenEmpty (recovering : Bool) (i : StationId) (s : State) : State :=
  let x := s.st i
  if x.queue.isEmpty then
    match x.hold with
    | .requested => changeHold recovering i .held s
    | .releasing => changeHold recovering i .none s
    | .none => s
    | .held => s
  else s

/-! ## Removals -/

/-- The reports that follow a removal, to the session controller, to the service hold and to the waiting request (R71).
`chargedGone` says that a CHARGED entry has been removed. -/
def afterRemoval (recovering chargedGone : Bool) (i : StationId) (s : State) : State :=
  reevaluate i (holdWhenEmpty recovering i (if chargedGone then drainCheck i s else s))

/-- An entry is CHARGED. -/
def isCharged (e : InFlight) : Bool := e.kind == .charged

/-- A delivered entry on the meters (R72). -/
def deliverMeter (e : InFlight) (m : Meters) : Meters :=
  match e.kind with
  | .charged => { m with delivered := addMeter m.delivered e.impressions }
  | .service => { m with serviceDelivered := addMeter m.serviceDelivered e.impressions }

/-- An exit that finds the queue empty: an uncharged exit (R73). -/
def unchargedExit (i : StationId) (s : State) : State :=
  raiseAnomaly i .unchargedExit (s.upd i fun x =>
    { x with
      meters := { x.meters with unchargedExits := addMeter x.meters.unchargedExits 1 }
      session :=
        if sessionLive x.session then
          { x.session with unchargedExits := addUpTo Config.countTop x.session.unchargedExits 1 }
        else x.session })

/-- One exit: the head entry is delivered, or the exit is uncharged (R72, R73). -/
def exitOne (i : StationId) (s : State) : State :=
  match (s.st i).queue with
  | [] => unchargedExit i s
  | e :: rest => afterRemoval false (isCharged e) i (setQueue i rest (s.updMeters i (deliverMeter e)))

/-- The head entry `e` taken back: a CHARGED entry is credited, with a SHOW, a SERVICE entry is not; both join the written
off meter (R75, R76). -/
def takeBack (i : StationId) (e : InFlight) (rest : List InFlight) (s : State) : State :=
  let s1 := setQueue i rest (s.updMeters i fun m => { m with writtenOff := addMeter m.writtenOff e.impressions })
  if isCharged e then offerShow i (creditSheet i e s1) else s1

/-- The head entry removed as overdue, with its ANOMALY condition and its reports (R75). -/
def overdueOne (i : StationId) (s : State) : State :=
  match (s.st i).queue with
  | [] => s
  | e :: rest => afterRemoval false (isCharged e) i (raiseAnomaly i .overdue (takeBack i e rest s))

/-- The head entry's age has reached its limit, with the age counting running (R74, R75). -/
def headOverdue (x : Station) : Bool :=
  x.recovery.stoppage.isNone && (x.queue.head?.any fun e => seconds e.limit ≤ e.age)

/-- Whether the removal of an overdue head comes before an exit of the same event that still waits: with one waiting the order
is open, and an odd choice lets the exit go first; with none the removal comes (R72, log entry 1). -/
def removalFirst (exitWaits : Bool) (s : State) : Bool × State :=
  if exitWaits then (s.choose.1 % 2 == 0, s.choose.2) else (true, s)

/-- The head of station `i`'s queue judged against its own limit: an overdue head is removed, and then the next one is
judged (R72, R74, R75). Between an overdue credit and the closing cent of the DRAINING close that it causes, and between it and the
next overdue credit, nothing of another station comes and no request: R75 does not call the step whole, and R39 and R107
leave their order against other events on the account open (DESIGN CHOICE, log entry 24). -/
def judgeHeads (exitWaits : Bool) (i : StationId) : Nat → State → State
  | 0, s => s
  | n + 1, s =>
    if headOverdue (s.st i) then
      let c := removalFirst exitWaits s
      if c.1 then judgeHeads exitWaits i n (overdueOne i c.2) else c.2
    else s

/-- The head entry of station `i` has reached its transit limit; age counting is suspended while the stoppage condition is
set (R74, R75). The heads that are overdue together are removed with nothing between (log entry 24). -/
def headExpires (i : StationId) (s : State) : State := judgeHeads false i Config.inFlightRoom s

/-- An exits event of a count: as many exits, one after another, each whole; the entry that each makes the head is judged by
its own age (R72, R74). Nothing of another station comes between two of them (DESIGN CHOICE, log entry 24). -/
def exits (i : StationId) : Nat → State → State
  | 0, s => s
  | n + 1, s => exits i n (judgeHeads (n != 0) i Config.inFlightRoom (exitOne i s))

end Sys2Proof.Machine
end

