-- ==== Sys2Proof/Machine/Meanwhile.lean ====
section
/-!
DEFINITION. The gaps of one command, in which the rules let other events reach the part (log entry 20), and the gap between a
session's entry into DRAINING and the close that follows at once, in which activity of its station may come (R32, R118).
-/

namespace Sys2Proof.Machine

/-- A gap: what the tape has for it and the gap admits reaches the part, in order, each taken by `take`. -/
def takeGap (admits : Meanwhile → Bool) (take : Meanwhile → State → State) (s : State) : State :=
  (s.popMeanwhile.1.filter admits).foldl (fun t e => take e t) s.popMeanwhile.2

/-! ## Activity of a station -/

/-- A pick raised in the slot of station `i`: a present station whose latch is IDLE makes it a request (R8), and nothing else
of the slot is taken. A second pick of a station in the gaps needs a drop before it (R10, `dropAt`). -/
def pickAt (i : StationId) (p : SheetSpec) (s : State) : State :=
  let l := (s.st i).line
  if l.present ∧ l.latch = .idle then
    pickRaised i (nextSerial l) p (s.updLine i (raiseLatch p))
  else s

/-- The serial of the request that a latch holds, if it is RAISED. -/
def raisedSerial : Latch → Option Nat
  | .raised n _ _ => some n
  | _ => none

/-- A RAISED request of station `i` withdrawn (R4, R10). -/
def withdrawRaised (i : StationId) (l : Latch) (s : State) : State :=
  match raisedSerial l with
  | some n => pickWithdrawn i n s
  | none => s

/-- The pick field of station `i` dropped: the latch of a present station returns to IDLE, a RAISED request is withdrawn, and a
later pick is a new request (R8, R10). -/
def dropAt (i : StationId) (s : State) : State :=
  if (s.st i).line.present then withdrawRaised i (s.st i).line.latch (s.updLine i fun l => { l with latch := .idle }) else s

/-- An exits event of station `i`: it is session activity, and each exit is taken (R11, R32, R72). A count of 0 raises no event
(R11). -/
def exitsEvent (i : StationId) (count : Nat) (s : State) : State :=
  if count = 0 then s else exits i count (activity i s)

/-- The activity of a station that reaches the part in a gap: a pick, the drop of one, exits of a present station, or a message. -/
def takeActivity (e : Meanwhile) (s : State) : State :=
  match e with
  | .pick i p => atStation i (pickAt i p) s
  | .dropped i => atStation i (dropAt i) s
  | .exits i n => atStation i (fun t => if (t.st i).line.present then exitsEvent i n.val t else t) s
  | .message i m => atStation i (deliver i m) s
  | .recovered _ _ => s
  | .code _ _ => s
  | .idleExpiry _ => s
  | .stallExpiry _ => s
  | .overdue _ => s
  | .request _ => s
  | .arbiter => s
  | .frameSent => s
  | .advance _ => s

/-! ## From DRAINING to the close -/

/-- What may come between the entry of station `i`'s session into DRAINING and its close: activity at the station (R32). -/
def activityAt (i : StationId) : Meanwhile → Bool
  | .pick j _ => j == i
  | .dropped j => j == i
  | .exits j _ => j == i
  | .message j _ => j == i
  | .recovered _ _ => false
  | .code _ _ => false
  | .idleExpiry _ => false
  | .stallExpiry _ => false
  | .overdue _ => false
  | .request _ => false
  | .arbiter => false
  | .frameSent => false
  | .advance _ => false

/-- The OPEN session of station `i` goes to DRAINING with a reason. Activity taken next finds it DRAINING, so that a pick in it
gets STOP(CLOSING) (R32, R118), and then the session closes if no CHARGED entry is left (R36, log entry 20). -/
def drainAmidActivity (i : StationId) (r : CloseReason) (s : State) : State :=
  drainCheck i (takeGap (activityAt i) takeActivity (startDraining i r s))

/-- The idle timer of station `i` has run out: its OPEN session goes to DRAINING with reason IDLE, and closes (R32). -/
def idleExpires (i : StationId) (s : State) : State :=
  if (s.st i).idleTimer = some 0 ∧ (s.st i).session.state = .opened then drainAmidActivity i .idle s else s

/-- The close reason FROZEN at station `i` (R33, R114). R36 closes an OPEN session that has no CHARGED entry left at once, and R118
has a pick that comes after the request find it DRAINING and get STOP(CLOSING): activity may come before the close, as the tape
of the gaps has it (DESIGN CHOICE, log entry 20). -/
def takeFrozen (i : StationId) (s : State) : State :=
  if (s.st i).session.state = .opened ∧ !holdsCharged (s.st i).queue then drainAmidActivity i .frozen s
  else takeReason i .frozen s

end Sys2Proof.Machine
end

