-- ==== Sys2Proof/Machine/Replies.lean ====
section
/-!
DEFINITION. What the owner of a request answers to it, and the reply buffer that takes the answer (sections 10.3 and 11.3).
-/

namespace Sys2Proof.Machine

/-- An owner's answer to a request: the status, the body after it, and the state that the request leaves. -/
structure Answered where
  status : Status
  body : List Byte
  state : State
  deriving DecidableEq, Repr

/-- A request done: OK with the fields of its reply. -/
def answerOk (body : List Byte) (s : State) : Answered := ⟨.ok, body, s⟩

/-- A refused request: the status alone, and nothing changed (R191). -/
def answerRefused (status : Status) (s : State) : Answered := ⟨status, [], s⟩

/-- An owner's answer put into the reply buffer, where it waits to be sent (R174). -/
def bufferReply (kind : Byte) (a : Answered) : State :=
  a.state.updHost fun h => { h with reply := .waiting ⟨kind, a.status, a.body⟩ }

end Sys2Proof.Machine
end

