-- ==== Sys2Proof/Machine/AccountRequests.lean ====
section
/-!
DEFINITION. The account unit's six account requests (chapter 6).
-/

namespace Sys2Proof.Machine

/-- The range fields of an account reply; a number in no range gives entry 0xFF and kind 0 (spec/11 section 11.3), and its
tariff class and overdraft are free values (log entry 10). -/
def accountRangeBytes (ranges : Vector (Option Range) 8) (n : Nat) : List Byte :=
  match containingEntry ranges n, containingRange ranges n with
  | some e, some r => [BitVec.ofNat 8 e.val, rangeKindValue r.kind, BitVec.ofNat 8 r.tariffClass.val]
      ++ beBytes 3 r.overdraft
  | _, _ => 0xFF :: 0 :: (beBytes 1 (Config.unstatedTariffClass n) ++ beBytes 3 (Config.unstatedOverdraft n))

/-- The reply that carries an account record (R110, spec/11 section 11.3). -/
def accountBody (u : AccountUnit) (a : Account) : List Byte :=
  beBytes 3 a.number ++ signedBytes a.balance ++ [flagByte a.frozen] ++ beBytes 1 a.maxSessions
    ++ beBytes 1 a.openSessions ++ beBytes 4 a.lifetimeSpend ++ beBytes 4 a.lastUse
    ++ accountRangeBytes u.ranges a.number ++ beBytes 4 (availableFunds u a).toNat

/-- The reply that carries the record of a number as it stands in a state (R110). -/
def answerAccount (n : Nat) (s : State) : Answered :=
  answerOk (((findAccount s.accounts n).map (accountBody s.accounts)).getD []) s

/-- The two checks that begin the requests on a stored account (R110). -/
def onStored (number : BitVec 24) (s : State) (f : Account → Answered) : Answered :=
  if number = 0 then answerRefused .range s
  else
    match findAccount s.accounts number.toNat with
    | none => answerRefused .notFound s
    | some a => f a

/-- The stations whose session pays from an account (R114). -/
def payingStations (s : State) (n : Nat) : List StationId :=
  allStations.filter fun i => sessionLive (s.st i).session && (s.st i).session.payer == some (.account n)

/-- The close reason FROZEN at each station whose session pays from an account, in an open order (R114, log entry 1). Nothing
else comes between the closes of two stations (DESIGN CHOICE, log entry 24). -/
def freezeSessions (n : Nat) (s : State) : State :=
  let order := inOpenOrder (payingStations s n) s
  order.1.foldl (fun t i => takeFrozen i t) order.2

/-- A record put, and its sessions sent FROZEN where its state has gone from ACTIVE to FROZEN (R112, R114). -/
def putFreezing (wasFrozen : Bool) (a : Account) (s : State) : State :=
  if !wasFrozen && a.frozen then freezeSessions a.number (putAccount a s) else putAccount a s

/-- An account state byte (spec/11 section 11.8). -/
def accountStateOf (b : Byte) : Option Bool :=
  if b = 0 then some false else if b = 1 then some true else none

/-- The values of ACCOUNT PUT are in range (check 1 of R111). -/
def putInRange (balance : Int) (maxSessions : Byte) : Bool :=
  1 ≤ maxSessions && maxSessions ≤ 4 && Config.balanceBottom ≤ balance && balance ≤ Config.balanceTop

/-- Checks 2 to 4 of ACCOUNT PUT, and the record created or replaced (R111, R112). -/
def putChecked (n : Nat) (balance : Int) (frozen : Bool) (maxSessions : Nat) (s : State) : Answered :=
  match findAccount s.accounts n with
  | none =>
    if Config.accountRoom ≤ s.accounts.accounts.length then answerRefused .full s
    else if balance < floorOf s.accounts.ranges n then answerRefused .range s
    else answerAccount n (putAccount ⟨n, balance, frozen, maxSessions, 0, 0, s.journal.clock⟩ s)
  | some a =>
    if balance < floorOf s.accounts.ranges n then answerRefused .range s
    else if maxSessions < a.openSessions then answerRefused .conflict s
    else answerAccount n
      (putFreezing a.frozen { a with balance := balance, frozen := frozen, maxSessions := maxSessions } s)

/-- ACCOUNT PUT (R111, R112). -/
def takeAccountPut (number : BitVec 24) (balance : BitVec 32) (state maxSessions : Byte) (s : State) : Answered :=
  if number = 0 then answerRefused .range s
  else
    match accountStateOf state with
    | none => answerRefused .range s
    | some frozen =>
      if putInRange balance.toInt maxSessions then
        putChecked number.toNat balance.toInt frozen maxSessions.toNat s
      else answerRefused .range s

/-- ACCOUNT GET (R117). -/
def takeAccountGet (number : BitVec 24) (s : State) : Answered :=
  onStored number s fun a => answerOk (accountBody s.accounts a) s

/-- ACCOUNT ADJUST (R113). -/
def takeAccountAdjust (number : BitVec 24) (amount : BitVec 32) (s : State) : Answered :=
  onStored number s fun a =>
    let b := a.balance + amount.toInt
    if b < floorOf s.accounts.ranges a.number ∨ Config.balanceTop < b then answerRefused .range s
    else answerAccount a.number (putAccount { a with balance := b } s)

/-- ACCOUNT FREEZE (R114). -/
def takeAccountFreeze (number : BitVec 24) (s : State) : Answered :=
  onStored number s fun a =>
    answerAccount a.number (if a.frozen then s else putFreezing false { a with frozen := true } s)

/-- ACCOUNT THAW (R115). -/
def takeAccountThaw (number : BitVec 24) (s : State) : Answered :=
  onStored number s fun a =>
    answerAccount a.number (if a.frozen then putAccount { a with frozen := false } s else s)

/-- ACCOUNT REMOVE (R116): the reply carries the record as it stood. -/
def takeAccountRemove (number : BitVec 24) (s : State) : Answered :=
  onStored number s fun a =>
    if 0 < a.openSessions then answerRefused .busy s
    else answerOk (accountBody s.accounts a) (dropAccount a.number s)

end Sys2Proof.Machine
end

