-- ==== Sys2Proof/Machine/StationRequests.lean ====
section
/-!
DEFINITION. The requests that name a station (chapters 2, 4, 5 and 9).
-/

namespace Sys2Proof.Machine

/-- The station that a byte names, if it is in the frame (check 3 of R175). -/
def stationNamed (s : State) (b : Byte) : Option StationId :=
  if h : b.toNat < 16 then (if s.inFrame ⟨b.toNat, h⟩ then some ⟨b.toNat, h⟩ else none) else none

/-- The third check of R175: a request that names a station outside the frame is answered RANGE. -/
def onStation (b : Byte) (s : State) (f : StationId → Answered) : Answered :=
  match stationNamed s b with
  | none => answerRefused .range s
  | some i => f i

/-! ## STATION GET (R98) -/

/-- A code with its location as two bytes, both 0 where there is none (spec/11 section 11.3). -/
def codeBytes (c : Option Code) : List Byte := [(c.map codeValue).getD 0, (c.map codeLocation).getD 0]

/-- A stoppage cause with its location as two bytes, both 0 for clear (spec/11 section 11.3). -/
def stoppageBytes (c : Option Cause) : List Byte := [(c.map causeValue).getD 0, (c.map causeLocation).getD 0]

/-- The STATION GET reply (R7, R98, spec/11 section 11.3). -/
def stationBody (i : StationId) (x : Station) : List Byte :=
  [stationByte i, flagByte x.line.present, lineStateValue (lineState x.line)] ++ codeBytes x.line.confirmed
    ++ codeBytes x.line.candidate ++ stoppageBytes x.recovery.stoppage ++ [flagByte x.recovery.stallTimer.isSome]
    ++ beBytes 2 (wholeSeconds (x.recovery.stallTimer.getD 0)) ++ [availabilityValue x.recovery.availability]
    ++ [flagByte x.recovery.disablePending] ++ [sessionStateValue x.session.state] ++ beBytes 2 x.session.number
    ++ beBytes 2 x.session.stallCount ++ [holdValue x.hold]

/-- STATION GET (R98). -/
def takeStationGet (station : Byte) (s : State) : Answered :=
  onStation station s fun i => answerOk (stationBody i (s.st i)) s

/-! ## STATION ENABLE and STATION DISABLE (R94, R96) -/

/-- The reply of both: availability and disable pending after the request. -/
def availabilityAnswer (i : StationId) (s : State) : Answered :=
  answerOk [availabilityValue (s.st i).recovery.availability, flagByte (s.st i).recovery.disablePending] s

/-- STATION ENABLE (R96). -/
def takeStationEnable (station : Byte) (s : State) : Answered :=
  onStation station s fun i =>
    if (s.st i).recovery.stoppage.isSome then answerRefused .state s
    else
      match (s.st i).recovery.availability with
      | .outOfService => availabilityAnswer i (setAvailability i .enabled s)
      | .enabled => availabilityAnswer i (s.updRecovery i fun r => { r with disablePending := false })

/-- STATION DISABLE (R94). -/
def takeStationDisable (station : Byte) (s : State) : Answered :=
  onStation station s fun i =>
    match (s.st i).recovery.availability with
    | .outOfService => availabilityAnswer i s
    | .enabled =>
      if sessionLive (s.st i).session then
        availabilityAnswer i (takeReason i .disabled (s.updRecovery i fun r => { r with disablePending := true }))
      else availabilityAnswer i (setAvailability i .outOfService s)

/-! ## SESSION END (R35) -/

/-- SESSION END: the close reason HOST for a session that exists (R35). -/
def takeSessionEnd (station : Byte) (s : State) : Answered :=
  onStation station s fun i =>
    if sessionLive (s.st i).session then answerOk [] (takeReason i .host s) else answerRefused .state s

/-! ## SERVICE HOLD and SERVICE RELEASE (R158, R160, R169) -/

/-- The reply of both (R169). -/
def holdAnswer (i : StationId) (s : State) : Answered :=
  answerOk ([stationByte i, holdValue (s.st i).hold] ++ beBytes 1 (s.st i).queue.length
    ++ beBytes 1 (chargedCount (s.st i).queue)) s

/-- SERVICE HOLD (R158). The reply's figures are read after the change of hold with its reports, so after the evaluation of a
waiting request, which may add an entry; R169 says the queue "as they then are" and does not order the two (DEDUCED, log
entry 22). -/
def takeServiceHold (station : Byte) (s : State) : Answered :=
  onStation station s fun i =>
    match (s.st i).hold with
    | .none => holdAnswer i (changeHold false i (if (s.st i).queue.isEmpty then .held else .requested) s)
    | .requested => holdAnswer i s
    | .held => holdAnswer i s
    | .releasing => holdAnswer i s

/-- SERVICE RELEASE (R160). -/
def takeServiceRelease (station : Byte) (s : State) : Answered :=
  onStation station s fun i =>
    match (s.st i).hold with
    | .held => holdAnswer i (changeHold false i (if (s.st i).queue.isEmpty then .none else .releasing) s)
    | .requested => holdAnswer i (changeHold false i .none s)
    | .none => holdAnswer i s
    | .releasing => holdAnswer i s

/-! ## METER GET and METER CLEAR (R79) -/

/-- The METER GET reply (R79, spec/11 section 11.3). -/
def meterBody (x : Station) : List Byte :=
  beBytes 4 x.meters.granted ++ beBytes 4 x.meters.delivered ++ beBytes 4 x.meters.serviceDelivered
    ++ beBytes 4 x.meters.writtenOff ++ beBytes 4 x.meters.stalls ++ beBytes 4 x.meters.unchargedExits
    ++ beBytes 4 x.meters.sessionsClosed ++ beBytes 1 x.queue.length
    ++ beBytes 1 (x.queue.map (·.impressions)).sum ++ beBytes 1 (chargedCount x.queue)
    ++ [requestStateValue x.request]

/-- METER GET (R79). -/
def takeMeterGet (station : Byte) (s : State) : Answered :=
  onStation station s fun i => answerOk (meterBody (s.st i)) s

/-- METER CLEAR (R79). -/
def takeMeterClear (station : Byte) (s : State) : Answered :=
  onStation station s fun i =>
    if (s.st i).queue.isEmpty then answerOk [] (s.updMeters i fun _ => Meters.zero) else answerRefused .busy s

end Sys2Proof.Machine
end

