-- ==== Sys2Proof/Machine/Settings.lean ====
section
/-!
DEFINITION. The requests on the part as a whole: STATUS, START, STOP, the timers, the levels and the clock (chapters
2, 8 and 10), and the charge unit's tables (chapter 3).
-/

namespace Sys2Proof.Machine

/-! ## STATUS (R186) -/

/-- The time left on the silence timer in whole seconds, 0 while it is stopped (R186). -/
def silenceLeft (h : HostLine) : Nat := if h.linkUp then wholeSeconds (h.silenceTimer.getD 0) else 0

/-- The two straps in one byte (spec/11 section 11.3). -/
def strapsByte (h : HostLine) : Byte :=
  BitVec.ofNat 8 ((flagByte h.stationsHigh).toNat + 2 * (flagByte h.lineRateHigh).toNat)

/-- The STATUS reply (R186). -/
def statusBody (s : State) : List Byte :=
  [opStateValue s.host.op, flagByte s.host.linkUp] ++ beBytes 2 (silenceLeft s.host) ++ [strapsByte s.host]
    ++ beBytes 2 s.host.counters.lengthErrors ++ beBytes 2 s.host.counters.checkErrors
    ++ beBytes 2 s.host.counters.gapErrors ++ beBytes 2 s.host.counters.strayFrames
    ++ beBytes 2 s.host.counters.overruns ++ beBytes 2 s.host.counters.breaks
    ++ beBytes 2 s.host.counters.linkDowns ++ beBytes 1 s.host.received.length
    ++ beBytes 2 s.journal.records.length ++ [urgencyValue s.journal.level] ++ beBytes 4 s.journal.nextNumber
    ++ beBytes 4 s.journal.clock ++ [flagByte s.journal.clockUnset] ++ beBytes 3 (exposure s.cards)
    ++ beBytes 1 s.cards.standIn.length ++ beBytes 2 s.accounts.accounts.length ++ beBytes 1 s.sessions

/-- STATUS reads each owner and changes nothing (R186). -/
def takeStatus (s : State) : Answered := answerOk (statusBody s) s

/-! ## START and STOP (R23, R24) -/

/-- START makes a STOPPED part RUNNING; otherwise it is refused STATE (R23). -/
def takeStart (s : State) : Answered :=
  if s.host.op = .stopped then answerOk [] (s.updHost fun h => { h with op := .running })
  else answerRefused .state s

/-- STOP makes a RUNNING part STOPPING, or STOPPED where no session exists (R24). -/
def takeStop (s : State) : Answered :=
  answerOk []
    (if s.host.op = .running then stopWhenEmpty (s.updHost fun h => { h with op := .stopping }) else s)

/-! ## SET TIMERS, SET LEVELS, SET CLOCK (R184, R177, R153) -/

/-- A value brought into a range (R184). -/
def clampTo (low high v : Nat) : Nat := max low (min high v)

/-- The six values brought into their ranges (R184). -/
def clampTimers (idle pickWait transit stall auth silence : Nat) : TimerValues where
  idle := clampTo 10 600 idle
  pickWait := clampTo 5 60 pickWait
  transit := clampTo 5 120 transit
  stall := clampTo 1 120 stall
  auth := clampTo 5 60 auth
  silence := clampTo 5 300 silence

/-- The SET TIMERS reply (spec/11 section 11.3). -/
def timersBody (t : TimerValues) : List Byte :=
  beBytes 2 t.idle ++ beBytes 2 t.pickWait ++ beBytes 2 t.transit ++ beBytes 2 t.stall ++ beBytes 2 t.auth
    ++ beBytes 2 t.silence

/-- SET TIMERS (R184): running timers keep the value they were started with. -/
def takeSetTimers (idle pickWait transit stall auth silence : BitVec 16) (s : State) : Answered :=
  let t := clampTimers idle.toNat pickWait.toNat transit.toNat stall.toNat auth.toNat silence.toNat
  answerOk (timersBody t) (s.updHost fun h => { h with timers := t })

/-- The SET LEVELS reply: AUTH first, whose level is 3 (R177). -/
def levelsBody (l : Levels) : List Byte :=
  3 :: (beBytes 1 l.jam ++ beBytes 1 l.session ++ beBytes 1 l.station ++ beBytes 1 l.anomaly ++ beBytes 1 l.journal)

/-- SET LEVELS (R177). -/
def takeSetLevels (jam session station anomaly journal : Byte) (s : State) : Answered :=
  if jam ≤ 3 ∧ session ≤ 3 ∧ station ≤ 3 ∧ anomaly ≤ 3 ∧ journal ≤ 3 then
    let l : Levels := ⟨jam.toNat, session.toNat, station.toNat, anomaly.toNat, journal.toNat⟩
    answerOk (levelsBody l) (s.updHost fun h => { h with levels := l })
  else answerRefused .range s

/-- SET CLOCK (R153). -/
def takeSetClock (value : BitVec 32) (s : State) : Answered :=
  answerOk [] (s.updJournal fun j => { j with clock := value.toNat, clockUnset := false })

/-! ## The charge unit's tables (R46, R48) -/

/-- A byte as a class number 0 to 7; `none` above 7 (R46, R101). -/
def classOf (b : Byte) : Option (Fin 8) := if h : b.toNat < 8 then some ⟨b.toNat, h⟩ else none

/-- A colour byte (spec/11 section 11.8). -/
def colourOf (b : Byte) : Option Colour :=
  if b = 0 then some .mono else if b = 1 then some .colour else none

/-- A base price as carried: a price, or UNSET; `none` for a value out of range (R46, R189). -/
def priceOf (p : BitVec 16) : Option (Option Nat) :=
  if p = 0xFFFF#16 then some none else if p.toNat ≤ 60000 then some (some p.toNat) else none

/-- A base price as sent (R189). -/
def priceBytes (p : Option Nat) : List Byte := beBytes 2 (p.getD 0xFFFF)

/-- SET TARIFF (R46). -/
def takeSetTariff (tariffClass media colour : Byte) (price : BitVec 16) (s : State) : Answered :=
  if s.host.op ≠ .stopped then answerRefused .state s
  else
    match classOf tariffClass, classOf media, colourOf colour, priceOf price with
    | some c, some m, some k, some p =>
      answerOk (tariffClass :: media :: colour :: priceBytes p)
        (s.updCharge fun u => { u with tariff := u.tariff.set (tariffIndex c m k) p })
    | _, _, _, _ => answerRefused .range s

/-- A threshold is 0 or 2 to 999,999 (R48). -/
def thresholdOk (t : Nat) : Bool := t == 0 || (2 ≤ t && t ≤ 999999)

/-- Used tiers do not follow unused ones, and their thresholds strictly increase (R48). -/
def tiersOrdered (t1 t2 t3 : Nat) : Bool :=
  (t2 == 0 || (t1 != 0 && t1 < t2)) && (t3 == 0 || (t2 != 0 && t2 < t3))

/-- A tier as stored: its discount at most 90, and 0 while it is unused (R48). -/
def storedTier (threshold discount : Nat) : Tier := ⟨threshold, if threshold = 0 then 0 else min 90 discount⟩

/-- The SET TIERS reply (spec/11 section 11.3). -/
def tiersBody (tariffClass : Byte) (t : TierSet) : List Byte :=
  tariffClass :: (beBytes 1 t.discount0 ++ beBytes 3 t.tier1.threshold ++ beBytes 1 t.tier1.discount
    ++ beBytes 3 t.tier2.threshold ++ beBytes 1 t.tier2.discount ++ beBytes 3 t.tier3.threshold
    ++ beBytes 1 t.tier3.discount)

/-- The four tiers as SET TIERS stores them (R48). -/
def storedTiers (d0 t1 d1 t2 d2 t3 d3 : Nat) : TierSet :=
  ⟨min 90 d0, storedTier t1 d1, storedTier t2 d2, storedTier t3 d3⟩

/-- SET TIERS (R48). -/
def takeSetTiers (tariffClass discount0 : Byte) (threshold1 : BitVec 24) (discount1 : Byte) (threshold2 : BitVec 24)
    (discount2 : Byte) (threshold3 : BitVec 24) (discount3 : Byte) (s : State) : Answered :=
  if s.host.op ≠ .stopped then answerRefused .state s
  else
    match classOf tariffClass with
    | none => answerRefused .range s
    | some c =>
      if !(thresholdOk threshold1.toNat && thresholdOk threshold2.toNat && thresholdOk threshold3.toNat) then
        answerRefused .range s
      else if !tiersOrdered threshold1.toNat threshold2.toNat threshold3.toNat then answerRefused .range s
      else
        let t := storedTiers discount0.toNat threshold1.toNat discount1.toNat threshold2.toNat discount2.toNat
          threshold3.toNat discount3.toNat
        answerOk (tiersBody tariffClass t) (s.updCharge fun u => { u with tiers := u.tiers.set c t })

end Sys2Proof.Machine
end

