-- ==== Sys2Proof/Machine/RangeRequests.lean ====
section
/-!
DEFINITION. SET RANGE, the account unit's request on its range table (chapter 6).
-/

namespace Sys2Proof.Machine

/-- A range kind byte (spec/11 section 11.8). -/
def rangeKindOf (b : Byte) : Option RangeKind :=
  if b = 1 then some .prepaid else if b = 2 then some .postpaid else none

/-- The used entry that SET RANGE carries, with its overdraft as stored; `none` where check 3 fails (R101). -/
def carriedRange (low high : BitVec 24) (kind tariffClass : Byte) (overdraft : BitVec 24) : Option Range :=
  match rangeKindOf kind, classOf tariffClass with
  | some k, some c =>
    if low.toNat = 0 ∨ high.toNat < low.toNat ∨ 99999 < overdraft.toNat then none
    else some ⟨low.toNat, high.toNat, k, c, if k = .prepaid then 0 else overdraft.toNat⟩
  | _, _ => none

/-- Two spans share a number (R101). -/
def spansMeet (a b : Range) : Bool := a.low ≤ b.high && b.low ≤ a.high

/-- The lowest-numbered other used entry whose span meets that of a range (R101). -/
def overlapping (ranges : Vector (Option Range) 8) (entry : Fin 8) (r : Range) : Option (Fin 8) :=
  (List.finRange 8).find? fun e => e != entry && (ranges[e]).any (spansMeet r)

/-- The lowest number among the stored accounts whose balance would lie below its floor under a range table (R102). -/
def belowFloor (ranges : Vector (Option Range) 8) (accounts : List Account) : Option Nat :=
  ((accounts.filter fun a => a.balance < floorOf ranges a.number).map (·.number)).min?

/-- The SET RANGE reply: the entry as stored; the last five fields are 0 for an unused entry (spec/11 section 11.3). -/
def rangeBody (entry : Fin 8) (r : Option Range) : List Byte :=
  match r with
  | none => [BitVec.ofNat 8 entry.val, 0] ++ List.replicate 11 0
  | some r => [BitVec.ofNat 8 entry.val, 1] ++ beBytes 3 r.low ++ beBytes 3 r.high
      ++ [rangeKindValue r.kind, BitVec.ofNat 8 r.tariffClass.val] ++ beBytes 3 r.overdraft

/-- The last two checks of SET RANGE and the write of the entry (R101). -/
def writeRange (entry : Fin 8) (r : Option Range) (s : State) : Answered :=
  match r.bind (overlapping s.accounts.ranges entry) with
  | some e => ⟨.conflict, 1 :: beBytes 3 e.val, s⟩
  | none =>
    match belowFloor (s.accounts.ranges.set entry r) s.accounts.accounts with
    | some n => ⟨.conflict, 2 :: beBytes 3 n, s⟩
    | none => answerOk (rangeBody entry r) (s.updAccounts fun u => { u with ranges := u.ranges.set entry r })

/-- SET RANGE (R101): operation 0 clears the entry, 1 sets it, and any other is refused RANGE (R190). -/
def takeSetRange (entry operation : Byte) (low high : BitVec 24) (kind tariffClass : Byte) (overdraft : BitVec 24)
    (s : State) : Answered :=
  if s.host.op ≠ .stopped then answerRefused .state s
  else
    match classOf entry with
    | none => answerRefused .range s
    | some e =>
      if operation = 0 then writeRange e none s
      else if operation = 1 then
        match carriedRange low high kind tariffClass overdraft with
        | none => answerRefused .range s
        | some r => writeRange e (some r) s
      else answerRefused .range s

end Sys2Proof.Machine
end

