-- ==== Sys2Proof/Machine/CardRequests.lean ====
section
/-!
DEFINITION. The card authorization unit's requests (chapter 7): the card policy, AUTH RESULT and AUTH PENDING, the deny
list and the stand-in list; and the journal unit's two (chapter 8).
-/

namespace Sys2Proof.Machine

/-! ## The card policy (R120) -/

/-- The policy as sent (spec/11 section 11.3). -/
def policyBytes (p : CardPolicy) : List Byte :=
  beBytes 2 p.initialHold ++ beBytes 2 p.increment ++ beBytes 2 p.threshold
    ++ [BitVec.ofNat 8 p.tariffClass.val] ++ beBytes 2 p.standInLimit ++ beBytes 2 p.standInMinimum
    ++ beBytes 3 p.standInCap

/-- The initial hold, or the stand-in limit, is 0 or from 100 to its top (R119). -/
def zeroOr100To (top v : Nat) : Bool := v == 0 || (100 ≤ v && v ≤ top)

/-- The policy that SET CARD POLICY carries, with its stand-in minimum as stored; `none` where check 2 fails (R120). -/
def carriedPolicy (initialHold increment threshold : Nat) (tariffClass : Byte)
    (standInLimit standInMinimum standInCap : Nat) : Option CardPolicy :=
  match classOf tariffClass with
  | none => none
  | some c =>
    if zeroOr100To 50000 initialHold && 100 ≤ increment && increment ≤ 50000 && threshold ≤ 50000
        && zeroOr100To 10000 standInLimit && standInCap ≤ 100000
        && (standInLimit == 0 || (1 ≤ standInMinimum && standInMinimum ≤ standInLimit)) then
      some ⟨initialHold, increment, threshold, c, standInLimit, if standInLimit = 0 then 0 else standInMinimum,
        standInCap⟩
    else none

/-- SET CARD POLICY (R120). -/
def takeSetCardPolicy (initialHold increment threshold : BitVec 16) (tariffClass : Byte)
    (standInLimit standInMinimum : BitVec 16) (standInCap : BitVec 24) (s : State) : Answered :=
  if s.host.op ≠ .stopped then answerRefused .state s
  else
    match carriedPolicy initialHold.toNat increment.toNat threshold.toNat tariffClass standInLimit.toNat
        standInMinimum.toNat standInCap.toNat with
    | none => answerRefused .range s
    | some p =>
      if p.standInCap < exposure s.cards then ⟨.conflict, beBytes 3 (exposure s.cards), s⟩
      else answerOk (policyBytes p) (s.updCards fun c => { c with policy := p })

/-- CARD POLICY GET (R120). -/
def takeCardPolicyGet (s : State) : Answered :=
  answerOk (policyBytes s.cards.policy ++ beBytes 3 (exposure s.cards) ++ beBytes 1 s.cards.standIn.length) s

/-! ## AUTH RESULT and AUTH PENDING (R121, R125) -/

/-- The station whose entry holds a reference (R125). -/
def referenceStation (s : State) (n : Nat) : Option StationId :=
  allStations.find? fun i => (s.st i).auth.any fun e => e.reference == n

/-- The amount that a result applies: the approved amount clamped to the requested one, 0 for a decline (R125). -/
def amountApplied (outcome : Byte) (amount requested : Nat) : Nat := if outcome = 1 then min amount requested else 0

/-- The outcome as taken: APPROVED, or DECLINED where no amount is applied (R125). -/
def outcomeTaken (applied : Nat) : Byte := if applied = 0 then 2 else 1

/-- A result taken by the entry of station `i` (R125). -/
def resultTaken (i : StationId) (e : AuthEntry) (applied : Nat) (s : State) : Answered :=
  answerOk ([stationByte i, authKindValue e.kind, outcomeTaken applied] ++ beBytes 3 applied)
    (applyResult i e.kind applied (removeEntry i none s))

/-- AUTH RESULT (R125). -/
def takeAuthResult (reference : BitVec 16) (outcome : Byte) (amount : BitVec 24) (s : State) : Answered :=
  if reference = 0 ∨ (outcome ≠ 1 ∧ outcome ≠ 2) then answerRefused .range s
  else
    match referenceStation s reference.toNat with
    | none => answerRefused .late s
    | some i =>
      match (s.st i).auth with
      | none => answerRefused .late s
      | some e => resultTaken i e (amountApplied outcome amount.toNat e.amount) s

/-- An entry of the pending authorization table as sent (spec/11 section 11.3). -/
def authEntryBytes (i : StationId) (e : AuthEntry) : List Byte :=
  beBytes 2 e.reference ++ [stationByte i] ++ beBytes 2 e.sessionNumber ++ [authKindValue e.kind]
    ++ beBytes 3 e.amount ++ beBytes 1 (wholeSeconds e.left)

/-- AUTH PENDING (R121): the entries in an open order (log entry 9). -/
def takeAuthPending (s : State) : Answered :=
  let order := inOpenOrder s.authStations s
  answerOk (beBytes 1 order.1.length
    ++ order.1.flatMap fun i => ((s.st i).auth.map (authEntryBytes i)).getD []) order.2

/-! ## The deny list (R138) -/

/-- The reply of the three deny requests: the tokens on the list after the request. -/
def denyAnswer (s : State) : Answered := answerOk (beBytes 2 s.cards.deny.length) s

/-- DENY ADD (R138). -/
def takeDenyAdd (token : Token) (s : State) : Answered :=
  if s.cards.deny.contains token then denyAnswer s
  else if Config.denyRoom ≤ s.cards.deny.length then answerRefused .full s
  else denyAnswer (s.updCards fun c => { c with deny := c.deny ++ [token] })

/-- DENY REMOVE (R138). -/
def takeDenyRemove (token : Token) (s : State) : Answered :=
  if s.cards.deny.contains token then
    denyAnswer (s.updCards fun c => { c with deny := c.deny.filter (· != token) })
  else answerRefused .notFound s

/-- DENY CLEAR (R138). -/
def takeDenyClear (s : State) : Answered := denyAnswer (s.updCards fun c => { c with deny := [] })

/-! ## The stand-in list (R136, R137) -/

/-- A stand-in entry as sent (spec/11 section 11.3). -/
def standInBytes (e : StandInEntry) : List Byte :=
  beBytes 16 e.token.toNat ++ beBytes 3 e.amount ++ beBytes 2 e.sessionNumber ++ [stationByte e.station]
    ++ [standInStateValue e.settled]

/-- STANDIN LIST (R136). -/
def takeStandinList (start : Byte) (s : State) : Answered :=
  if 31 < start.toNat then answerRefused .range s
  else
    let page := (s.cards.standIn.drop start.toNat).take 8
    answerOk (beBytes 1 s.cards.standIn.length ++ beBytes 3 (exposure s.cards) ++ beBytes 1 page.length
      ++ page.flatMap standInBytes) s

/-- STANDIN CLEAR (R137). -/
def takeStandinClear (token : Token) (s : State) : Answered :=
  match s.cards.standIn.find? fun e => e.token == token with
  | none => answerRefused .notFound s
  | some e =>
    if e.settled then
      answerOk (standInBytes e)
        (s.updCards fun c => { c with standIn := c.standIn.eraseP fun x => x.token == token })
    else answerRefused .busy s

/-! ## The journal (R145, R146) -/

/-- JOURNAL READ (R145). -/
def takeJournalRead (count : Byte) (s : State) : Answered :=
  if 1 ≤ count ∧ count ≤ 4 then
    let page := s.journal.records.take count.toNat
    answerOk (beBytes 2 s.journal.records.length ++ [urgencyValue s.journal.level] ++ beBytes 1 page.length
      ++ page.flatMap recordBytes) s
  else answerRefused .range s

/-- The body of a RELEASE reply: the records removed, and the journal as the request leaves it (R146). -/
def releaseBody (removed : Nat) (j : JournalUnit) : List Byte :=
  beBytes 2 removed ++ beBytes 2 j.records.length ++ [urgencyValue j.level] ++ beBytes 4 (headNumber j)

/-- JOURNAL RELEASE (R146). -/
def takeJournalRelease (count : BitVec 16) (expected : BitVec 32) (s : State) : Answered :=
  if count = 0 ∨ 512 < count.toNat then answerRefused .range s
  else if s.journal.records = [] then answerOk (releaseBody 0 s.journal) s
  else if headNumber s.journal ≠ expected.toNat then ⟨.conflict, releaseBody 0 s.journal, s⟩
  else
    let t := releaseRecords count.toNat s
    answerOk (releaseBody (min count.toNat s.journal.records.length) t.journal) t

end Sys2Proof.Machine
end

