-- ==== Sys2Proof/Machine/Notices.lean ====
section
/-!
DEFINITION. The host line controller's outbound side (sections 10.3 and 10.4): the arbiter's choice and the build of a
notice.
-/

namespace Sys2Proof.Machine

/-- The notice classes (section 10.4). -/
inductive NoticeClass where
  | auth
  | jam
  | session
  | station
  | anomaly
  | journal
  deriving DecidableEq, Repr

/-- The class order within one level (R182). -/
def classOrder : List NoticeClass := [.auth, .jam, .session, .station, .anomaly, .journal]

/-- The notice level of a class; that of AUTH is 3 (R177). -/
def classLevel (l : Levels) : NoticeClass → Nat
  | .auth => 3
  | .jam => l.jam
  | .session => l.session
  | .station => l.station
  | .anomaly => l.anomaly
  | .journal => l.journal

/-- A station has a pending form of a class that is kept per station (R178 to R181). -/
def formPending (c : Conditions) : NoticeClass → Bool
  | .auth => c.authCancel.isSome || c.authRequest.isSome
  | .jam => c.jam.isSome
  | .session => c.session
  | .station => c.lineFirst.isSome
  | .anomaly => c.anomalies != 0
  | .journal => false

/-- The station last served in a class (R182). -/
def lastServedIn (l : LastServed) : NoticeClass → StationId
  | .auth => l.auth
  | .jam => l.jam
  | .session => l.session
  | .station => l.station
  | .anomaly => l.anomaly
  | .journal => l.journal

/-- The stations in the order of a search: the one after the last served first, wrapping from 15 to 0 (R182). -/
def searchOrder (last : StationId) : List StationId := allStations.map fun k => last + 1 + k

/-- The station that a class would serve next (R182). -/
def nextServed (c : NoticeClass) (s : State) : Option StationId :=
  (searchOrder (lastServedIn s.host.lastServed c)).find? fun i => formPending (s.st i).cond c

/-- A class has a pending condition (R178 to R181). -/
def classPending (c : NoticeClass) (s : State) : Bool :=
  match c with
  | .journal => s.host.journalFlag
  | c => (nextServed c s).isSome

/-- The class that the arbiter chooses: the first in the class order among the pending ones of the highest level, level 0
never (R177, R182). -/
def chooseClass (s : State) : Option NoticeClass :=
  [3, 2, 1].findSome? fun level =>
    classOrder.find? fun c => classLevel s.host.levels c == level && classPending c s

/-! ## Building (R182) -/

/-- A notice built for station `i`: the station is the last served of its class, and the line carries the frame. -/
def sendNotice (n : Notice) (served : LastServed → LastServed) (s : State) : State :=
  s.updHost fun h => { h with htx := .notice (noticeFrame n), lastServed := served h.lastServed }

/-- AUTH: the cancel goes before the request, each in a notice of its own (R178). -/
def buildAuth (i : StationId) (s : State) : State :=
  match (s.st i).cond.authCancel, (s.st i).cond.authRequest with
  | some c, _ =>
    sendNotice (.authCancel i c) (fun l => { l with auth := i }) (s.updCond i fun x => { x with authCancel := none })
  | none, some r =>
    sendNotice (.authRequest i r) (fun l => { l with auth := i }) (s.updCond i fun x => { x with authRequest := none })
  | none, none => s

/-- JAM: the latest unsent report (R179). -/
def buildJam (i : StationId) (s : State) : State :=
  match (s.st i).cond.jam with
  | some r => sendNotice (.jam i r) (fun l => { l with jam := i }) (s.updCond i fun x => { x with jam := none })
  | none => s

/-- SESSION: the state and number that the session controller holds now (R179). -/
def buildSession (i : StationId) (s : State) : State :=
  sendNotice (.session i (s.st i).session.state (s.st i).session.number) (fun l => { l with session := i })
    (s.updCond i fun x => { x with session := false })

/-- STATION: the first and latest line states, with the availability as held now (R180). -/
def buildStation (i : StationId) (s : State) : State :=
  match (s.st i).cond.lineFirst, (s.st i).cond.lineLatest with
  | some f, some l =>
    sendNotice (.stationState i f l (s.st i).recovery.availability) (fun x => { x with station := i })
      (s.updCond i fun x => { x with lineFirst := none, lineLatest := none })
  | some f, none =>
    sendNotice (.stationState i f f (s.st i).recovery.availability) (fun x => { x with station := i })
      (s.updCond i fun x => { x with lineFirst := none, lineLatest := none })
  | none, _ => s

/-- ANOMALY: the count and the latest kind; the count becomes 0 (R181). -/
def buildAnomaly (i : StationId) (s : State) : State :=
  sendNotice (.anomaly i (s.st i).cond.anomalies (s.st i).cond.latestAnomaly) (fun l => { l with anomaly := i })
    (s.updCond i fun x => { x with anomalies := 0 })

/-- JOURNAL: the level and the occupancy as held now; it serves no station (R181). -/
def buildJournal (s : State) : State :=
  (sendNotice (.journalLevel s.journal.level s.journal.records.length) id s).updHost fun h =>
    { h with journalFlag := false }

/-- A notice of a class built for a station. -/
def buildFor (c : NoticeClass) (i : StationId) (s : State) : State :=
  match c with
  | .auth => buildAuth i s
  | .jam => buildJam i s
  | .session => buildSession i s
  | .station => buildStation i s
  | .anomaly => buildAnomaly i s
  | .journal => buildJournal s

/-- The notice of a class (R182). -/
def buildClass (c : NoticeClass) (s : State) : State :=
  if c = .journal then buildJournal s
  else
    match nextServed c s with
    | some i => buildFor c i s
    | none => s

/-- The eligible notice of the highest level, while the link is UP (R182). -/
def buildNotice (s : State) : State :=
  if s.host.linkUp then
    match chooseClass s with
    | some c => buildClass c s
    | none => s
  else s

/-- The outbound arbiter (R182): with the line free and HRDYI asserted, a waiting reply first, then a notice. -/
def arbitrate (s : State) : State :=
  if s.host.htx = .free ∧ s.host.hrdyi = true then
    match s.host.reply with
    | .waiting r => s.updHost fun h => { h with reply := .sending r, htx := .reply (replyFrame r) }
    | .empty => buildNotice s
    | .sending _ => s
  else s

end Sys2Proof.Machine
end

