-- ==== Sys2Proof/Machine/Requests.lean ====
section
/-!
DEFINITION. The requests at the host line controller but for HALT: their owners' answers, the station that each concerns, the
receive queue, and what a frame's end leaves (sections 10.2, 10.3 and 10.10).
-/

namespace Sys2Proof.Machine

/-- A request taken by its owner (section 10.10); `none` for HALT, which every station takes part in (R42). -/
def ownerAnswer (r : Request) (s : State) : Option Answered :=
  match r with
  | .status => some (takeStatus s)
  | .start => some (takeStart s)
  | .stop => some (takeStop s)
  | .halt => none
  | .setTimers a b c d e f => some (takeSetTimers a b c d e f s)
  | .setLevels a b c d e => some (takeSetLevels a b c d e s)
  | .setClock v => some (takeSetClock v s)
  | .setTariff c m k p => some (takeSetTariff c m k p s)
  | .setTiers c d0 t1 d1 t2 d2 t3 d3 => some (takeSetTiers c d0 t1 d1 t2 d2 t3 d3 s)
  | .setRange e o l h k c v => some (takeSetRange e o l h k c v s)
  | .setCardPolicy h i t c l m p => some (takeSetCardPolicy h i t c l m p s)
  | .cardPolicyGet => some (takeCardPolicyGet s)
  | .accountPut n b st m => some (takeAccountPut n b st m s)
  | .accountGet n => some (takeAccountGet n s)
  | .accountAdjust n a => some (takeAccountAdjust n a s)
  | .accountFreeze n => some (takeAccountFreeze n s)
  | .accountThaw n => some (takeAccountThaw n s)
  | .accountRemove n => some (takeAccountRemove n s)
  | .authResult r o a => some (takeAuthResult r o a s)
  | .authPending => some (takeAuthPending s)
  | .denyAdd t => some (takeDenyAdd t s)
  | .denyRemove t => some (takeDenyRemove t s)
  | .denyClear => some (takeDenyClear s)
  | .standinList p => some (takeStandinList p s)
  | .standinClear t => some (takeStandinClear t s)
  | .journalRead n => some (takeJournalRead n s)
  | .journalRelease n e => some (takeJournalRelease n e s)
  | .stationGet n => some (takeStationGet n s)
  | .stationEnable n => some (takeStationEnable n s)
  | .stationDisable n => some (takeStationDisable n s)
  | .sessionEnd n => some (takeSessionEnd n s)
  | .serviceHold n => some (takeServiceHold n s)
  | .serviceRelease n => some (takeServiceRelease n s)
  | .meterGet n => some (takeMeterGet n s)
  | .meterClear n => some (takeMeterClear n s)

/-- The station whose session, hold or meters a request concerns: the one it names, or the one whose entry holds its reference. -/
def requestStation (r : Request) (s : State) : Option StationId :=
  match r with
  | .stationGet b => stationNamed s b
  | .stationEnable b => stationNamed s b
  | .stationDisable b => stationNamed s b
  | .sessionEnd b => stationNamed s b
  | .serviceHold b => stationNamed s b
  | .serviceRelease b => stationNamed s b
  | .meterGet b => stationNamed s b
  | .meterClear b => stationNamed s b
  | .authResult n _ _ => referenceStation s n.toNat
  | _ => none

/-- A request frame at the receive queue: added at its tail, or an overrun with 4 waiting (R173). -/
def enqueue (f : HostFrame) (s : State) : State :=
  s.updHost fun h =>
    if h.received.length < Config.receiveRoom then { h with received := h.received ++ [f] }
    else { h with counters := { h.counters with overruns := addUpTo Config.shortTop h.counters.overruns 1 } }

/-- The frame on HTX has ended: the line is free, and after a reply the buffer is empty (R174). The answer says whether it was a
reply. -/
def htxEnds (s : State) : Bool × State :=
  match s.host.htx with
  | .free => (false, s)
  | .reply _ => (true, s.updHost fun h => { h with htx := .free, reply := .empty })
  | .notice _ => (false, s.updHost fun h => { h with htx := .free })

end Sys2Proof.Machine
end

