-- ==== Sys2Proof/Machine/Recovery.lean ====
section
/-!
DEFINITION. The removal series (section 4.6), and the recovery unit (chapter 5): stoppages, recovery, the stall timer's expiry;
and HALT at a station (R43). Each of the three occasions of a series has a beginning, the series, and an end; `BetweenCredits`
says what other stations and requests do meanwhile.
-/

namespace Sys2Proof.Machine

/-! ## The removal series (R76) -/

/-- The occasion of a removal series (R76), with what its end reports. -/
inductive Occasion where
  /-- a recovery: the cause that it clears and the CHARGED entries that the series credits (R88) -/
  | recovery (cause : Cause) (credited : Nat)
  /-- the stall timer's expiry: the stoppage cause and the CHARGED entries that the series credits (R91) -/
  | stallTimeout (cause : Option Cause) (credited : Nat)
  /-- HALT (R43) -/
  | halt
  deriving DecidableEq, Repr

/-- A removal series under way at a station. -/
structure Series where
  station : StationId
  occasion : Occasion
  deriving DecidableEq, Repr

/-- What begins at a station: a removal series, if there is one, and the state. -/
abbrev Begun := Option Series × State

/-- The queue's entries from the head up to and with its next CHARGED entry are taken back (R58, R76). The answer says whether
there was one, so whether the series has made a credit; without one the queue is then empty. -/
def creditNext (i : StationId) : List InFlight → State → Bool × State
  | [], s => (false, s)
  | e :: rest, s =>
    let t := takeBack i e rest s
    if isCharged e then (true, t) else creditNext i rest t

/-- The removal series with nothing else between its credits: entries from the head until the queue is empty (R76). -/
def removeAll (i : StationId) : List InFlight → State → State
  | [], s => s
  | e :: rest, s => removeAll i rest (takeBack i e rest s)

/-! ## Stoppages -/

/-- A stoppage with a cause at station `i`: the condition is set, or the cause replaced; a STOPPAGE report is raised; and
a condition set from clear may stall the session (R82, R83, R85). -/
def stoppage (i : StationId) (cause : Cause) (s : State) : State :=
  let wasClear := (s.st i).recovery.stoppage.isNone
  let s1 := raiseJam i .stoppage cause 0 (s.updRecovery i fun r => { r with stoppage := some cause })
  if wasClear then stallUnlessHeld i s1 else s1

/-! ## Recovery -/

/-- The session controller's part of a recovery: a STALLED session becomes OPEN, or goes to DRAINING with its close
pending and closes at once (R37, R88). -/
def reopenSession (i : StationId) (s : State) : State :=
  let x := (s.st i).session
  if x.state = .stalled then
    match x.closePending with
    | none => reevaluate i (setSession i (fun y => { y with state := .opened }) s)
    | some r => goDraining i r s
  else s

/-- The stall timer of station `i` stops, and its remaining time is discarded (R88, R91). -/
def stopStallTimer (i : StationId) (s : State) : State := s.updRecovery i fun r => { r with stallTimer := none }

/-- The end of a recovery: the session reopens or closes, the condition clears, and a RECOVERY report is raised (R88, R89). -/
def recoveryEnds (i : StationId) (cause : Cause) (credited : Nat) (s : State) : State :=
  let s1 := reopenSession i (afterRemoval true (credited != 0) i s)
  raiseJam i .recovery cause credited (s1.updRecovery i fun r => { r with stoppage := none })

/-- The cause that a confirmed code clears at the recovery unit: READY and RUNNING clear a stoppage condition (R81). -/
def clearedCause (c : Code) (r : Recovery) : Option Cause :=
  match c with
  | .ready => r.stoppage
  | .running => r.stoppage
  | .warming => none
  | .paperOut => none
  | .jam _ => none
  | .doorOpen => none
  | .fault => none

/-- A confirmed code that clears nothing, at the recovery unit: a stoppage, or nothing (R81). -/
def takeCode (i : StationId) (c : Code) (s : State) : State :=
  match c with
  | .jam l => stoppage i (.jam l) s
  | .doorOpen => stoppage i .door s
  | .fault => stoppage i .fault s
  | .ready => s
  | .running => s
  | .warming => s
  | .paperOut => s

/-- A confirmed code goes on to the idle timer and to the STATION condition (R7). -/
def codeReported (i : StationId) (s : State) : State := raiseStation i (syncIdle i s)

/-- A code confirmed at station `i`: READY or RUNNING with the condition set begins a recovery; any other is taken at once
(R81, R88). -/
def codeConfirmed (i : StationId) (c : Code) (s : State) : Begun :=
  match clearedCause c (s.st i).recovery with
  | some cause => (some ⟨i, .recovery cause (chargedCount (s.st i).queue)⟩, stopStallTimer i s)
  | none => (none, codeReported i (takeCode i c s))

/-! ## The stall timer's expiry (R91) -/

/-- The stall timer of station `i` has run out: the series of the expiry begins. -/
def stallExpires (i : StationId) (s : State) : Begun :=
  let x := s.st i
  if x.recovery.stallTimer = some 0 ∧ x.session.state = .stalled then
    (some ⟨i, .stallTimeout x.recovery.stoppage (chargedCount x.queue)⟩, stopStallTimer i s)
  else (none, s)

/-- The end of the expiry: the close with STALL_TIMEOUT, OUT_OF_SERVICE, and the report (R91). -/
def stallTimeoutEnds (i : StationId) (cause : Option Cause) (credited : Nat) (s : State) : State :=
  let s1 := reevaluate i (closeStep i .stallTimeout .closed (afterRemoval true (credited != 0) i s))
  let s2 := (setAvailability i .outOfService s1).updRecovery i fun r => { r with disablePending := false }
  match cause with
  | some c => raiseJam i .stallTimeout c credited s2
  | none => s2

/-! ## HALT (R42, R43, R166) -/

/-- The end of HALT at station `i`: a pending authorization that is left is abandoned (R42), the hold goes to NONE, and a waiting
request is evaluated once (R76, R166). -/
def haltEnds (i : StationId) (s : State) : State :=
  let s1 := removeEntry i (some .halt) s
  reevaluate i (if (s1.st i).hold = .none then s1 else setHold i .none s1)

/-- A session in a state that HALT closes, with a series and a record: OPEN, STALLED or DRAINING (R43). -/
def holdsQueue : SessionState → Bool
  | .none => false
  | .authorizing => false
  | .opened => true
  | .stalled => true
  | .draining => true

/-- HALT at station `i`: a session that holds a queue begins its series; an AUTHORIZING one returns to NONE, and with none the
station is taken at once (R42, R43). -/
def haltStation (i : StationId) (s : State) : Begun :=
  let x := (s.st i).session.state
  if holdsQueue x then (some ⟨i, .halt⟩, s)
  else if x = .authorizing then
    (none, haltEnds i (abandonAuthorizing i (some .stopped) (removeEntry i (some .halt) s)))
  else (none, haltEnds i s)

/-! ## The end of a series -/

/-- The parts of its step that follow a removal series, by its occasion (R43, R88, R91). The STATION condition of the code that is
a recovery comes after it, where no rule gives its place among the credits (DESIGN CHOICE, log entry 26). -/
def endSeries (r : Series) (s : State) : State :=
  match r.occasion with
  | .recovery cause credited => codeReported r.station (recoveryEnds r.station cause credited s)
  | .stallTimeout cause credited => stallTimeoutEnds r.station cause credited s
  | .halt => haltEnds r.station (closeStep r.station .halt .halt s)

/-- What has begun, taken to its end with nothing else between. -/
def takenWhole (b : Begun) : State :=
  match b.1 with
  | none => b.2
  | some r => endSeries r (removeAll r.station (b.2.st r.station).queue b.2)

end Sys2Proof.Machine
end

