-- ==== Sys2Proof/Machine/BetweenCredits.lean ====
section
/-!
DEFINITION. What may reach the part after a credit of a removal series (R58, R88, R91, R107, log entry 20): events of other
stations and the host line's, which may debit, credit, open on or change the same account, HALT, and the credits of another
station's series. A command that may begin a series is a list of jobs, worked off with a gap after each credit.
-/

namespace Sys2Proof.Machine

/-! ## Jobs -/

/-- An event that an arrival raises for the other blocks (R2, spec/01 section 1.9). -/
inductive LineEvent where
  | codeConfirmed (code : Code)
  | pickRaised (serial : Nat) (spec : SheetSpec)
  | pickWithdrawn (serial : Nat)
  | exits (count : Nat)
  | message (content : UpMessage)
  | anomaly (kind : AnomalyKind)
  deriving DecidableEq, Repr

/-- One event of an arrival taken by the blocks that it is for (spec/01 section 1.9). -/
def takeEvent (i : StationId) (e : LineEvent) (s : State) : Begun :=
  match e with
  | .codeConfirmed c => codeConfirmed i c s
  | .pickRaised n p => (none, pickRaised i n p s)
  | .pickWithdrawn n => (none, pickWithdrawn i n s)
  | .exits n => (none, exitsEvent i n s)
  | .message m => (none, deliver i m s)
  | .anomaly k => (none, raiseAnomaly i k s)

/-- A part of a command that may begin a removal series, or a series under way. -/
inductive Job where
  /-- an event of an arrival at a station -/
  | event (station : StationId) (event : LineEvent)
  /-- the expiry of a station's stall timer -/
  | stallExpiry (station : StationId)
  /-- HALT at a station -/
  | halt (station : StationId)
  /-- a removal series under way -/
  | series (series : Series)
  /-- the end of HALT; whether its reply is put into the buffer here, and whether HALT has made a journal record -/
  | halted (replies recorded : Bool)
  deriving DecidableEq, Repr

/-- The station of a job. -/
def Job.station : Job → Option StationId
  | .event i _ => some i
  | .stallExpiry i => some i
  | .halt i => some i
  | .series r => some r.station
  | .halted _ _ => none

/-- All stations have been taken: the operating state is STOPPED, and then the reply of a HALT that came in a gap goes into the
buffer (R42). -/
def haltDone (replies : Bool) (s : State) : State :=
  let t := s.updHost fun h => { h with op := .stopped }
  if replies then bufferReply (requestKind .halt) (answerOk [] t) else t

/-- A job begins. -/
def startJob (j : Job) (s : State) : Begun :=
  match j with
  | .event i e => takeEvent i e s
  | .stallExpiry i => stallExpires i s
  | .halt i => haltStation i s
  | .series r => (some r, s)
  | .halted replies _ => (none, haltDone replies s)

/-- The station that no other event may reach while a job waits: that of a series under way, whose step is whole for its
session (R88, R91), and that of an arrival under way (R2). -/
def Job.heldStation : Job → Option StationId
  | .event i _ => some i
  | .stallExpiry i => some i
  | .halt _ => none
  | .series r => some r.station
  | .halted _ _ => none

/-- The jobs that are left of a command, in their order, and the state. -/
structure Work where
  jobs : List Job
  state : State

/-- The stations that no other event may reach. -/
def Work.held (w : Work) : List StationId := w.jobs.filterMap Job.heldStation

/-! ## HALT among the jobs (R42, R143)

The records of one HALT take consecutive journal numbers (R143). A series of another occasion that is to close its session, under
way when HALT makes its first record, is put off until HALT has taken the other stations; its own station is taken after it. -/

/-- A job is the end of HALT. -/
def Job.isHalted : Job → Bool
  | .halted _ _ => true
  | _ => false

/-- A job is a HALT series under way. -/
def Job.isHaltSeries : Job → Bool
  | .series r => r.occasion == .halt
  | _ => false

/-- A job is an event of an arrival. -/
def Job.isEvent : Job → Bool
  | .event _ _ => true
  | _ => false

/-- HALT is being taken. -/
def halting (jobs : List Job) : Bool := jobs.any Job.isHalted

/-- HALT is being taken, and it has made a journal record. -/
def haltRecorded (jobs : List Job) : Bool := jobs.any (· matches .halted _ true)

/-- HALT has made a journal record. -/
def markRecorded (jobs : List Job) : List Job :=
  jobs.map fun
    | .halted replies _ => .halted replies true
    | j => j

/-- A series of another occasion than HALT closes its session at its end: the expiry's, and a recovery's of a STALLED session with
a reason as close pending (R88, R91), or of a DRAINING one (R36). -/
def closesAtEnd (r : Series) (s : State) : Bool :=
  let x := (s.st r.station).session
  match r.occasion with
  | .recovery _ _ => (x.state == .stalled && x.closePending.isSome) || (x.state == .draining && x.closeReason.isSome)
  | .stallTimeout _ _ => true
  | .halt => false

/-- The station of a series under way that is to close its session, of another occasion than HALT. -/
def closingSeries (s : State) : Job → Option StationId
  | .series r => if closesAtEnd r s then some r.station else none
  | _ => none

/-- The rank of a job while HALT is being taken: what came before it, the station that it is taking, the stations to take, those
put off, and its end. -/
def haltRank (w : Work) (j : Job) : Nat :=
  if j.isHalted then 4
  else if haltRecorded w.jobs && (w.jobs.filterMap (closingSeries w.state)).any fun i => j.station == some i then 3
  else if j.isHaltSeries then 1
  else if j matches .halt _ then 2
  else 0

/-- The jobs in the order in which they are taken. -/
def Work.inTurn (w : Work) : List Job :=
  if halting w.jobs then [0, 1, 2, 3, 4].flatMap fun k => w.jobs.filter fun j => haltRank w j == k else w.jobs

/-- HALT has made a record and has a station left whose session it will close: no other record may come between (R143). -/
def recordsRun (w : Work) : Bool :=
  haltRecorded w.jobs && w.jobs.any fun j =>
    j.isHaltSeries ||
      match j with
      | .halt i => holdsQueue (w.state.st i).session.state && !(w.jobs.filterMap (closingSeries w.state)).contains i
      | _ => false

/-! ## Series under way -/

/-- A series with the jobs after it goes on by its next credit; with none left it ends. -/
def seriesOn (r : Series) (rest : List Job) (s : State) : Work :=
  let c := creditNext r.station (s.st r.station).queue s
  if c.1 then ⟨.series r :: rest, c.2⟩
  else ⟨if r.occasion = .halt then markRecorded rest else rest, endSeries r c.2⟩

/-- What has begun at a job, with the jobs after it: a series goes on at once. -/
def begunOn (b : Begun) (rest : List Job) : Work :=
  match b.1 with
  | none => ⟨rest, b.2⟩
  | some r => seriesOn r rest b.2

/-- The jobs taken in their order up to the next gap: the one after a credit, or after a series that has ended. No job is left
when they have all been taken. -/
def workToGap : List Job → State → Work
  | [], s => ⟨[], s⟩
  | j :: rest, s =>
    let b := startJob j s
    match b.1 with
    | none => workToGap rest b.2
    | some r => seriesOn r rest b.2

/-- The first job of a station goes on, with the jobs after it: a series under way, or HALT where it may go on to a station. -/
def jobOn (mayHalt : Bool) (j : Job) (rest : List Job) (s : State) : Work :=
  match j with
  | .series r => seriesOn r rest s
  | .halt i => if mayHalt then begunOn (haltStation i s) rest else ⟨j :: rest, s⟩
  | .event _ _ => ⟨j :: rest, s⟩
  | .stallExpiry _ => ⟨j :: rest, s⟩
  | .halted _ _ => ⟨j :: rest, s⟩

/-- The first job of station `i` goes on; without one nothing happens. -/
def advance (mayHalt : Bool) (i : StationId) : List Job → State → Work
  | [], s => ⟨[], s⟩
  | j :: rest, s =>
    if j.station = some i then jobOn mayHalt j rest s
    else
      let w := advance mayHalt i rest s
      ⟨j :: w.jobs, w.state⟩

/-- HALT may go on to a station: it takes one at a time, each whole (R42), after the arrival under way (log entry 20). -/
def mayTakeStation (jobs : List Job) : Bool := !jobs.any fun j => j.isEvent || j.isHaltSeries

/-- A series that begins in a gap joins the jobs before the first one of its station, and at the end if there is none. -/
def joinJobs (r : Series) (jobs : List Job) : List Job :=
  let before := jobs.takeWhile fun j => j.station != some r.station
  before ++ .series r :: jobs.drop before.length

/-- What has begun in a gap: a series with something to credit joins the jobs, and one with nothing is taken whole. -/
def Work.joined (w : Work) (b : Begun) : Work :=
  match b.1 with
  | none => { w with state := b.2 }
  | some r => if holdsCharged (b.2.st r.station).queue then ⟨joinJobs r w.jobs, b.2⟩ else { w with state := takenWhole b }

/-! ## Requests in a gap (R174) -/

/-- The jobs of HALT: the stations whose session exists in an open order, then the others, and the end (R42). -/
def haltJobs (replies : Bool) (s : State) : List Job × State :=
  let order := inOpenOrder s.liveStations s
  let idle := allStations.filter fun i => !sessionLive (s.st i).session
  ((order.1 ++ idle).map .halt ++ [.halted replies false], order.2)

/-- A request dispatched in a gap: its owner takes it whole, and its reply waits; HALT joins the jobs. -/
def requestOn (r : Request) (w : Work) : Work :=
  match ownerAnswer r w.state with
  | some a => { w with state := bufferReply (requestKind r) a }
  | none =>
    let h := haltJobs true w.state
    ⟨w.jobs ++ h.1, h.2⟩

/-- The head request dispatched in a gap, with the reply buffer empty (R174, R175). -/
def dispatchOn (w : Work) : Work :=
  match w.state.host.reply, w.state.host.received with
  | .empty, f :: rest =>
    let s := w.state.updHost fun h => { h with received := rest }
    match parseRequest f with
    | .error status => { w with state := bufferReply f.kind (answerRefused status s) }
    | .ok r => requestOn r { w with state := s }
  | _, _ => w

/-- A request that reaches the receive queue in a gap (R173, R174); a line break that is held does not keep it back, as for a
command (log entry 5). -/
def submitOn (r : Request) (w : Work) : Work :=
  if w.state.host.reply = .empty ∧ w.state.host.received = [] then requestOn r w
  else dispatchOn { w with state := enqueue (requestFrame r) w.state }

/-- The end of a frame on HTX in a gap: after a reply the next request is dispatched (R174). -/
def frameEndedOn (w : Work) : Work :=
  let t := htxEnds w.state
  if t.1 then dispatchOn { w with state := t.2 } else { w with state := t.2 }

/-- A request concerns a station that no other event may reach. -/
def concernsHeld (w : Work) (r : Request) : Bool := (requestStation r w.state).any fun i => w.held.contains i

/-- The request at the head of the receive queue concerns such a station. -/
def headConcernsHeld (w : Work) : Bool :=
  match w.state.host.received with
  | [] => false
  | f :: _ =>
    match parseRequest f with
    | .error _ => false
    | .ok r => concernsHeld w r

/-! ## Events in a gap -/

/-- A code other than JAM with location 0 confirmed at a present station `i` that had another one confirmed (R6, R7). R6 confirms a
code by two consecutive full arrivals that report it. In a gap the confirmation comes alone: neither arrival is taken there, and
the candidate held before need not be the code (DESIGN CHOICE, log entry 20). -/
def codeAt (i : StationId) (c : Code) (s : State) : Begun :=
  let l := (s.st i).line
  if s.inFrame i ∧ l.present ∧ l.confirmed ≠ some c ∧ c ≠ .jam 0 then
    codeConfirmed i c (s.updLine i fun l => { l with confirmed := some c, candidate := none })
  else (none, s)

/-- One thing that reaches the part in a gap. A recovery or an expiry begins a series of its own, HALT takes every station, and
`advance` takes either on, so that the credits of several series come in any order in which each series keeps its own (R57, R58,
R107). -/
def takeMeanwhile (e : Meanwhile) (w : Work) : Work :=
  let s := w.state
  match e with
  | .pick _ _ => { w with state := takeActivity e s }
  | .dropped _ => { w with state := takeActivity e s }
  | .exits _ _ => { w with state := takeActivity e s }
  | .message _ _ => { w with state := takeActivity e s }
  | .recovered i running => w.joined (codeAt i (if running then .running else .ready) s)
  | .code i c => w.joined (codeAt i c s)
  | .idleExpiry i => { w with state := atStation i (idleExpires i) s }
  | .stallExpiry i => if s.inFrame i then w.joined (stallExpires i s) else w
  | .overdue i => { w with state := atStation i (headExpires i) s }
  | .request r => submitOn r w
  | .arbiter => { w with state := arbitrate s }
  | .frameSent => frameEndedOn w
  | .advance i => advance (mayTakeStation w.jobs) i w.jobs s

/-- What a gap admits: events of stations that no waiting job holds, the host line's but for requests that concern one of these,
and the going on of a series or of HALT. While HALT is being taken the host line waits for its reply (R174), and no session
opens (R42). -/
def admitted (w : Work) : Meanwhile → Bool
  | .pick j _ => j ∉ w.held
  | .dropped j => j ∉ w.held
  | .exits j _ => j ∉ w.held
  | .message j m => j ∉ w.held && (!halting w.jobs || m == .finish)
  | .recovered j _ => j ∉ w.held
  | .code j _ => j ∉ w.held
  | .idleExpiry j => j ∉ w.held
  | .stallExpiry j => j ∉ w.held
  | .overdue j => j ∉ w.held
  | .request r => !halting w.jobs && !concernsHeld w r
  | .arbiter => !halting w.jobs
  | .frameSent => !halting w.jobs && !headConcernsHeld w
  | .advance _ => true

/-- The journal of `t` ends in a record that HALT has not made and that the journal of `s` does not hold. -/
def otherRecord (s t : State) : Bool :=
  s.journal.records.length != t.journal.records.length && t.journal.records.getLast?.any (·.reason != .halt)

/-- One thing of the tape at its turn: it is taken if it is admitted, and if it makes no record between two of HALT's (R143). -/
def takeInGap (w : Work) (e : Meanwhile) : Work :=
  if admitted w e then
    let v := takeMeanwhile e w
    if recordsRun w && otherRecord w.state v.state then w else v
  else w

/-- A gap: the next list of the tape is taken in order. -/
def workGap (w : Work) : Work := w.state.popMeanwhile.1.foldl takeInGap { w with state := w.state.popMeanwhile.2 }

/-- Jobs worked off with at most `n` gaps in which something may come, and without any after these. -/
def workOffWithin : Nat → Work → State
  | 0, w => w.inTurn.foldl (fun t j => takenWhole (startJob j t)) w.state
  | n + 1, w =>
    let v := workToGap w.inTurn w.state
    if v.jobs = [] then v.state else workOffWithin n (workGap v)

/-- Jobs worked off. Every gap takes a list from the tape, so that a bound of the tape's length leaves none out. -/
def workOff (jobs : List Job) (s : State) : State := workOffWithin s.meanwhile.length ⟨jobs, s⟩

/-- HALT over the stations, whole each, and the part is STOPPED (R42). -/
def haltAll (s : State) : State :=
  let h := haltJobs false s
  workOff h.1 h.2

end Sys2Proof.Machine
end

