-- ==== Sys2Proof/Machine/StationLine.lean ====
section
/-!
DEFINITION. The station line controller's arrivals (chapter 1): presence, the confirmed code, the pick latch, the two
message channels, and the events that one arrival raises for the other blocks.
-/

namespace Sys2Proof.Machine

/-! ## What one part of an arrival does to the line state, and the events it raises -/

/-- The line state after a part of an arrival, with the events raised. -/
abbrev LineStep := StationLine × List LineEvent

/-- The reported code against the confirmed code and the candidate (R6). -/
def codeArrival (code : Option Code) (l : StationLine) : LineStep :=
  match code with
  | none => ({ l with candidate := none }, [.anomaly .badCode])
  | some c =>
    if l.confirmed = some c then ({ l with candidate := none }, [])
    else if l.candidate = some c then ({ l with confirmed := some c, candidate := none }, [.codeConfirmed c])
    else ({ l with candidate := some c }, [])

/-- The pick field against the pick latch (R8, R10). -/
def pickArrival (pick : Option SheetSpec) (l : StationLine) : LineStep :=
  match l.latch, pick with
  | .disarmed, none => ({ l with latch := .idle }, [])
  | .disarmed, some _ => (l, [])
  | .idle, none => (l, [])
  | .idle, some p => (raiseLatch p l, [.pickRaised (nextSerial l) p])
  | .raised n _ _, none => ({ l with latch := .idle }, [.pickWithdrawn n])
  | .raised _ _ _, some _ => (l, [])
  | .answeredGo, none => ({ l with latch := .idle }, [])
  | .answeredGo, some _ => (l, [])
  | .answeredStop _, none => ({ l with latch := .idle }, [])
  | .answeredStop _, some _ => (l, [])

/-- The exit count of a full arrival (R11). -/
def exitArrival (count : Nat) : List LineEvent := if count = 0 then [] else [.exits count]

/-- A complete upstream message judged (R14). -/
def messageEvent (bytes : List Byte) : LineEvent :=
  match upMessage bytes with
  | some m => .message m
  | none => .anomaly .upUnknown

/-- An upstream message abandoned, with the acknowledgement then owed (R15). -/
def abandonUp (owed : AckMark) (kind : AnomalyKind) (l : StationLine) : LineStep :=
  ({ l with up := .idle, ackOwed := owed }, [.anomaly kind])

/-- An arrival that brings no byte while a message is received: the 64th in a row is the receive limit (R15). -/
def quietArrival (l : StationLine) : LineStep :=
  match l.up with
  | .idle => (l, [])
  | .receiving buffer quiet =>
    if Config.arrivalLimit ≤ quiet + 1 then abandonUp .abort .upTimeout l
    else ({ l with up := .receiving buffer (quiet + 1) }, [])

/-- The message byte of a full arrival by its mark (R13, R15). An arrival that is the 64th without a byte and carries the mark
ABORT is taken as the station's abort, with nothing owed; R15 leaves the order of the two open, and the receive limit before it
is the command RECEIVE_LIMIT sent before the slot (DESIGN CHOICE, log entry 3). -/
def byteArrival (mark : MsgMark) (byte : Byte) (l : StationLine) : LineStep :=
  match mark, l.up with
  | .idle, _ => quietArrival l
  | .data, .idle => ({ l with up := .receiving [byte] 0, ackOwed := .ack }, [])
  | .data, .receiving buffer _ =>
    if Config.upBufferRoom ≤ buffer.length then abandonUp .abort .upLong l
    else ({ l with up := .receiving (buffer ++ [byte]) 0, ackOwed := .ack }, [])
  | .last, .idle => ({ l with ackOwed := .ack }, [messageEvent [byte]])
  | .last, .receiving buffer _ =>
    if Config.upBufferRoom ≤ buffer.length then abandonUp .abort .upLong l
    else ({ l with up := .idle, ackOwed := .ack }, [messageEvent (buffer ++ [byte])])
  | .abort, .idle => (l, [])
  | .abort, .receiving _ _ => abandonUp .none .upAbort l

/-- The head of the downstream queue removed, and no byte of it waiting (R18, R19). -/
def popDown (l : StationLine) : StationLine := { l with down := l.down.drop 1, downTaken := 0, downWait := none }

/-- The head abandoned for want of an acknowledgement: ABORT is due as a message mark (R19). -/
def abandonDown (l : StationLine) : LineStep := ({ popDown l with downAbort := true }, [.anomaly .downTimeout])

/-- An arrival without an acknowledgement while a byte awaits one: the 64th in a row abandons the message (R19). -/
def unacknowledged (l : StationLine) : LineStep :=
  match l.downWait with
  | none => (l, [])
  | some n => if Config.arrivalLimit ≤ n + 1 then abandonDown l else ({ l with downWait := some (n + 1) }, [])

/-- The head's byte counts as taken; with its final byte the message leaves the queue (R18). -/
def byteTaken (l : StationLine) : StationLine :=
  match l.down with
  | [] => popDown l
  | m :: _ =>
    if l.downTaken + 1 < (downBytes m).length then { l with downTaken := l.downTaken + 1, downWait := none }
    else popDown l

/-- The acknowledge mark of a full arrival (R18, R19). An arrival that is the 64th without an acknowledgement and carries ACK
or ABORT is taken by its mark alone; the limit before it is the command NO_ACKNOWLEDGEMENT sent before the slot (DESIGN CHOICE,
log entry 3). -/
def ackArrival (mark : AckMark) (l : StationLine) : LineStep :=
  match l.downWait, mark with
  | none, _ => (l, [])
  | some _, .none => unacknowledged l
  | some _, .ack => (byteTaken l, [])
  | some _, .abort => (popDown l, [.anomaly .downAbort])

/-- The parts of a full arrival, each on the line state that the one before it left (R2). They touch different fields. -/
def fullArrival (a : Arrival) (l : StationLine) : LineStep :=
  let c := codeArrival a.code l
  let p := pickArrival a.pick c.1
  let b := byteArrival a.mark a.byte p.1
  let k := ackArrival a.ack b.1
  (k.1, c.2 ++ (p.2 ++ (exitArrival a.exits ++ (b.2 ++ k.2))))

/-- An empty arrival: the candidate becomes none, and it counts toward the limits of both channels (R6, R13, R19). -/
def emptyArrival (l : StationLine) : LineStep :=
  let q := quietArrival { l with candidate := none }
  let u := unacknowledged q.1
  (u.1, q.2 ++ u.2)

/-! ## The events at the other blocks -/

/-- The events of one arrival: they are not ordered among themselves, so they are taken in an open order (R2). Each is taken
whole, an exits event of count 2 or 3 too: a recovery of the same arrival comes before all of its exits or after all of them.
R90 lets an exit and the recovery come in either order and does not say whether the recovery may fall between two exits of one
event (DESIGN CHOICE, log entry 23). After a removal series something may come before the events that are left; between two others
nothing of another station comes (DESIGN CHOICE, log entries 20 and 24). -/
def takeEvents (i : StationId) (events : List LineEvent) (s : State) : State :=
  let order := inOpenOrder events s
  workOff (order.1.map (.event i)) order.2

/-- The line state of station `i` moved by a part of an arrival, and its events taken. -/
def applyLine (i : StationId) (f : StationLine → LineStep) (s : State) : State :=
  let r := f (s.st i).line
  takeEvents i r.2 (s.updLine i fun _ => r.1)

/-! ## Presence -/

/-- The line state of a station that becomes ABSENT (R4): only the pick serial stays, and the model's record of the half
last sent. -/
def lineLost (l : StationLine) : StationLine := { StationLine.reset with serial := l.serial, sent := l.sent }

/-- An AUTHORIZING session of a lost station returned to NONE, its entry cancelled with cause ABSENT (R29, R128). -/
def abandonLost (i : StationId) (s : State) : State :=
  if (s.st i).session.state = .authorizing then
    reevaluate i (abandonAuthorizing i none (removeEntry i (some .absent) s))
  else s

/-- A station becomes ABSENT (R4): the line state is cleared, a RAISED pick is withdrawn, an AUTHORIZING session returns to
NONE, the recovery unit takes a stoppage with cause ABSENT (R82), and STATION is raised. The blocks touch different state
here, so their order does not show. -/
def loseStation (i : StationId) (s : State) : State :=
  let s1 := withdrawRaised i (s.st i).line.latch (s.updLine i lineLost)
  raiseStation i (syncIdle i (stoppage i .absent (abandonLost i s1)))

/-- An ABSENT station becomes present: its line state begins again, and no event is raised (R5). -/
def regainStation (i : StationId) (s : State) : State :=
  s.updLine i fun l => { lineLost l with present := true }

/-- The presence mark of an arrival against the presence state: the sixteenth in a row that disagrees changes it (R3). -/
def presenceArrival (i : StationId) (mark : Bool) (s : State) : State :=
  let l := (s.st i).line
  if l.present = mark then s.updLine i fun l => { l with contrary := 0 }
  else if Config.presenceLimit ≤ l.contrary + 1 then
    (if l.present then loseStation i s else regainStation i s)
  else s.updLine i fun l => { l with contrary := l.contrary + 1 }

/-- An arrival: presence first, then a full or an empty arrival (R2, R3). -/
def takeArrival (i : StationId) (a : Arrival) (s : State) : State :=
  let s1 := presenceArrival i a.present s
  if a.present && (s1.st i).line.present then applyLine i (fullArrival a) s1
  else applyLine i emptyArrival s1

/-- The downstream half of station `i` sent (R12). -/
def sendHalf (i : StationId) (s : State) : State :=
  s.upd i fun x => { x with line := afterDownHalf x }

/-! ## The commands of chapter 1 at one station -/

/-- The slot of station `i`, when it is the one that comes next in the frame: the downstream half is sent, then the upstream
half is taken whole, and the frame goes on to the slot after it (R1, R2). No half comes from a station out of its slot. -/
def takeSlot (i : StationId) (h : UpHalf) (s : State) : State :=
  if s.slot = i then takeArrival i (decodeHalf h) (sendHalf i s.passSlot) else s

/-- The arrival that makes a present station ABSENT (R4); an ABSENT station has nothing to lose. -/
def stationLostAt (i : StationId) (s : State) : State :=
  if (s.st i).line.present then loseStation i s else s

/-- The arrival that makes an ABSENT station present (R5). -/
def stationPresentAt (i : StationId) (s : State) : State :=
  if (s.st i).line.present then s else regainStation i s

/-- The receive limit is reached while RECEIVING (R15). -/
def receiveLimitAt (i : StationId) (s : State) : State :=
  match (s.st i).line.up with
  | .idle => s
  | .receiving _ _ => applyLine i (abandonUp .abort .upTimeout) s

/-- The limit of R19 is reached while a byte awaits its acknowledgement. -/
def noAcknowledgementAt (i : StationId) (s : State) : State :=
  if (s.st i).line.downWait.isSome then applyLine i abandonDown s else s

end Sys2Proof.Machine
end

