-- ==== Sys2Proof/Machine/HostLine.lean ====
section
/-!
DEFINITION. The host line controller's inbound side (sections 10.2, 10.3, 10.5 and 10.7): HALT as a request, the dispatch, the
receiver, valid frames, the end of a frame on HTX, and the line break.
-/

namespace Sys2Proof.Machine

/-! ## Dispatch (R174, R175) -/

/-- HALT (R42). -/
def takeHalt (s : State) : Answered := answerOk [] (haltAll s)

/-- A request taken by its owner (section 10.10). -/
def takeRequest (r : Request) (s : State) : Answered :=
  match ownerAnswer r s with
  | some a => a
  | none => takeHalt s

/-- A queued request judged and taken: a frame that fails the first two checks of R175 changes nothing. -/
def takeFrame (f : HostFrame) (s : State) : Answered :=
  match parseRequest f with
  | .error status => answerRefused status s
  | .ok r => takeRequest r s

/-- With the reply buffer empty, the head request is removed and dispatched (R174). Its reply fills the buffer, so one
request at most is dispatched. -/
def dispatch (s : State) : State :=
  match s.host.reply, s.host.received with
  | .empty, f :: rest => bufferReply f.kind (takeFrame f (s.updHost fun h => { h with received := rest }))
  | _, _ => s

/-- A request frame received: it is queued, and dispatched where nothing holds it back (R173, R174). -/
def receiveRequest (f : HostFrame) (s : State) : State := dispatch (enqueue f s)

/-- The last byte of the frame on HTX has been sent: the line is free; after a reply the buffer is emptied and the next
request is dispatched (R174). -/
def frameEnded (s : State) : State :=
  let t := htxEnds s
  if t.1 then dispatch t.2 else t.2

/-- A request given as a command (log entry 5): with the reply buffer and the receive queue empty it is taken at once and
its reply waits in the buffer; otherwise it goes the way of its frame. While a line break is held no frame can complete (R185); a
command that comes then is taken as a request that has reached the receive queue all the same (DESIGN CHOICE, log entry 5). -/
def submit (r : Request) (s : State) : State :=
  if s.host.reply = .empty ∧ s.host.received = [] then bufferReply (requestKind r) (takeRequest r s)
  else receiveRequest (requestFrame r) s

/-! ## Valid frames (R173, R183) -/

/-- A valid frame at the link: the silence timer restarts with the value in force, and the link is UP (R183). -/
def hearFrame (s : State) : State :=
  s.updHost fun h => { h with linkUp := true, silenceTimer := some (seconds h.timers.silence) }

/-- A valid frame disposed of by its kind (R173). -/
def validFrame (kind : Byte) (body : List Byte) (s : State) : State :=
  let s1 := hearFrame s
  if 1 ≤ kind ∧ kind ≤ 0x3F then receiveRequest ⟨kind, body⟩ s1
  else s1.updHost fun h =>
    { h with counters := { h.counters with strayFrames := addUpTo Config.shortTop h.counters.strayFrames 1 } }

/-! ## The receiver (R172) -/

/-- The receiver takes a state. -/
def setReceiver (r : Receiver) (s : State) : State := s.updHost fun h => { h with receiver := r }

/-- A frame discarded for its length (R172). -/
def lengthError (s : State) : State :=
  s.updHost fun h =>
    { h with
      receiver := .hunting
      counters := { h.counters with lengthErrors := addUpTo Config.shortTop h.counters.lengthErrors 1 } }

/-- A frame discarded for its check (R172). -/
def checkError (s : State) : State :=
  s.updHost fun h =>
    { h with
      receiver := .hunting
      counters := { h.counters with checkErrors := addUpTo Config.shortTop h.counters.checkErrors 1 } }

/-- All the bytes of a frame after its start have been taken: its check is judged (R171 to R173). `n` is the length. -/
def frameComplete (n : Nat) (bytes : List Byte) (s : State) : State :=
  let counted := bytes.take (1 + n)
  if (frameCheck counted).toNat = ofBytes (bytes.drop (1 + n)) then
    match counted.drop 1 with
    | kind :: body => validFrame kind body (setReceiver .hunting s)
    | [] => setReceiver .hunting s
  else checkError s

/-- A byte taken IN_FRAME (R172). -/
def frameByte (bytes : List Byte) (b : Byte) (s : State) : State :=
  match bytes with
  | [] => if b = 0 ∨ 251 < b.toNat then lengthError s else setReceiver (.inFrame [b]) s
  | n :: _ =>
    if (bytes ++ [b]).length = n.toNat + 3 then frameComplete n.toNat (bytes ++ [b]) s
    else setReceiver (.inFrame (bytes ++ [b])) s

/-- A byte at the receiver (R172). -/
def takeByte (b : Byte) (s : State) : State :=
  match s.host.receiver with
  | .hunting => if b = 0xA5 then setReceiver (.inFrame []) s else s
  | .inFrame bytes => frameByte bytes b s

/-- A character on HRX: with its stop bit at space it is no byte (R170), and while a line break lasts the receiver stays
HUNTING (R185). -/
def takeChar (s : State) (c : HrxChar) : State :=
  if c.stopAtMark && !s.host.breakHeld then takeByte c.data s else s

/-- A run of characters on HRX (R172). -/
def takeChars (chars : List HrxChar) (s : State) : State := chars.foldl takeChar s

/-- More than 20 ms inside a frame: the frame is discarded and counted (R172). -/
def gapTaken (s : State) : State :=
  match s.host.receiver with
  | .hunting => s
  | .inFrame _ =>
    s.updHost fun h =>
      { h with
        receiver := .hunting
        counters := { h.counters with gapErrors := addUpTo Config.shortTop h.counters.gapErrors 1 } }

/-! ## The line break (R185) -/

/-- The counters after a break: the five frame counters return to 0 and the break count grows (R185). -/
def countersAfterBreak (c : Counters) : Counters where
  lengthErrors := 0
  checkErrors := 0
  gapErrors := 0
  strayFrames := 0
  overruns := 0
  breaks := addUpTo Config.shortTop c.breaks 1
  linkDowns := c.linkDowns

/-- The line HTX after a break: a reply being sent stops, a notice goes on (R185). -/
def htxAfterBreak : Htx → Htx
  | .free => .free
  | .reply _ => .free
  | .notice bytes => .notice bytes

/-- A line break, taken once however long the line stays at space (R185). -/
def breakTaken (s : State) : State :=
  if s.host.breakHeld then s
  else s.updHost fun h =>
    { h with
      receiver := .hunting
      breakHeld := true
      received := []
      reply := .empty
      htx := htxAfterBreak h.htx
      counters := countersAfterBreak h.counters }

/-- HRX returns to mark after a break (R185). -/
def markReturned (s : State) : State := s.updHost fun h => { h with breakHeld := false }

/-- The level of HRDYI (R176). -/
def readyLine (asserted : Bool) (s : State) : State := s.updHost fun h => { h with hrdyi := asserted }

/-- The 2260's own ready line HRDYO: asserted while the receive queue has room (R174). -/
def readyOut (h : HostLine) : Bool := h.received.length < Config.receiveRoom

/-! ## The seconds clock (R152) -/

/-- One second more on the seconds clock, which passes from 4,294,967,295 to 0 (R152). -/
def clockSecond (s : State) : State :=
  s.updJournal fun j => { j with clock := (j.clock + 1) % Config.longModulus }

end Sys2Proof.Machine
end

