-- ==== Sys2Proof/Machine/StationCommands.lean ====
section
/-!
DEFINITION. The commands that are events at the part and at its stations: RESET, the slots and their limits, the station
messages, and the expiries of the station timers. An event at a station outside the frame changes nothing (R1), and an
event whose condition does not hold in the state changes nothing (log entry 3).
-/

namespace Sys2Proof.Machine

/-- What every command of this model answers: a next state. -/
abbrev Result := Host.Outcome State Fault Refusal

/-- RESET: every block takes its power-on values, the straps are sampled, and the first frame begins with slot 0 (R1, R187).
The level of HRDYI is the outside's; the open choices, the tape of the gaps and the waiting commands are the model's own (log
entry 2). -/
def resetPart (stationsHigh lineRateHigh : Bool) (s : State) : State :=
  { State.powerOn stationsHigh lineRateHigh s.host.hrdyi with
    choiceTape := s.choiceTape, choiceCount := s.choiceCount, meanwhile := s.meanwhile, pending := s.pending }

/-- RESET (R187). -/
def execReset (stationsHigh lineRateHigh : Bool) (s : State) : Result := .next (resetPart stationsHigh lineRateHigh s)

/-- UPSTREAM_HALF (R1, R2). -/
def execUpstreamHalf (i : StationId) (half : UpHalf) (s : State) : Result := .next (atStation i (takeSlot i half) s)

/-- STATION_LOST (R4). -/
def execStationLost (i : StationId) (s : State) : Result := .next (atStation i (stationLostAt i) s)

/-- STATION_PRESENT (R5). -/
def execStationPresent (i : StationId) (s : State) : Result := .next (atStation i (stationPresentAt i) s)

/-- PICK_WAIT_EXPIRY (R69). -/
def execPickWaitExpiry (i : StationId) (s : State) : Result := .next (atStation i (pickWaitExpires i) s)

/-- RECEIVE_LIMIT (R15). -/
def execReceiveLimit (i : StationId) (s : State) : Result := .next (atStation i (receiveLimitAt i) s)

/-- NO_ACKNOWLEDGEMENT (R19). -/
def execNoAcknowledgement (i : StationId) (s : State) : Result := .next (atStation i (noAcknowledgementAt i) s)

/-- CARD, delivered to the session controller (R25, R28). -/
def execCard (i : StationId) (token : Token) (cardClass : CardClass) (s : State) : Result :=
  .next (atStation i (deliver i (.card token cardClass)) s)

/-- ACCOUNT, delivered to the session controller (R25, R27). -/
def execAccount (i : StationId) (number : BitVec 24) (s : State) : Result :=
  .next (atStation i (deliver i (.account number.toNat)) s)

/-- FINISH, delivered to the session controller (R34). -/
def execFinish (i : StationId) (s : State) : Result := .next (atStation i (deliver i .finish) s)

/-- IDLE_EXPIRY (R32). -/
def execIdleExpiry (i : StationId) (s : State) : Result := .next (atStation i (idleExpires i) s)

/-- STALL_TIMER_EXPIRY (R91). -/
def execStallTimerExpiry (i : StationId) (s : State) : Result := .next (atStation i (workOff [.stallExpiry i]) s)

/-- OVERDUE (R75). -/
def execOverdue (i : StationId) (s : State) : Result := .next (atStation i (headExpires i) s)

/-- INITIAL_AUTH_TIMEOUT (R127). -/
def execInitialAuthTimeout (i : StationId) (s : State) : Result := .next (atStation i (authTimesOut i .initial) s)

/-- INCREMENT_AUTH_TIMEOUT (R131). -/
def execIncrementAuthTimeout (i : StationId) (s : State) : Result := .next (atStation i (authTimesOut i .increment) s)

end Sys2Proof.Machine
end

