-- ==== Sys2Proof/Machine/HostCommands.lean ====
section
/-!
DEFINITION. The commands that are events at the host line controller and the seconds clock (chapters 8 and 10).
-/

namespace Sys2Proof.Machine

/-- SILENCE_EXPIRY (R183). -/
def execSilenceExpiry (s : State) : Result := .next (silenceExpires s)

/-- HOST_FRAME (R172, R173): characters received on HRX. -/
def execHostFrame (chars : List HrxChar) (s : State) : Result := .next (takeChars chars s)

/-- GAP_ERROR (R172). -/
def execGapError (s : State) : Result := .next (gapTaken s)

/-- LINE_BREAK (R185). -/
def execLineBreak (s : State) : Result := .next (breakTaken s)

/-- HRDYI (R176). -/
def execHrdyi (asserted : Bool) (s : State) : Result := .next (readyLine asserted s)

/-- FRAME_SENT (R174, R182). -/
def execFrameSent (s : State) : Result := .next (frameEnded s)

/-- NOTICE_BUILD (R182). -/
def execNoticeBuild (s : State) : Result := .next (arbitrate s)

/-- SECONDS_CLOCK (R152). -/
def execSecondsClock (s : State) : Result := .next (clockSecond s)

/-- LINE_RETURNED_TO_MARK (R185). -/
def execLineReturnedToMark (s : State) : Result := .next (markReturned s)

end Sys2Proof.Machine
end

