-- ==== Sys2Proof/Machine/RequestCommands.lean ====
section
/-!
DEFINITION. The commands that are host requests. Each is the request reaching the receive queue (log entry 5): its owner's
meaning is the `take` definition of its name, and `submit` says when it is taken.
-/

namespace Sys2Proof.Machine

/-- STATUS (R186). -/
def execStatus (s : State) : Result :=
  .next (submit .status s)

/-- START (R23). -/
def execStart (s : State) : Result :=
  .next (submit .start s)

/-- STOP (R24). -/
def execStop (s : State) : Result :=
  .next (submit .stop s)

/-- HALT (R42). -/
def execHalt (s : State) : Result :=
  .next (submit .halt s)

/-- SET_TIMERS (R184). -/
def execSetTimers (idle pickWait transit stall auth silence : BitVec 16) (s : State) : Result :=
  .next (submit (.setTimers idle pickWait transit stall auth silence) s)

/-- SET_LEVELS (R177). -/
def execSetLevels (jam session station anomaly journal : Byte) (s : State) : Result :=
  .next (submit (.setLevels jam session station anomaly journal) s)

/-- SET_CLOCK (R153). -/
def execSetClock (value : BitVec 32) (s : State) : Result :=
  .next (submit (.setClock value) s)

/-- SET_TARIFF (R46). -/
def execSetTariff (tariffClass media colour : Byte) (price : BitVec 16) (s : State) : Result :=
  .next (submit (.setTariff tariffClass media colour price) s)

/-- SET_TIERS (R48). -/
def execSetTiers (tariffClass discount0 : Byte) (threshold1 : BitVec 24) (discount1 : Byte)
    (threshold2 : BitVec 24) (discount2 : Byte) (threshold3 : BitVec 24) (discount3 : Byte) (s : State) : Result :=
  .next (submit (.setTiers tariffClass discount0 threshold1 discount1 threshold2 discount2 threshold3 discount3) s)

/-- SET_RANGE (R101). -/
def execSetRange (entry operation : Byte) (low high : BitVec 24) (kind tariffClass : Byte)
    (overdraft : BitVec 24) (s : State) : Result :=
  .next (submit (.setRange entry operation low high kind tariffClass overdraft) s)

/-- SET_CARD_POLICY (R120). -/
def execSetCardPolicy (initialHold increment threshold : BitVec 16) (tariffClass : Byte)
    (standInLimit standInMinimum : BitVec 16) (standInCap : BitVec 24) (s : State) : Result :=
  .next (submit (.setCardPolicy initialHold increment threshold tariffClass standInLimit standInMinimum standInCap) s)

/-- CARD_POLICY_GET (R120). -/
def execCardPolicyGet (s : State) : Result :=
  .next (submit .cardPolicyGet s)

/-- ACCOUNT_PUT (R111, R112). -/
def execAccountPut (number : BitVec 24) (balance : BitVec 32) (state maxSessions : Byte) (s : State) : Result :=
  .next (submit (.accountPut number balance state maxSessions) s)

/-- ACCOUNT_GET (R117). -/
def execAccountGet (number : BitVec 24) (s : State) : Result :=
  .next (submit (.accountGet number) s)

/-- ACCOUNT_ADJUST (R113). -/
def execAccountAdjust (number : BitVec 24) (amount : BitVec 32) (s : State) : Result :=
  .next (submit (.accountAdjust number amount) s)

/-- ACCOUNT_FREEZE (R114). -/
def execAccountFreeze (number : BitVec 24) (s : State) : Result :=
  .next (submit (.accountFreeze number) s)

/-- ACCOUNT_THAW (R115). -/
def execAccountThaw (number : BitVec 24) (s : State) : Result :=
  .next (submit (.accountThaw number) s)

/-- ACCOUNT_REMOVE (R116). -/
def execAccountRemove (number : BitVec 24) (s : State) : Result :=
  .next (submit (.accountRemove number) s)

/-- AUTH_RESULT (R125). -/
def execAuthResult (reference : BitVec 16) (outcome : Byte) (amount : BitVec 24) (s : State) : Result :=
  .next (submit (.authResult reference outcome amount) s)

/-- AUTH_PENDING (R121). -/
def execAuthPending (s : State) : Result :=
  .next (submit .authPending s)

/-- DENY_ADD (R138). -/
def execDenyAdd (token : Token) (s : State) : Result :=
  .next (submit (.denyAdd token) s)

/-- DENY_REMOVE (R138). -/
def execDenyRemove (token : Token) (s : State) : Result :=
  .next (submit (.denyRemove token) s)

/-- DENY_CLEAR (R138). -/
def execDenyClear (s : State) : Result :=
  .next (submit .denyClear s)

/-- STANDIN_LIST (R136). -/
def execStandinList (start : Byte) (s : State) : Result :=
  .next (submit (.standinList start) s)

/-- STANDIN_CLEAR (R137). -/
def execStandinClear (token : Token) (s : State) : Result :=
  .next (submit (.standinClear token) s)

/-- JOURNAL_READ (R145). -/
def execJournalRead (count : Byte) (s : State) : Result :=
  .next (submit (.journalRead count) s)

/-- JOURNAL_RELEASE (R146). -/
def execJournalRelease (count : BitVec 16) (expected : BitVec 32) (s : State) : Result :=
  .next (submit (.journalRelease count expected) s)

/-- STATION_GET (R98). -/
def execStationGet (station : Byte) (s : State) : Result :=
  .next (submit (.stationGet station) s)

/-- STATION_ENABLE (R96). -/
def execStationEnable (station : Byte) (s : State) : Result :=
  .next (submit (.stationEnable station) s)

/-- STATION_DISABLE (R94). -/
def execStationDisable (station : Byte) (s : State) : Result :=
  .next (submit (.stationDisable station) s)

/-- SESSION_END (R35). -/
def execSessionEnd (station : Byte) (s : State) : Result :=
  .next (submit (.sessionEnd station) s)

/-- SERVICE_HOLD (R158). -/
def execServiceHold (station : Byte) (s : State) : Result :=
  .next (submit (.serviceHold station) s)

/-- SERVICE_RELEASE (R160). -/
def execServiceRelease (station : Byte) (s : State) : Result :=
  .next (submit (.serviceRelease station) s)

/-- METER_GET (R79). -/
def execMeterGet (station : Byte) (s : State) : Result :=
  .next (submit (.meterGet station) s)

/-- METER_CLEAR (R79). -/
def execMeterClear (station : Byte) (s : State) : Result :=
  .next (submit (.meterClear station) s)

end Sys2Proof.Machine
end

