-- ==== Sys2Proof/Machine/Dispatch.lean ====
section
/-!
DEFINITION. Which meaning each command has: one arm per constructor of `Instr`.
-/

namespace Sys2Proof.Machine

def exec (i : Instr) (s : State) : Host.Outcome State Fault Refusal :=
  match i with
  | .reset stationsHigh lineRateHigh => Sys2Proof.Machine.execReset stationsHigh lineRateHigh s
  | .upstreamHalf station half => Sys2Proof.Machine.execUpstreamHalf station half s
  | .stationLost station => Sys2Proof.Machine.execStationLost station s
  | .stationPresent station => Sys2Proof.Machine.execStationPresent station s
  | .pickWaitExpiry station => Sys2Proof.Machine.execPickWaitExpiry station s
  | .receiveLimit station => Sys2Proof.Machine.execReceiveLimit station s
  | .noAcknowledgement station => Sys2Proof.Machine.execNoAcknowledgement station s
  | .card station token cardClass => Sys2Proof.Machine.execCard station token cardClass s
  | .account station number => Sys2Proof.Machine.execAccount station number s
  | .finish station => Sys2Proof.Machine.execFinish station s
  | .idleExpiry station => Sys2Proof.Machine.execIdleExpiry station s
  | .stallTimerExpiry station => Sys2Proof.Machine.execStallTimerExpiry station s
  | .overdue station => Sys2Proof.Machine.execOverdue station s
  | .initialAuthTimeout station => Sys2Proof.Machine.execInitialAuthTimeout station s
  | .incrementAuthTimeout station => Sys2Proof.Machine.execIncrementAuthTimeout station s
  | .silenceExpiry => Sys2Proof.Machine.execSilenceExpiry s
  | .hostFrame chars => Sys2Proof.Machine.execHostFrame chars s
  | .gapError => Sys2Proof.Machine.execGapError s
  | .lineBreak => Sys2Proof.Machine.execLineBreak s
  | .hrdyi asserted => Sys2Proof.Machine.execHrdyi asserted s
  | .frameSent => Sys2Proof.Machine.execFrameSent s
  | .noticeBuild => Sys2Proof.Machine.execNoticeBuild s
  | .secondsClock => Sys2Proof.Machine.execSecondsClock s
  | .status => Sys2Proof.Machine.execStatus s
  | .start => Sys2Proof.Machine.execStart s
  | .stop => Sys2Proof.Machine.execStop s
  | .halt => Sys2Proof.Machine.execHalt s
  | .setTimers idle pickWait transit stall auth silence => Sys2Proof.Machine.execSetTimers idle pickWait transit stall auth silence s
  | .setLevels jam session station anomaly journal => Sys2Proof.Machine.execSetLevels jam session station anomaly journal s
  | .setClock value => Sys2Proof.Machine.execSetClock value s
  | .setTariff tariffClass media colour price => Sys2Proof.Machine.execSetTariff tariffClass media colour price s
  | .setTiers tariffClass discount0 threshold1 discount1 threshold2 discount2 threshold3 discount3 => Sys2Proof.Machine.execSetTiers tariffClass discount0 threshold1 discount1 threshold2 discount2 threshold3 discount3 s
  | .setRange entry operation low high kind tariffClass overdraft => Sys2Proof.Machine.execSetRange entry operation low high kind tariffClass overdraft s
  | .setCardPolicy initialHold increment threshold tariffClass standInLimit standInMinimum standInCap => Sys2Proof.Machine.execSetCardPolicy initialHold increment threshold tariffClass standInLimit standInMinimum standInCap s
  | .cardPolicyGet => Sys2Proof.Machine.execCardPolicyGet s
  | .accountPut number balance state maxSessions => Sys2Proof.Machine.execAccountPut number balance state maxSessions s
  | .accountGet number => Sys2Proof.Machine.execAccountGet number s
  | .accountAdjust number amount => Sys2Proof.Machine.execAccountAdjust number amount s
  | .accountFreeze number => Sys2Proof.Machine.execAccountFreeze number s
  | .accountThaw number => Sys2Proof.Machine.execAccountThaw number s
  | .accountRemove number => Sys2Proof.Machine.execAccountRemove number s
  | .authResult reference outcome amount => Sys2Proof.Machine.execAuthResult reference outcome amount s
  | .authPending => Sys2Proof.Machine.execAuthPending s
  | .denyAdd token => Sys2Proof.Machine.execDenyAdd token s
  | .denyRemove token => Sys2Proof.Machine.execDenyRemove token s
  | .denyClear => Sys2Proof.Machine.execDenyClear s
  | .standinList start => Sys2Proof.Machine.execStandinList start s
  | .standinClear token => Sys2Proof.Machine.execStandinClear token s
  | .journalRead count => Sys2Proof.Machine.execJournalRead count s
  | .journalRelease count expected => Sys2Proof.Machine.execJournalRelease count expected s
  | .stationGet station => Sys2Proof.Machine.execStationGet station s
  | .stationEnable station => Sys2Proof.Machine.execStationEnable station s
  | .stationDisable station => Sys2Proof.Machine.execStationDisable station s
  | .sessionEnd station => Sys2Proof.Machine.execSessionEnd station s
  | .serviceHold station => Sys2Proof.Machine.execServiceHold station s
  | .serviceRelease station => Sys2Proof.Machine.execServiceRelease station s
  | .meterGet station => Sys2Proof.Machine.execMeterGet station s
  | .meterClear station => Sys2Proof.Machine.execMeterClear station s
  | .lineReturnedToMark => Sys2Proof.Machine.execLineReturnedToMark s

end Sys2Proof.Machine
end

