-- ==== Sys2Proof/Safety.lean ====
section
/-!
DEFINITION. The terms that claims about the 2260 use: what an event leaves untouched, when a request is taken at once,
the reading of a reply's fields, and the invariants of the part.
-/

namespace Sys2Proof.Machine

/-! ## What an event leaves untouched -/

/-- The parts of the state that no event of a station and no timer of one ever changes: the charge unit's tables, the range
table, the card policy and the deny list, the seconds clock with its flag, the host line but for the operating state and the
JOURNAL flag, the place in the frame, and what comes in the gaps and behind the command. The operating state can move only from
STOPPING to STOPPED (R24). -/
structure Untouched (s t : State) : Prop where
  charge : t.charge = s.charge
  ranges : t.accounts.ranges = s.accounts.ranges
  policy : t.cards.policy = s.cards.policy
  deny : t.cards.deny = s.cards.deny
  clock : t.journal.clock = s.journal.clock
  clockUnset : t.journal.clockUnset = s.journal.clockUnset
  host : t.host = { s.host with op := t.host.op, journalFlag := t.host.journalFlag }
  op : t.host.op = s.host.op ∨ (s.host.op = .stopping ∧ t.host.op = .stopped)
  slot : t.slot = s.slot
  meanwhile : t.meanwhile = s.meanwhile
  pending : t.pending = s.pending

/-- An event at station `i` reaches no other station's state, and leaves the rest untouched as said above. What it may
change beside station `i` are the account records, the stand-in list, the reference and session number counters, the
journal's records and level, and the open choices. -/
structure LocalTo (i : StationId) (s t : State) : Prop extends Untouched s t where
  others : ∀ j, j ≠ i → t.st j = s.st j

/-- The station that a command is an event at (R1 to R193; the requests that name a station are no events of it). -/
def eventStation : Instr → Option StationId
  | .upstreamHalf i _ => some i
  | .stationLost i => some i
  | .stationPresent i => some i
  | .pickWaitExpiry i => some i
  | .receiveLimit i => some i
  | .noAcknowledgement i => some i
  | .card i _ _ => some i
  | .account i _ => some i
  | .finish i => some i
  | .idleExpiry i => some i
  | .stallTimerExpiry i => some i
  | .overdue i => some i
  | .initialAuthTimeout i => some i
  | .incrementAuthTimeout i => some i
  | _ => none

/-! ## Requests -/

/-- Nothing holds a request back: the reply buffer and the receive queue are empty (R174). Whether a line break is held is no matter
to a request command, as the model has it (DESIGN CHOICE, log entry 5). -/
def lineIdle (s : State) : Prop := s.host.reply = .empty ∧ s.host.received = []

/-- The state with a reply waiting in the reply buffer and nothing else changed. -/
def State.replied (s : State) (kind : Byte) (status : Status) (body : List Byte) : State :=
  { s with host := { s.host with reply := .waiting ⟨kind, status, body⟩ } }

/-- The fields that a body's bytes give, cut into fields of the widths listed, most significant byte first (R189, R190). -/
def readFields : List Nat → List Byte → List Nat
  | [], _ => []
  | w :: ws, body => ofBytes (body.take w) :: readFields ws (body.drop w)

/-- A body that is exactly these fields, each a width in bytes with its value. A value too large for its field is sent
modulo the field's range. -/
def bodyIs (body : List Byte) (fields : List (Nat × Nat)) : Prop :=
  body.length = (fields.map (·.1)).sum ∧
    readFields (fields.map (·.1)) body = fields.map fun f => f.2 % 256 ^ f.1

/-- A flag's value on the line (spec/11 section 11.8). -/
def bit (b : Bool) : Nat := if b then 1 else 0

/-- The fields of an account reply (R110, spec/11 section 11.3): the record, its containing range with the entry number
(255, kind 0 and two free values for none, log entry 10), and the available funds. -/
def accountFields (u : AccountUnit) (a : Account) : List (Nat × Nat) :=
  let r := match containingEntry u.ranges a.number, containingRange u.ranges a.number with
    | some e, some r => (e.val, (match r.kind with | .prepaid => 1 | .postpaid => 2), r.tariffClass.val, r.overdraft)
    | _, _ => (255, 0, Config.unstatedTariffClass a.number, Config.unstatedOverdraft a.number)
  [(3, a.number), (4, (a.balance % 2 ^ 32).toNat), (1, bit a.frozen), (1, a.maxSessions), (1, a.openSessions),
    (4, a.lifetimeSpend), (4, a.lastUse), (1, r.1), (1, r.2.1), (1, r.2.2.1), (3, r.2.2.2),
    (4, (availableFunds u a).toNat)]

/-- The fields of a STATUS reply (R186, spec/11 section 11.3), the number of requests that wait in the receive queue among them. -/
def statusFields (s : State) : List (Nat × Nat) := [
  (1, match s.host.op with | .stopped => 0 | .running => 1 | .stopping => 2), (1, bit s.host.linkUp),
  (2, if s.host.linkUp then s.host.silenceTimer.getD 0 / 2000 else 0),
  (1, bit s.host.stationsHigh + 2 * bit s.host.lineRateHigh),
  (2, s.host.counters.lengthErrors), (2, s.host.counters.checkErrors), (2, s.host.counters.gapErrors),
  (2, s.host.counters.strayFrames), (2, s.host.counters.overruns), (2, s.host.counters.breaks),
  (2, s.host.counters.linkDowns), (1, s.host.received.length), (2, s.journal.records.length),
  (1, match s.journal.level with | .release => 0 | .may => 1 | .need => 2 | .must => 3),
  (4, s.journal.nextNumber), (4, s.journal.clock), (1, bit s.journal.clockUnset),
  (3, (s.cards.standIn.map (·.amount)).sum), (1, s.cards.standIn.length), (2, s.accounts.accounts.length),
  (1, (allStations.filter fun i => (s.st i).session.state ≠ .none).length)]

/-- A request is taken whole as the command of its name: the command that carries a request's fields. -/
def requestCommand : Request → Instr
  | .status => .status
  | .start => .start
  | .stop => .stop
  | .halt => .halt
  | .setTimers a b c d e f => .setTimers a b c d e f
  | .setLevels a b c d e => .setLevels a b c d e
  | .setClock v => .setClock v
  | .setTariff c m k p => .setTariff c m k p
  | .setTiers c d0 t1 d1 t2 d2 t3 d3 => .setTiers c d0 t1 d1 t2 d2 t3 d3
  | .setRange e o l h k c v => .setRange e o l h k c v
  | .setCardPolicy h i t c l m p => .setCardPolicy h i t c l m p
  | .cardPolicyGet => .cardPolicyGet
  | .accountPut n b st m => .accountPut n b st m
  | .accountGet n => .accountGet n
  | .accountAdjust n a => .accountAdjust n a
  | .accountFreeze n => .accountFreeze n
  | .accountThaw n => .accountThaw n
  | .accountRemove n => .accountRemove n
  | .authResult r o a => .authResult r o a
  | .authPending => .authPending
  | .denyAdd t => .denyAdd t
  | .denyRemove t => .denyRemove t
  | .denyClear => .denyClear
  | .standinList p => .standinList p
  | .standinClear t => .standinClear t
  | .journalRead n => .journalRead n
  | .journalRelease n e => .journalRelease n e
  | .stationGet n => .stationGet n
  | .stationEnable n => .stationEnable n
  | .stationDisable n => .stationDisable n
  | .sessionEnd n => .sessionEnd n
  | .serviceHold n => .serviceHold n
  | .serviceRelease n => .serviceRelease n
  | .meterGet n => .meterGet n
  | .meterClear n => .meterClear n

/-- Bytes on HRX, each with its stop bit at mark. -/
def onLine (bytes : List Byte) : List HrxChar := bytes.map fun b => ⟨b, true⟩

/-- Bit by bit, the cyclic check register with polynomial x^16 + x^12 + x^5 + 1: the bit that leaves at the top, added to the
bit that comes in, is fed back (R171). -/
def serialCheck (r : BitVec 16) (bit : Bool) : BitVec 16 :=
  if r.msb != bit then (r <<< 1) ^^^ 0x1021#16 else r <<< 1

/-! ## Slots -/

/-- The upstream half of a present station that reports a code with its location, a pick byte (0 for NONE), an exit count, a
message mark with its byte, and an acknowledge mark (spec/11 section 11.7). -/
def halfOf (c : Code) (pick exits mark ack : Nat) (byte : Byte) : UpHalf :=
  let reported := match c with
    | .ready => 16 | .running => 32 | .warming => 48 | .paperOut => 64 | .doorOpen => 80 | .jam l => 96 + l.val
    | .fault => 112
  ⟨BitVec.ofNat 8 (128 + reported), BitVec.ofNat 8 pick, BitVec.ofNat 8 (64 * exits + 16 * mark + 4 * ack), byte⟩

/-- The pick byte that asks for a sheet (spec/11 section 11.7). -/
def pickByte (p : SheetSpec) : Nat :=
  128 + (match p.colour with | .mono => 0 | .colour => 64) + 16 * p.sides.val + p.media.val

/-- A present station whose line has nothing under way: no pick, no message in either direction, no ABORT to send. -/
def Calm (x : Station) : Prop :=
  x.line.present = true ∧ x.line.latch = .idle ∧ x.line.up = .idle ∧ x.line.down = [] ∧ x.line.downWait = none ∧
    x.line.downAbort = false

/-- The line state of a calm station after a slot that reports its confirmed code and nothing else: the downstream half has
carried the hold mark and the acknowledgement owed, and no more. -/
def calmLine (x : Station) : StationLine :=
  { x.line with
    contrary := 0, candidate := none, ackOwed := .none
    sent := [if x.hold = .held ∨ x.hold = .releasing then 32 else 0,
      match x.line.ackOwed with | .none => 0 | .ack => 16 | .abort => 32, 0] }

/-- A present station whose line has nothing under way but the pick that its latch holds, and whose confirmed code is `c`. -/
def CalmBut (c : Code) (x : Station) : Prop :=
  Calm { x with line := { x.line with latch := .idle } } ∧ x.line.confirmed = some c

/-- The line state of such a station after a slot that reports its confirmed code, with the latch as given: the downstream
half has carried the held answer, the hold mark and the acknowledgement owed, and no more. -/
def heldLine (x : Station) (latch : Latch) : StationLine :=
  { x.line with contrary := 0, candidate := none, ackOwed := .none, sent := downHalf x, latch := latch }

/-- The conditions of a station with one ANOMALY more (R181). -/
def oneAnomaly (k : AnomalyKind) (c : Conditions) : Conditions :=
  { c with anomalies := min 255 (c.anomalies + 1), latestAnomaly := some k }

/-- The limits that one arrival more without a byte and without an acknowledgement reaches: the 64th in a row while a message is
received, and while a byte waits (R15, R19). -/
def limitsReached (l : StationLine) : List AnomalyKind :=
  (match l.up with
    | .idle => []
    | .receiving _ quiet => if 64 ≤ quiet + 1 then [.upTimeout] else []) ++
  match l.downWait with
    | none => []
    | some n => if 64 ≤ n + 1 then [.downTimeout] else []

/-- Station `x` becomes `y` in a slot that brings no pick's change, no exit, no byte and no acknowledgement, and leaves the contrary
count as given. The downstream half has gone out. A message in reception has waited through one arrival more, and the 64th ends it
with ABORT owed and ANOMALY UP_TIMEOUT (R15). A byte that goes out in the slot has waited through one arrival, one that waited
through one more, and the 64th abandons its message, makes the message mark ABORT due and raises ANOMALY DOWN_TIMEOUT (R18, R19). -/
structure WaitedThrough (x y : Station) (contrary : Nat) : Prop where
  rest : y = { x with line := y.line, cond := y.cond }
  line : y.line = { x.line with
    contrary := contrary, candidate := none, sent := downHalf x, up := y.line.up, ackOwed := y.line.ackOwed
    down := y.line.down, downTaken := y.line.downTaken, downWait := y.line.downWait, downAbort := y.line.downAbort }
  idle : x.line.up = .idle → y.line.up = .idle ∧ y.line.ackOwed = .none
  receives : ∀ buffer quiet, x.line.up = .receiving buffer quiet → quiet + 1 < 64 →
    y.line.up = .receiving buffer (quiet + 1) ∧ y.line.ackOwed = .none
  receiveLimit : ∀ buffer quiet, x.line.up = .receiving buffer quiet → 64 ≤ quiet + 1 →
    y.line.up = .idle ∧ y.line.ackOwed = .abort
  nothingPlaced : x.line.downWait = none → x.line.down = [] ∨ x.line.downAbort = true →
    y.line.down = x.line.down ∧ y.line.downTaken = x.line.downTaken ∧ y.line.downWait = none ∧ y.line.downAbort = false
  bytePlaced : x.line.downWait = none → x.line.down ≠ [] → x.line.downAbort = false →
    y.line.down = x.line.down ∧ y.line.downTaken = x.line.downTaken ∧ y.line.downWait = some 1 ∧ y.line.downAbort = false
  byteWaits : ∀ n, x.line.downWait = some n → n + 1 < 64 →
    y.line.down = x.line.down ∧ y.line.downTaken = x.line.downTaken ∧ y.line.downWait = some (n + 1) ∧
      y.line.downAbort = false
  notAcknowledged : ∀ n, x.line.downWait = some n → 64 ≤ n + 1 →
    y.line.down = x.line.down.drop 1 ∧ y.line.downTaken = 0 ∧ y.line.downWait = none ∧ y.line.downAbort = true
  anomalies : ∃ kinds : List AnomalyKind, kinds.Perm (limitsReached x.line) ∧
    y.cond = kinds.foldl (fun c k => oneAnomaly k c) x.cond

/-! ## A full downstream queue -/

/-- The messages of a downstream queue that have not begun sending: all but a head with a byte placed (R16). -/
def unsentOf (l : StationLine) : List DownMsg := l.down.drop (if l.downTaken ≠ 0 ∨ l.downWait ≠ none then 1 else 0)

/-- What an offer of `m` to a present station with line state `l` and conditions `c`, whose queue holds four messages, makes of
them: a SHOW takes the place of the newest unsent SHOW; another message goes to the tail, and the oldest unsent SHOW goes; with no
unsent SHOW the message is discarded and ANOMALY DOWN_FULL raised (R17). -/
def OfferedToFull (m : DownMsg) (l : StationLine) (c : Conditions) (down : List DownMsg) (d : Conditions) : Prop :=
  (∀ before y after, unsentOf l = before ++ y :: after → isShow y = true →
    let begun := l.down.take (l.down.length - (unsentOf l).length)
    (isShow m = true → (∀ z ∈ after, isShow z = false) → down = begun ++ before ++ m :: after ∧ d = c) ∧
    (isShow m = false → (∀ z ∈ before, isShow z = false) → down = begun ++ before ++ after ++ [m] ∧ d = c)) ∧
  ((∀ z ∈ unsentOf l, isShow z = false) → down = l.down ∧ d = oneAnomaly .downFull c)

/-! ## Sheets -/

/-- The price of a sheet whose impressions cost `base` before discount: each at its own index in class `k` (R49). -/
def costOf (s : State) (k : Fin 8) (base : Nat) (x : Session) (p : SheetSpec) : Nat :=
  ((List.range p.sides.val).map fun d =>
    base * (100 - discountAt s.charge.tiers[k] (x.impressions + 1 + d)) / 100).sum

/-- The minor units that a price posts (R50). -/
def unitsPosted (x : Session) (price : Nat) : Nat := (x.fineTotal + price) / 100 - x.fineTotal / 100

/-- A sheet that would pass the session's limits (R50). -/
def PastLimits (x : Session) (p : SheetSpec) (price : Nat) : Prop :=
  999999 < x.impressions + p.sides.val ∨ 1200000000 < x.fineTotal + price

/-- The session record with a sheet charged (R51, R61). -/
def chargedSession (x : Session) (p : SheetSpec) (price : Nat) : Session :=
  { x with
    fineTotal := x.fineTotal + price, spent := (x.fineTotal + price) / 100, impressions := x.impressions + p.sides.val
    chargedMono := if p.colour = .mono then min 16777215 (x.chargedMono + p.sides.val) else x.chargedMono
    chargedColour := if p.colour = .colour then min 16777215 (x.chargedColour + p.sides.val) else x.chargedColour }

/-- What the credit of a sheet gives back, in minor units (R56). -/
def unitsReturned (x : Session) (price : Nat) : Nat := x.fineTotal / 100 - (x.fineTotal - price) / 100

/-- The session record with a sheet credited, `lost` of it past the top of the account's balance (R56, R61, R109). -/
def creditedSession (x : Session) (e : InFlight) (lost : Nat) : Session :=
  { x with
    fineTotal := x.fineTotal - e.price, spent := (x.fineTotal - e.price) / 100, impressions := x.impressions - e.impressions
    creditedImpressions := min 16777215 (x.creditedImpressions + e.impressions)
    creditedAmount := min 16777215 (x.creditedAmount + unitsReturned x e.price)
    unreturnedCredit := if lost = 0 then x.unreturnedCredit else min 16777215 (x.unreturnedCredit + lost) }

/-- The CHARGED entries of a queue, of which a removal series credits every one (R58, R76). -/
def chargedOf (q : List InFlight) : List InFlight := q.filter fun e => e.kind == .charged

/-- What the CHARGED entries of a queue have cost, in fine units (R58). -/
def chargedPrices (q : List InFlight) : Nat := ((chargedOf q).map (·.price)).sum

/-- The impressions of the CHARGED entries of a queue (R58). -/
def chargedImpressions (q : List InFlight) : Nat := ((chargedOf q).map (·.impressions)).sum

/-- An entry of the queue for a sheet, as pushed (R65, R66, R74). -/
def sheetEntry (s : State) (kind : EntryKind) (p : SheetSpec) (price : Nat) : InFlight :=
  ⟨kind, p.sides.val, p.colour, p.media, price, 0, s.host.timers.transit⟩

/-- The meters with an entry delivered (R72). -/
def deliveredOn (e : InFlight) (m : Meters) : Meters :=
  match e.kind with
  | .charged => { m with delivered := (m.delivered + e.impressions) % 1000000000 }
  | .service => { m with serviceDelivered := (m.serviceDelivered + e.impressions) % 1000000000 }

/-- A station with one exit taken, but for what follows a removal: the head entry is delivered, or the exit is uncharged, and then
it counts for a session that exists too (R72, R73). -/
def exitedOnce (x : Station) : Station :=
  match x.queue with
  | e :: rest => { x with queue := rest, meters := deliveredOn e x.meters }
  | [] => { x with
      meters := { x.meters with unchargedExits := (x.meters.unchargedExits + 1) % 1000000000 }
      cond := oneAnomaly .unchargedExit x.cond
      session := if x.session.state = .none then x.session
        else { x.session with unchargedExits := min 16777215 (x.session.unchargedExits + 1) } }

/-- A station with a number of exits taken, one after another (R72). -/
def exitedTimes : Nat → Station → Station
  | 0, x => x
  | n + 1, x => exitedTimes n (exitedOnce x)

/-- The head of a list of entries, if there is one, would not be overdue: the age counting is suspended, or its age is below
its limit (R74). -/
def HeadKeeps (x : Station) (q : List InFlight) : Prop :=
  ∀ f, q.head? = some f → x.recovery.stoppage ≠ none ∨ f.age < f.limit * 2000

/-- A sheet that an OPEN CARD session could be granted at its price but for the funds: hold NONE, a free place, and the
session within its limits (R64). -/
structure CardAffords (s : State) (x : Station) (p : SheetSpec) (price : Nat) : Prop where
  opened : x.session.state = .opened
  hold : x.hold = .none
  sides : p.sides = 1 ∨ p.sides = 2
  room : x.queue.length < 8
  card : ∃ t, x.session.payer = some (.card t)
  priced : ∃ k base, x.session.tariffClass = some k ∧ basePrice s.charge k p.media p.colour = some base ∧
    price = costOf s k base x.session p
  limits : ¬ PastLimits x.session p price

/-- The request that waits at a station, if its latch holds it too. -/
def WaitsFor (x : Station) (p : SheetSpec) : Prop :=
  ∃ n c k w, x.request = .waiting n p c k ∧ x.line.latch = .raised n p w

/-! ## Closes -/

/-- One minor unit more fits the payer of a session (R59). -/
def CentFits (s : State) (x : Session) : Prop :=
  match x.payer with
  | some (.account n) => ∃ a, findAccount s.accounts n = some a ∧ floorOf s.accounts.ranges n ≤ a.balance - 1
  | some (.card _) => x.spent + 1 ≤ x.authority.getD 0
  | some (.standIn _) => x.spent + 1 ≤ x.authority.getD 0
  | none => False

/-- The closing cent and the final spent of a session (R59). -/
def FinalSpent (s : State) (x : Session) (cent : ClosingCent) (spent : Nat) : Prop :=
  (x.fineTotal % 100 < 50 → cent = .none ∧ spent = x.spent) ∧
  (50 ≤ x.fineTotal % 100 → CentFits s x → cent = .posted ∧ spent = x.spent + 1) ∧
  (50 ≤ x.fineTotal % 100 → ¬ CentFits s x → cent = .waived ∧ spent = x.spent)

/-- The record that a close appends (R41, R142, R143). -/
def closeRecord (s : State) (i : StationId) (x : Session) (payer : Payer) (reason : CloseReason) (cent : ClosingCent)
    (spent : Nat) : JournalRecord where
  journalNumber := s.journal.nextNumber
  sessionNumber := x.number
  station := i
  payer := payer
  cardClass := x.cardClass
  tariffClass := x.tariffClass.getD 0
  openTime := x.openTime.getD 0
  closeTime := s.journal.clock
  clockUnset := s.journal.clockUnset
  reason := reason
  cent := cent
  authority := x.authority.getD 0
  spent := spent
  chargedMono := x.chargedMono
  chargedColour := x.chargedColour
  creditedImpressions := x.creditedImpressions
  creditedAmount := x.creditedAmount
  stallCount := x.stallCount
  unchargedExits := x.unchargedExits
  increments := x.increments
  unreturnedCredit := x.unreturnedCredit

/-- The urgency level after an append that leaves an occupancy: it rises at 256, 384 and 480, and never falls (R148). -/
def risenLevel (occupancy : Nat) (level : Urgency) : Urgency :=
  if 480 ≤ occupancy then .must
  else if 384 ≤ occupancy ∧ level ≠ .must then .need
  else if 256 ≤ occupancy ∧ level = .release then .may
  else level

/-- The last session of a STOPPING part (R24). -/
def LastSession (s : State) (i : StationId) : Prop :=
  s.host.op = .stopping ∧ ∀ j, j ≠ i → (s.st j).session.state = .none

/-! ## Entries of the pending authorization table -/

/-- An AUTH REQUEST of a reference that has not begun sending waits with the station's conditions (R178). -/
def Unsent (x : Station) (reference : Nat) : Prop := ∃ r, x.cond.authRequest = some r ∧ r.reference = reference

/-- An entry removed with cancel: an unsent request is withdrawn and no cancel is raised; otherwise an AUTH CANCEL with the
cause is raised (R122). -/
def EntryCancelled (x y : Station) (reference : Nat) (cause : CancelCause) : Prop :=
  y.auth = none ∧
  (Unsent x reference → y.cond.authRequest = none ∧ y.cond.authCancel = x.cond.authCancel) ∧
  (¬ Unsent x reference → y.cond.authCancel = some ⟨reference, cause⟩)

/-! ## Notices -/

/-- The place of a class in the class order (R182). -/
def noticeRank : NoticeClass → Nat
  | .auth => 0
  | .jam => 1
  | .session => 2
  | .station => 3
  | .anomaly => 4
  | .journal => 5

/-- The kinds of a class's notices (spec/11 section 11.4). -/
def noticeKinds : NoticeClass → List Byte
  | .auth => [0x40, 0x41]
  | .jam => [0x42]
  | .session => [0x43]
  | .station => [0x44]
  | .anomaly => [0x45]
  | .journal => [0x46]

/-- A class has a pending condition: the JOURNAL flag, or a form of a station (R178 to R181). -/
def ClassWaits (s : State) : NoticeClass → Prop
  | .journal => s.host.journalFlag = true
  | c => ∃ i, formPending (s.st i).cond c = true

/-- Class `c` goes before class `d`: its level is higher, or the levels are one and it is first in the class order (R182). -/
def GoesFirst (l : Levels) (c d : NoticeClass) : Prop :=
  classLevel l d < classLevel l c ∨ (classLevel l d = classLevel l c ∧ noticeRank c < noticeRank d)

/-! ## The records of HALT -/

/-- The records that one HALT makes stand side by side: no record of another occasion stands between two of them (R143). -/
def HaltRecordsTogether (records : List JournalRecord) : Prop :=
  ∃ before halts after, records = before ++ halts ++ after ∧ (∀ r ∈ halts, r.reason = .halt) ∧
    ∀ r ∈ before ++ after, r.reason ≠ .halt

/-! ## Frozen accounts -/

/-- What the close reason FROZEN does at the stations whose session pays from an account, and that it does nothing at any
other (R33, R114). An OPEN session without a CHARGED entry closes, with nothing on the tape of the gaps to come before (log
entry 20). -/
def SessionsSentFrozen (number : Nat) (s u : State) : Prop :=
  ∀ i, ((s.st i).session.payer ≠ some (.account number) → u.st i = s.st i) ∧
    ((s.st i).session.payer = some (.account number) →
      ((s.st i).session.state = .draining → u.st i = s.st i) ∧
      ((s.st i).session.state = .stalled →
        u.st i = { s.st i with session := { (s.st i).session with
          closePending := some ((s.st i).session.closePending.getD .frozen) } }) ∧
      ((s.st i).session.state = .opened → (∃ e ∈ (s.st i).queue, e.kind = .charged) →
        (u.st i).session = { (s.st i).session with
          state := .draining, closeReason := some .frozen, closePending := none }) ∧
      ((s.st i).session.state = .opened → (∀ e ∈ (s.st i).queue, e.kind ≠ .charged) → s.meanwhile = [] →
        (u.st i).session = Session.ended (s.st i).session.number))

/-! ## Stand-in -/

/-- The grant that stand-in would make (R133). -/
def grantOf (s : State) : Nat :=
  min s.cards.policy.standInLimit (s.cards.policy.standInCap - (s.cards.standIn.map (·.amount)).sum)

/-- The six conditions of a stand-in grant for a card (R133, R150). -/
def StandInMayGrant (s : State) (t : Token) : Prop :=
  0 < s.cards.policy.standInLimit ∧ (s.journal.level = .release ∨ s.journal.level = .may) ∧ t ∉ s.cards.deny ∧
    (∀ e ∈ s.cards.standIn, e.token ≠ t) ∧ s.cards.standIn.length < 32 ∧ s.cards.policy.standInMinimum ≤ grantOf s

/-! ## Invariants -/

/-- The impressions of a queue's entries. -/
def impressionsOf (q : List InFlight) : Nat := (q.map (·.impressions)).sum

/-- The conservation of impressions at one station, modulo the meters' range (R78). -/
def Conserved (x : Station) : Prop :=
  x.meters.granted % Config.meterModulus =
    (x.meters.delivered + x.meters.serviceDelivered + x.meters.writtenOff + impressionsOf x.queue) % Config.meterModulus

/-- The conservation of impressions at every station (R78). -/
def ImpressionsConserved (s : State) : Prop := ∀ i, Conserved (s.st i)

/-- The idle timer runs exactly while it is eligible, and an ABSENT station has no confirmed code (R4, R31). -/
def IdleTimerRight (s : State) : Prop :=
  ∀ i, (s.st i).idleTimer.isSome = idleEligible (s.st i) ∧
    ((s.st i).line.present = false → (s.st i).line.confirmed = none)

/-- The pending authorization table agrees with the sessions at one station (R121): an AUTHORIZING session has an INITIAL
entry, an INITIAL entry has an AUTHORIZING session, and an INCREMENT entry has a CARD session that has opened. -/
def AuthRight (x : Station) : Prop :=
  (x.session.state = .authorizing → ∃ e, x.auth = some e ∧ e.kind = .initial) ∧
  (∀ e, x.auth = some e → e.kind = .initial → x.session.state = .authorizing) ∧
  (∀ e, x.auth = some e → e.kind = .increment →
    (x.session.state = .opened ∨ x.session.state = .stalled ∨ x.session.state = .draining) ∧
      ∃ t, x.session.payer = some (.card t))

/-- The pending authorization table agrees with the sessions at every station (R121). -/
def AuthTableRight (s : State) : Prop := ∀ i, AuthRight (s.st i)

/-- The journal keeps room for the record of every session (R26, R144). -/
def JournalHasRoom (s : State) : Prop := s.journal.records.length + s.sessions ≤ Config.journalRoom

/-- A close reason and a close pending are FINISH, IDLE, HOST, FROZEN or DISABLED alone: STALL_TIMEOUT and HALT are recorded at a
close and held by no session (R20, R39). -/
def CloseReasonsRight (s : State) : Prop :=
  ∀ i, ∀ r ∈ [CloseReason.stallTimeout, CloseReason.halt],
    (s.st i).session.closeReason ≠ some r ∧ (s.st i).session.closePending ≠ some r

/-- Every queue, buffer, table and list is within its capacity (spec/00 section 2.1), but for the journal; the account table
holds no two records with one number (R103); the slot to come is one of the frame (R1); and no station holds JAM with location
0, which is no code (R193). -/
structure WithinCapacity (s : State) : Prop where
  inFlight : ∀ i, (s.st i).queue.length ≤ Config.inFlightRoom
  down : ∀ i, (s.st i).line.down.length ≤ Config.downQueueRoom
  upBuffer : ∀ i b q, (s.st i).line.up = .receiving b q → b.length ≤ Config.upBufferRoom
  received : s.host.received.length ≤ Config.receiveRoom
  accounts : s.accounts.accounts.length ≤ Config.accountRoom
  accountOrder : s.accounts.accounts.Pairwise fun a b => a.number < b.number
  deny : s.cards.deny.length ≤ Config.denyRoom
  standIn : s.cards.standIn.length ≤ Config.standInRoom
  slot : s.slot.val < s.frameSize
  codes : ∀ i, (s.st i).line.confirmed ≠ some (.jam 0) ∧ (s.st i).line.candidate ≠ some (.jam 0)

end Sys2Proof.Machine
end

