-- ==== Sys2Proof/Certificates/Slice0/Obligations.lean ====
section
/-!
DEFINITION. The statements about the 2260 for the provers, each a proposition with the rules of spec/ that it comes from.
-/

open Sys2Proof Sys2Proof.Machine

/-! ## The step, and every command -/

/-- One step takes the command at the front of the queue and answers what its meaning answers on the state with the queue's
rest. -/
def Obligations.StepTakesTheFrontCommand : Prop :=
  ∀ (c : Instr) (rest : List Instr) (s : State), s.pending = c :: rest →
    step s = exec c { s with pending := rest }

/-- The model's choice (log entry 4): a step with nothing waiting passes one frame time. Every running timer of a station and
the silence timer come one tick nearer their ends, stopping at 0; the ages of a station's in-flight entries grow by one while
its stoppage condition is clear (R74); nothing else changes, the seconds clock with it. -/
def Obligations.EmptyQueuePassesOneFrame : Prop :=
  ∀ s : State, s.pending = [] → ∃ t : State, step s = .next t ∧
    t = { s with stations := t.stations, host := { s.host with silenceTimer := s.host.silenceTimer.map (· - 1) } } ∧
    ∀ i, ∃ r : RequestState,
      t.st i = { s.st i with
        idleTimer := (s.st i).idleTimer.map (· - 1)
        request := r
        queue := if (s.st i).recovery.stoppage = none then (s.st i).queue.map fun e => { e with age := e.age + 1 }
          else (s.st i).queue
        recovery := { (s.st i).recovery with stallTimer := (s.st i).recovery.stallTimer.map (· - 1) }
        auth := (s.st i).auth.map fun e => { e with left := e.left - 1 } } ∧
      ((s.st i).request = .idle → r = .idle) ∧
      ∀ n p c k, (s.st i).request = .waiting n p c k → r = .waiting n p c (k - 1)

/-- Every command of the table answers a next state, whatever the state it is taken in, and leaves the commands that wait
behind it as they are. -/
def Obligations.EveryCommandCompletes : Prop :=
  ∀ (c : Instr) (s : State), ∃ t : State, exec c s = .next t ∧ t.pending = s.pending

/-- A command that is an event at a station changes nothing at another station, no table of the charge unit, no range, no card
policy, no deny list, no clock, and nothing of the host line but the JOURNAL flag and a move of the operating state from
STOPPING to STOPPED; a slot moves the frame on, and nothing else does. A slot, an idle expiry and a stall timer expiry may let
other events in at their gaps, so for these the tape of the gaps is empty here (log entry 20). That a half out of its slot changes
nothing is the model's choice (log entry 13): the spec has no such half. With the STATIONS strap low, no
event is raised for stations 8 to 15 (section 1.1): every such command leaves the state as it is. -/
def Obligations.StationEventsStayAtTheirStation : Prop :=
  (∀ (c : Instr) (i : StationId) (s t : State), eventStation c = some i → exec c s = .next t →
     ((c = .idleExpiry i ∨ c = .stallTimerExpiry i) ∨ (∃ h, c = .upstreamHalf i h) → s.meanwhile = []) →
     ((∃ h, c = .upstreamHalf i h) → s.inFrame i = true → s.slot = i → LocalTo i s.passSlot t) ∧
     ((∃ h, c = .upstreamHalf i h) → s.slot ≠ i → t = s) ∧
     (¬ (∃ h, c = .upstreamHalf i h) → LocalTo i s t)) ∧
  (∀ (c : Instr) (i : StationId) (s : State), eventStation c = some i → s.host.stationsHigh = false → 8 ≤ i.val →
     exec c s = .next s)

/-! ## RESET -/

/-- RESET gives the host line controller the values of section 10.9's table, with the straps as sampled. No condition is
pending and every station is ABSENT, so the arbiter has nothing to send. That the level of HRDYI stays as it is, and that a
break in progress ends (`breakHeld := false`), are the model's choices (log entry 2), and so is the absence of a latest anomaly
kind, of which the spec gives the count alone (log entry 12). -/
def Obligations.ResetHostLineValues : Prop :=
  ∀ (stations rate : Bool) (s : State), ∃ t : State, exec (.reset stations rate) s = .next t ∧
    t.host =
      { stationsHigh := stations, lineRateHigh := rate, receiver := .hunting, breakHeld := false, received := [],
        reply := .empty, htx := .free, hrdyi := s.host.hrdyi, op := .stopped, linkUp := true,
        silenceTimer := some (seconds 30), timers := ⟨120, 15, 30, 20, 20, 30⟩, levels := ⟨3, 2, 1, 1, 2⟩,
        lastServed := ⟨15, 15, 15, 15, 15, 15⟩, journalFlag := false, counters := ⟨0, 0, 0, 0, 0, 0, 0⟩ } ∧
    readyOut t.host = true ∧ classLevel t.host.levels .auth = 3 ∧
    (∀ i, (t.st i).line.present = false ∧ (t.st i).cond = ⟨none, none, none, false, none, none, 0, none⟩) ∧
    exec .noticeBuild t = .next t

/-- RESET gives every other block its power-on values, and the first frame begins with slot 0 (R1, R3, R6, R8, R13, R16, R20,
R21, R31, R45, R47, R63, R71, R77, R80, R99, R103, R119, R121, R135, R138, R141, R157). The choice fields, the tape of the gaps
and the record of the half sent are the model's own (log entries 1, 15 and 20). -/
def Obligations.ResetBlockValues : Prop :=
  ∀ (stations rate : Bool) (s : State), ∃ t : State, exec (.reset stations rate) s = .next t ∧
    (∀ i,
      (t.st i).line = ⟨false, 0, none, none, .disarmed, 0, .idle, .none, [], 0, none, false, []⟩ ∧
      (t.st i).session =
        ⟨.none, 0, none, none, none, none, none, none, 0, 0, 0, 0, 0, 0, 0, 0, none, 0, false, 0, 0⟩ ∧
      (t.st i).idleTimer = none ∧ (t.st i).request = .idle ∧ (t.st i).queue = [] ∧
      (t.st i).meters = ⟨0, 0, 0, 0, 0, 0, 0⟩ ∧ (t.st i).hold = .none ∧
      (t.st i).recovery = ⟨none, none, .enabled, false⟩ ∧ (t.st i).auth = none) ∧
    t.slot = 0 ∧ frameMark t = true ∧ t.nextSession = 1 ∧
    (∀ c m k, basePrice t.charge c m k = none) ∧
    (∀ c : Fin 8, t.charge.tiers[c] = ⟨0, ⟨0, 0⟩, ⟨0, 0⟩, ⟨0, 0⟩⟩) ∧
    (∀ e : Fin 8, t.accounts.ranges[e] = none) ∧ t.accounts.accounts = [] ∧
    t.cards = ⟨⟨0, 1000, 0, 0, 0, 0, 0⟩, 1, [], []⟩ ∧ t.journal = ⟨[], 0, .release, 0, true⟩ ∧
    t.choiceTape = s.choiceTape ∧ t.choiceCount = s.choiceCount ∧ t.meanwhile = s.meanwhile ∧ t.pending = s.pending

/-! ## Invariants -/

/-- The state after reset meets every invariant below. -/
def Obligations.ResetMeetsTheInvariants : Prop :=
  ImpressionsConserved State.reset ∧ IdleTimerRight State.reset ∧ AuthTableRight State.reset ∧
    JournalHasRoom State.reset ∧ WithinCapacity State.reset ∧ CloseReasonsRight State.reset

/-- Every step keeps the conservation of impressions at every station (section 4.7): granted impressions equal delivered plus
service delivered plus written off plus those in the in-flight queue, modulo 1,000,000,000. -/
def Obligations.StepConservesImpressions : Prop :=
  ∀ s t : State, ImpressionsConserved s → step s = .next t → ImpressionsConserved t

/-- Every step keeps the idle timer running exactly while its five conditions hold (section 2.4), and an ABSENT station
without a confirmed code. -/
def Obligations.StepKeepsTheIdleTimerRight : Prop :=
  ∀ s t : State, IdleTimerRight s → step s = .next t → IdleTimerRight t

/-- Every step keeps the pending authorization table in agreement with the sessions (section 7.2): an AUTHORIZING session has
an INITIAL entry and an INITIAL entry an AUTHORIZING session, and an INCREMENT entry stands only beside a CARD session that
has opened. -/
def Obligations.StepKeepsTheAuthTableRight : Prop :=
  ∀ s t : State, AuthTableRight s → step s = .next t → AuthTableRight t

/-- Every step keeps the journal's room: journal occupancy plus the number of sessions never exceeds 512 (section 2.3, section
8.2). -/
def Obligations.StepKeepsJournalRoom : Prop :=
  ∀ s t : State, JournalHasRoom s → step s = .next t → JournalHasRoom t

/-- Every step keeps every queue, buffer, table and list within its capacity, the account table without two records of one
number, the slot to come within the frame, and the confirmed and the candidate code of every station other than JAM with location
0, which a half does not spell (spec/00 section 2.1, sections 1.1, 6.2 and 11.7). By itself, every step keeps the close reason and
the close pending of every session within their five values, FINISH, IDLE, HOST, FROZEN and DISABLED: no session holds STALL_TIMEOUT
or HALT, which a close alone records (section 2.1). -/
def Obligations.StepKeepsCapacities : Prop :=
  (∀ s t : State, WithinCapacity s → step s = .next t → WithinCapacity t) ∧
  (∀ s t : State, CloseReasonsRight s → step s = .next t → CloseReasonsRight t)

/-! ## Frames and requests on the host line -/

/-- The frame check is the content of that register, begun at all ones, after the bits of every byte from the most significant
down (section 10.2). -/
def Obligations.FrameCheckIsTheCyclicRemainder : Prop :=
  ∀ bytes : List Byte,
    frameCheck bytes =
      (bytes.flatMap fun b => [7, 6, 5, 4, 3, 2, 1, 0].map fun k => b.getLsbD k).foldl serialCheck 0xFFFF#16

/-- Decode and encode agree for every request of the catalogue, with every value of every field: the frame that carries a
request passes the checks of its kind and its length, and its body spells that request (section 11.2). -/
def Obligations.RequestFramesDecode : Prop := ∀ r : Request, parseRequest (requestFrame r) = .ok r

/-- A request that comes as a whole frame on a HUNTING receiver does what its command does once the link has heard the frame:
the link is UP and the silence timer restarted (sections 10.2, 10.3 and 10.5). How a command stands for a request, and a run
of characters for a frame, is the model's choice (log entries 5 and 6). -/
def Obligations.RequestFrameActsAsItsCommand : Prop :=
  ∀ (r : Request) (s : State), s.host.receiver = .hunting → s.host.breakHeld = false →
    exec (.hostFrame (onLine (frameBytes (requestKind r) (requestBody r)))) s =
      exec (requestCommand r)
        { s with host := { s.host with linkUp := true, silenceTimer := some (seconds s.host.timers.silence) } }

/-- A frame that is damaged is discarded without a reply and counted, and changes nothing else (section 10.2): a length byte
of 0 or above 251 in the length errors, check bytes that differ from the check computed in the check errors. A valid frame
whose kind is no request's is discarded and counted in the stray frames; with four requests queued, a valid request frame is
discarded and counted in the overruns. Both restart the silence timer and bring the link UP (section 10.2). A valid request frame
that comes while the reply buffer is not empty and fewer than four requests are queued joins the receive queue at its tail, with
the same effect on the link and no other; its kind and its body are not judged there. A request command joins the queue, or is
counted as an overrun, in the same way and without the effect on the link. HRDYO is deasserted while the queue holds four requests
and asserted while it holds fewer, so each addition shows on it (sections 10.2 and 10.3). That a command stands for a request at the
receive queue is the model's choice (log entry 5). -/
def Obligations.RejectedFramesAreCounted : Prop :=
  (∀ s : State, s.host.receiver = .hunting → s.host.breakHeld = false →
     (∀ n : Byte, n = 0 ∨ 251 < n.toNat →
       exec (.hostFrame (onLine [0xA5, n])) s = .next { s with host := { s.host with
         counters := { s.host.counters with lengthErrors := min 65535 (s.host.counters.lengthErrors + 1) } } }) ∧
     (∀ (n hi lo : Byte) (rest : List Byte), 1 ≤ n.toNat → n.toNat ≤ 251 → rest.length = n.toNat →
       (frameCheck (n :: rest)).toNat ≠ hi.toNat * 256 + lo.toNat →
       exec (.hostFrame (onLine (0xA5 :: n :: (rest ++ [hi, lo])))) s = .next { s with host := { s.host with
         counters := { s.host.counters with checkErrors := min 65535 (s.host.counters.checkErrors + 1) } } })) ∧
  (∀ (kind : Byte) (body : List Byte) (s : State), s.host.receiver = .hunting → s.host.breakHeld = false →
     body.length ≤ 250 →
     (kind = 0 ∨ 0x3F < kind.toNat →
       exec (.hostFrame (onLine (frameBytes kind body))) s = .next { s with host := { s.host with
         linkUp := true, silenceTimer := some (seconds s.host.timers.silence)
         counters := { s.host.counters with strayFrames := min 65535 (s.host.counters.strayFrames + 1) } } }) ∧
     (1 ≤ kind.toNat → kind.toNat ≤ 0x3F → s.host.reply ≠ .empty → s.host.received.length = 4 →
       exec (.hostFrame (onLine (frameBytes kind body))) s = .next { s with host := { s.host with
         linkUp := true, silenceTimer := some (seconds s.host.timers.silence)
         counters := { s.host.counters with overruns := min 65535 (s.host.counters.overruns + 1) } } }) ∧
     (1 ≤ kind.toNat → kind.toNat ≤ 0x3F → s.host.reply ≠ .empty → s.host.received.length < 4 →
       ∃ t : State, exec (.hostFrame (onLine (frameBytes kind body))) s = .next t ∧
         t = { s with host := { s.host with
           linkUp := true, silenceTimer := some (seconds s.host.timers.silence)
           received := s.host.received ++ [⟨kind, body⟩] } } ∧
         (readyOut t.host = true ↔ s.host.received.length < 3))) ∧
  (∀ (r : Request) (s : State), s.host.reply ≠ .empty →
     (s.host.received.length < 4 → ∃ t : State, exec (requestCommand r) s = .next t ∧
       t = { s with host := { s.host with received := s.host.received ++ [requestFrame r] } } ∧
       (readyOut t.host = true ↔ s.host.received.length < 3)) ∧
     (s.host.received.length = 4 → readyOut s.host = false ∧
       exec (requestCommand r) s = .next { s with host := { s.host with
         counters := { s.host.counters with overruns := min 65535 (s.host.counters.overruns + 1) } } })) ∧
  (∀ h : HostLine, h.received.length < 4 → readyOut h = true)

/-- GAP_ERROR discards a frame in reception and counts it; while HUNTING it changes nothing. HRDYI takes its level, and
LINE_RETURNED_TO_MARK ends a break; neither changes anything else (sections 10.1 to 10.3 and 10.7). A line break abandons a
frame in reception, empties the receive queue and the reply buffer, stops a reply being sent and lets a notice go on, returns
the five frame counters to 0 and counts the break; nothing else changes. It is taken once: until the line has returned to
mark, a further one and every character change nothing (section 10.7). That GAP_ERROR while HUNTING changes nothing, and that
a break is one command until the line has returned to mark, is the model's choice (log entries 3 and 6). -/
def Obligations.EventsOfTheHostLine : Prop :=
  (∀ s : State,
     (∀ bytes, s.host.receiver = .inFrame bytes →
       exec .gapError s = .next { s with host := { s.host with
         receiver := .hunting
         counters := { s.host.counters with gapErrors := min 65535 (s.host.counters.gapErrors + 1) } } }) ∧
     (s.host.receiver = .hunting → exec .gapError s = .next s) ∧
     (∀ level, exec (.hrdyi level) s = .next { s with host := { s.host with hrdyi := level } }) ∧
     exec .lineReturnedToMark s = .next { s with host := { s.host with breakHeld := false } }) ∧
  (∀ s : State,
     (s.host.breakHeld = false →
       exec .lineBreak s = .next { s with host := { s.host with
         receiver := .hunting, breakHeld := true, received := [], reply := .empty
         htx := match s.host.htx with
           | .notice bytes => .notice bytes
           | _ => .free
         counters := ⟨0, 0, 0, 0, 0, min 65535 (s.host.counters.breaks + 1), s.host.counters.linkDowns⟩ } }) ∧
     (s.host.breakHeld = true → exec .lineBreak s = .next s ∧ ∀ chars, exec (.hostFrame chars) s = .next s))

/-- With the link UP and the silence timer run out, SILENCE_EXPIRY brings the link DOWN, stops the timer, counts the change,
and empties the pending authorization table; stations without an entry are untouched. Each entry goes with cancel, cause
LINK_DOWN. An INCREMENT entry sets its session's no-more-increments flag; an INITIAL entry leaves its AUTHORIZING session to
stand-in: OPEN with payer STANDIN and an entry of the stand-in list, or NONE again, as the six conditions decide where it is the
only INITIAL entry; with several the order is open (log entry 1). A waiting pick of an INCREMENT entry's session is evaluated
again, and one that the authority does not cover gets STOP(FUNDS). With the timer running yet, or the link DOWN, nothing changes:
a valid frame taken first leaves the link UP (sections 7.5 and 10.5). That the expiry is a command, which changes nothing where
the timer has not run out, and that nothing comes between two entries, is the model's choice (log entries 3 and 27). -/
def Obligations.SilenceBringsTheLinkDown : Prop :=
  ∀ s : State,
    (s.host.linkUp = true → s.host.silenceTimer = some 0 → ∃ t : State, exec .silenceExpiry s = .next t ∧
      t.host = { s.host with
        linkUp := false, silenceTimer := none
        counters := { s.host.counters with linkDowns := min 65535 (s.host.counters.linkDowns + 1) }
        op := t.host.op, journalFlag := t.host.journalFlag } ∧
      (∀ i, (s.st i).auth = none → t.st i = s.st i) ∧
      t.charge = s.charge ∧ t.accounts.ranges = s.accounts.ranges ∧ t.cards.policy = s.cards.policy ∧
      t.cards.deny = s.cards.deny ∧ t.journal.clock = s.journal.clock ∧
      ∀ i e, (s.st i).auth = some e →
        let x := s.st i
        let y := t.st i
        EntryCancelled x y e.reference .linkDown ∧
        (e.kind = .increment → x.request = .idle →
          y = { x with
            auth := none, cond := { x.cond with authRequest := y.cond.authRequest, authCancel := y.cond.authCancel }
            session := { x.session with noMoreIncrements := true } }) ∧
        (e.kind = .increment → ∀ p price, WaitsFor x p → CardAffords s x p price →
          x.session.authority.getD 0 < x.session.spent + unitsPosted x.session price →
          y.request = .idle ∧ y.line.latch = .answeredStop .funds ∧ y.queue = x.queue ∧
          y.session = { x.session with noMoreIncrements := true }) ∧
        (∀ k, e.kind = .initial → x.session.state = .authorizing → x.session.payer = some (.card k) →
          x.session.closePending = none → x.recovery.stoppage = none → x.request = .idle →
          let opened := ∃ g, y.session = { x.session with
              state := .opened, payer := some (.standIn k), authority := some g, increments := 0
              noMoreIncrements := false, openTime := some s.journal.clock } ∧
            ⟨k, g, x.session.number, i, false⟩ ∈ t.cards.standIn
          let ended := y.session = Session.ended x.session.number
          (opened ∨ ended) ∧
          ((∀ j f, (s.st j).auth = some f → f.kind = .initial → j = i) →
            (StandInMayGrant s k → opened) ∧ (¬ StandInMayGrant s k → ended)))) ∧
    (s.host.linkUp = false ∨ s.host.silenceTimer ≠ some 0 → exec .silenceExpiry s = .next s)

/-- FRAME_SENT frees the line. After a notice nothing else changes; after a reply the buffer is emptied and, where a request
is queued, the head request is removed and dispatched, so that its reply fills the buffer (section 10.3). A dispatched request
whose kind the catalogue does not name is answered KIND, and one whose body has the wrong length LENGTH; either changes
nothing (section 10.3). A dispatched request does what its command does with the line free and nothing queued, and the requests
behind it stay queued as they are. STATUS alone reads the queue: its reply counts the requests behind it, and not itself (sections
10.3, 10.8 and 11.3). That FRAME_SENT stands for the last byte of the frame on HTX, and a command for a request, is the model's choice
(log entries 5 and 7). -/
def Obligations.FrameSentFreesTheLine : Prop :=
  (∀ s : State,
     (∀ bytes, s.host.htx = .notice bytes →
       exec .frameSent s = .next { s with host := { s.host with htx := .free } }) ∧
     (∀ bytes, s.host.htx = .reply bytes → s.host.received = [] →
       exec .frameSent s = .next { s with host := { s.host with htx := .free, reply := .empty } }) ∧
     (∀ bytes f rest, s.host.htx = .reply bytes → s.host.received = f :: rest →
       ∃ (t : State) (status : Status) (body : List Byte), exec .frameSent s = .next t ∧ t.host.htx = .free ∧
         t.host.received = rest ∧ t.host.reply = .waiting ⟨f.kind, status, body⟩)) ∧
  (∀ (s : State) (bytes : List Byte) (f : HostFrame) (rest : List HostFrame),
     s.host.htx = .reply bytes → s.host.received = f :: rest →
     (bodyLength f.kind.toNat = none →
       exec .frameSent s = .next { s with host := { s.host with
         htx := .free, received := rest, reply := .waiting ⟨f.kind, .kind, []⟩ } }) ∧
     (∀ n, bodyLength f.kind.toNat = some n → f.body.length ≠ n →
       exec .frameSent s = .next { s with host := { s.host with
         htx := .free, received := rest, reply := .waiting ⟨f.kind, .length, []⟩ } })) ∧
  (∀ (s : State) (bytes : List Byte) (r : Request),
     s.host.htx = .reply bytes → s.host.received = [requestFrame r] →
     exec .frameSent s =
       exec (requestCommand r) { s with host := { s.host with htx := .free, reply := .empty, received := [] } }) ∧
  (∀ (s : State) (bytes : List Byte) (r : Request) (rest : List HostFrame),
     s.host.htx = .reply bytes → s.host.received = requestFrame r :: rest →
     (r ≠ .status → ∃ t : State,
       exec (requestCommand r) { s with host := { s.host with htx := .free, reply := .empty, received := [] } } = .next t ∧
       exec .frameSent s = .next { t with host := { t.host with received := rest } }) ∧
     (r = .status → ∃ body : List Byte,
       let u := { s with host := { s.host with htx := .free, received := rest } }
       exec .frameSent s = .next (State.replied u 0x01 .ok body) ∧ bodyIs body (statusFields u)))

/-- The arbiter sends nothing while the line is taken or HRDYI is deasserted; otherwise a waiting reply goes first, as the
frame of its kind plus 0x80 with its status before its body; and with no reply and the link DOWN nothing is sent (section
10.4). That the arbiter acts at NOTICE_BUILD alone is the model's choice (log entry 7). -/
def Obligations.ArbiterSendsAReplyFirst : Prop :=
  ∀ s : State,
    (s.host.htx ≠ .free ∨ s.host.hrdyi = false → exec .noticeBuild s = .next s) ∧
    (∀ r, s.host.htx = .free → s.host.hrdyi = true → s.host.reply = .waiting r →
      exec .noticeBuild s = .next { s with host := { s.host with
        reply := .sending r
        htx := .reply (frameBytes (r.requestKind + 0x80) (statusValue r.status :: r.body)) } }) ∧
    (s.host.htx = .free → s.host.hrdyi = true → s.host.reply = .empty → s.host.linkUp = false →
      exec .noticeBuild s = .next s)

/-- A JAM report is sent in its turn: with JAM at level 3 and no AUTH form pending anywhere, the first station after the one
last served in the class that has a report is served. Its notice carries the report, the report is cleared, the station
becomes the last served of its class, and nothing else changes (section 10.4). With only station `i` pending in the AUTH
class, the cancel goes before the request, each in a notice of its own, and each clears its own form alone (section 10.4). The
notices of the other classes, each alone pending. SESSION carries the session state and number as held at the build, STATION
the first and latest line states with the availability, ANOMALY the count and the latest kind, and each clears its form; a
JOURNAL notice carries the level and the occupancy, clears the flag, and serves no station. A class of level 0 sends nothing. Of
several pending classes the one of the highest level goes first, and of one level the first in the class order; in its class the
first station after the one last served is served, and the forms of the others stay (section 10.4). That the arbiter acts at NOTICE_BUILD alone is the model's choice (log entry 7). -/
def Obligations.NoticesAreServedInTurn : Prop :=
  (∀ (s : State) (d : Fin 16) (r : JamReport),
     s.host.htx = .free → s.host.hrdyi = true → s.host.reply = .empty → s.host.linkUp = true → s.host.levels.jam = 3 →
     (∀ i, (s.st i).cond.authRequest = none ∧ (s.st i).cond.authCancel = none) →
     (∀ k : Fin 16, k < d → (s.st (s.host.lastServed.jam + 1 + k)).cond.jam = none) →
     (s.st (s.host.lastServed.jam + 1 + d)).cond.jam = some r →
     exec .noticeBuild s =
       .next { s.updCond (s.host.lastServed.jam + 1 + d) (fun c => { c with jam := none }) with host := { s.host with
         lastServed := { s.host.lastServed with jam := s.host.lastServed.jam + 1 + d }
         htx := .notice (frameBytes 0x42 [stationByte (s.host.lastServed.jam + 1 + d), jamKindValue r.kind,
           causeValue r.cause, causeLocation r.cause, BitVec.ofNat 8 r.credited]) } }) ∧
  (∀ (s : State) (i : StationId),
     s.host.htx = .free → s.host.hrdyi = true → s.host.reply = .empty → s.host.linkUp = true →
     (∀ j, j ≠ i → (s.st j).cond.authRequest = none ∧ (s.st j).cond.authCancel = none) →
     (∀ c, (s.st i).cond.authCancel = some c →
       exec .noticeBuild s = .next { s.updCond i (fun x => { x with authCancel := none }) with host := { s.host with
         lastServed := { s.host.lastServed with auth := i }
         htx := .notice (frameBytes 0x41 (beBytes 2 c.reference ++ [stationByte i, cancelCauseValue c.cause])) } }) ∧
     (∀ r, (s.st i).cond.authCancel = none → (s.st i).cond.authRequest = some r →
       exec .noticeBuild s = .next { s.updCond i (fun x => { x with authRequest := none }) with host := { s.host with
         lastServed := { s.host.lastServed with auth := i }
         htx := .notice (frameBytes 0x40 (beBytes 2 r.reference ++ [stationByte i] ++ beBytes 2 r.sessionNumber
           ++ [authKindValue r.kind] ++ beBytes 3 r.amount ++ beBytes 16 r.token.toNat)) } })) ∧
  (∀ (s : State) (i : StationId),
     s.host.htx = .free → s.host.hrdyi = true → s.host.reply = .empty → s.host.linkUp = true →
     let quiet := fun c : Conditions => c.authRequest = none ∧ c.authCancel = none ∧ c.jam = none ∧ c.session = false ∧
       c.lineFirst = none ∧ c.anomalies = 0
     let c := (s.st i).cond
     (∀ j, j ≠ i → quiet (s.st j).cond) →
     (s.host.journalFlag = false → quiet { c with session := false } → c.session = true →
       (s.host.levels.session = 0 → exec .noticeBuild s = .next s) ∧
       (1 ≤ s.host.levels.session → s.host.levels.session ≤ 3 →
         exec .noticeBuild s = .next { s.updCond i (fun x => { x with session := false }) with host := { s.host with
           lastServed := { s.host.lastServed with session := i }
           htx := .notice (frameBytes 0x43 (stationByte i :: sessionStateValue (s.st i).session.state ::
             beBytes 2 (s.st i).session.number)) } })) ∧
     (∀ f l, s.host.journalFlag = false → quiet { c with lineFirst := none } → c.lineFirst = some f → c.lineLatest = some l →
       (s.host.levels.station = 0 → exec .noticeBuild s = .next s) ∧
       (1 ≤ s.host.levels.station → s.host.levels.station ≤ 3 →
         exec .noticeBuild s = .next { s.updCond i (fun x => { x with lineFirst := none, lineLatest := none }) with
           host := { s.host with
             lastServed := { s.host.lastServed with station := i }
             htx := .notice (frameBytes 0x44 [stationByte i, lineStateValue f, lineStateValue l,
               availabilityValue (s.st i).recovery.availability]) } })) ∧
     (∀ k, s.host.journalFlag = false → quiet { c with anomalies := 0 } → c.anomalies ≠ 0 → c.latestAnomaly = some k →
       (s.host.levels.anomaly = 0 → exec .noticeBuild s = .next s) ∧
       (1 ≤ s.host.levels.anomaly → s.host.levels.anomaly ≤ 3 →
         exec .noticeBuild s = .next { s.updCond i (fun x => { x with anomalies := 0 }) with host := { s.host with
           lastServed := { s.host.lastServed with anomaly := i }
           htx := .notice (frameBytes 0x45 [stationByte i, BitVec.ofNat 8 c.anomalies, anomalyValue k]) } })) ∧
     (s.host.journalFlag = true → quiet c →
       (s.host.levels.journal = 0 → exec .noticeBuild s = .next s) ∧
       (1 ≤ s.host.levels.journal → s.host.levels.journal ≤ 3 →
         exec .noticeBuild s = .next { s with host := { s.host with
           journalFlag := false
           htx := .notice (frameBytes 0x46 (urgencyValue s.journal.level :: beBytes 2 s.journal.records.length)) } }))) ∧
  (∀ (s : State) (c : NoticeClass),
     s.host.htx = .free → s.host.hrdyi = true → s.host.reply = .empty → s.host.linkUp = true →
     1 ≤ classLevel s.host.levels c → classLevel s.host.levels c ≤ 3 →
     (∀ d, d ≠ c → ClassWaits s d → GoesFirst s.host.levels c d) →
     (c = .journal → s.host.journalFlag = true →
       exec .noticeBuild s = .next { s with host := { s.host with
         journalFlag := false
         htx := .notice (frameBytes 0x46 (urgencyValue s.journal.level :: beBytes 2 s.journal.records.length)) } }) ∧
     (∀ n : Fin 16, (∀ k : Fin 16, k < n →
         formPending (s.st (lastServedIn s.host.lastServed c + 1 + k)).cond c = false) →
       formPending (s.st (lastServedIn s.host.lastServed c + 1 + n)).cond c = true →
       let i := lastServedIn s.host.lastServed c + 1 + n
       ∃ (t : State) (kind : Byte) (body : List Byte), exec .noticeBuild s = .next t ∧
         t = { s with
           stations := t.stations
           host := { s.host with htx := .notice (frameBytes kind body), lastServed := t.host.lastServed } } ∧
         kind ∈ noticeKinds c ∧ body[if c = .auth then 2 else 0]? = some (stationByte i) ∧
         lastServedIn t.host.lastServed c = i ∧
         (∀ d, d ≠ c → lastServedIn t.host.lastServed d = lastServedIn s.host.lastServed d) ∧
         (∀ j, j ≠ i → t.st j = s.st j) ∧ t.st i = { s.st i with cond := (t.st i).cond } ∧
         (c ≠ .auth → formPending (t.st i).cond c = false) ∧
         (∀ d, d ≠ c → formPending (t.st i).cond d = formPending (s.st i).cond d)))

/-! ## Requests on the part -/

/-- START makes a STOPPED part RUNNING and is answered OK; in RUNNING or STOPPING it is refused STATE and changes nothing.
STOP is answered OK: in RUNNING the part becomes STOPPING, or STOPPED where no session exists; otherwise nothing changes
(section 2.2). -/
def Obligations.StartAndStopMoveTheOperatingState : Prop :=
  ∀ s : State, lineIdle s →
    (s.host.op = .stopped →
      exec .start s = .next (State.replied { s with host := { s.host with op := .running } } 0x02 .ok [])) ∧
    (s.host.op ≠ .stopped → exec .start s = .next (s.replied 0x02 .state [])) ∧
    (s.host.op = .running → (∀ i, (s.st i).session.state = .none) →
      exec .stop s = .next (State.replied { s with host := { s.host with op := .stopped } } 0x03 .ok [])) ∧
    (∀ i, s.host.op = .running → (s.st i).session.state ≠ .none →
      exec .stop s = .next (State.replied { s with host := { s.host with op := .stopping } } 0x03 .ok [])) ∧
    (s.host.op ≠ .running → exec .stop s = .next (s.replied 0x03 .ok []))

/-- HALT is answered OK and makes the part STOPPED. Every session is NONE with its number kept, every hold NONE, every pending
authorization gone and every waiting pick ended. The journal gains one record for each session that had opened, under numbers that
follow one another; where no session holds HALT or STALL_TIMEOUT as close reason or close pending, which no session ever does
(Obligations.StepKeepsCapacities), no record of another occasion stands between two of HALT's. The tables, the clock, the timer values and
the session number counter do not change. With nothing coming between the credits of its series (log entry 20): the stoppage
conditions stand, and the line states but for answers and messages; a waiting pick gets STOP(NO_SESSION), an AUTHORIZING session
REFUSED(STOPPED), and a pending authorization goes with cancel, cause HALT. The queue of each session closed is taken back onto
the written off meter and its CHARGED entries credited to its account before the closing cent is judged; each record has reason
HALT, the credits and the final spent. The other queues are untouched (sections 2.7, 3.6, 3.7, 4.6, 8.2 and 9.7). The order of the
stations is open (log entry 1). -/
def Obligations.HaltEndsEverySession : Prop :=
  ∀ s : State, lineIdle s → ∃ u : State, exec .halt s = .next (u.replied 0x04 .ok []) ∧
    u.host = { s.host with op := .stopped, journalFlag := u.host.journalFlag } ∧
    (∀ i, (u.st i).session = (if (s.st i).session.state = .none then (s.st i).session
        else Session.ended (s.st i).session.number) ∧
      (u.st i).hold = .none ∧ (u.st i).auth = none ∧ (u.st i).request = .idle) ∧
    (∃ records, u.journal.records = s.journal.records ++ records ∧
      records.length = (allStations.filter fun i => (s.st i).session.state ≠ .none ∧
        (s.st i).session.state ≠ .authorizing).length ∧
      (CloseReasonsRight s → HaltRecordsTogether records) ∧
      (s.journal.nextNumber < 4294967296 → ∀ k r, records[k]? = some r →
        r.journalNumber = (s.journal.nextNumber + k) % 4294967296) ∧
      (s.meanwhile = [] → (∀ r ∈ records, r.reason = .halt) ∧ ∀ i,
        let x := s.st i
        let y := u.st i
        y.recovery.stoppage = x.recovery.stoppage ∧
        y.line = { x.line with latch := y.line.latch, down := y.line.down } ∧
        (∀ p, WaitsFor x p → y.line.latch = .answeredStop .noSession) ∧
        (∀ e, x.auth = some e → EntryCancelled x y e.reference .halt) ∧
        (x.session.state = .none ∨ x.session.state = .authorizing → y.queue = x.queue ∧ y.meters = x.meters) ∧
        (x.session.state = .authorizing → x.line.present = true → x.line.down.length < 4 →
          y.line.down = x.line.down ++ [.refused .stopped]) ∧
        (x.session.state = .opened ∨ x.session.state = .stalled ∨ x.session.state = .draining →
          y.queue = [] ∧
          y.meters.writtenOff % 1000000000 =
            (x.meters.writtenOff + (x.queue.map (·.impressions)).sum) % 1000000000 ∧
          y.meters.sessionsClosed = (x.meters.sessionsClosed + 1) % 1000000000 ∧
          ∀ n a, x.session.payer = some (.account n) → findAccount s.accounts n = some a → a.number = n →
            (∀ j, j ≠ i → (s.st j).session.payer ≠ some (.account n)) → x.session.spent = x.session.fineTotal / 100 →
            x.session.creditedImpressions ≤ 16777215 →
            let total := x.session.fineTotal - chargedPrices x.queue
            let balance := a.balance + unitsReturned x.session (chargedPrices x.queue)
            balance ≤ 9999999 →
            let posted : Bool := 50 ≤ total % 100 ∧ floorOf s.accounts.ranges n ≤ balance - 1
            let cent : Nat := if posted then 1 else 0
            findAccount u.accounts n = some { a with
              balance := balance - cent, openSessions := a.openSessions - 1
              lifetimeSpend := (a.lifetimeSpend + (total / 100 + cent)) % 1000000000, lastUse := s.journal.clock } ∧
            ∃ r ∈ records, r.station = i ∧ r.sessionNumber = x.session.number ∧ r.payer = .account n ∧
              r.spent = total / 100 + cent ∧
              r.cent = (if total % 100 < 50 then .none else if posted then .posted else .waived) ∧
              r.creditedImpressions =
                min 16777215 (x.session.creditedImpressions + chargedImpressions x.queue)))) ∧
    u.charge = s.charge ∧ u.accounts.ranges = s.accounts.ranges ∧ u.cards.policy = s.cards.policy ∧
    u.cards.deny = s.cards.deny ∧ u.journal.clock = s.journal.clock ∧ u.journal.clockUnset = s.journal.clockUnset ∧
    u.nextSession = s.nextSession ∧ u.slot = s.slot ∧ u.pending = s.pending

/-- SET TIMERS brings each value into its range and is answered OK with the six values as now held; no running timer changes
(section 10.6). SET LEVELS sets the five levels and is answered OK with the six as now held, AUTH's 3 first; a value above 3
is refused RANGE and changes nothing. No condition changes (section 10.4). -/
def Obligations.SettingsOfTimersAndLevels : Prop :=
  (∀ (idle pick transit stall auth silence : BitVec 16) (s : State), lineIdle s →
     ∃ (v : TimerValues) (body : List Byte),
       exec (.setTimers idle pick transit stall auth silence) s =
         .next (State.replied { s with host := { s.host with timers := v } } 0x05 .ok body) ∧
       v = ⟨max 10 (min 600 idle.toNat), max 5 (min 60 pick.toNat), max 5 (min 120 transit.toNat),
         max 1 (min 120 stall.toNat), max 5 (min 60 auth.toNat), max 5 (min 300 silence.toNat)⟩ ∧
       bodyIs body [(2, v.idle), (2, v.pickWait), (2, v.transit), (2, v.stall), (2, v.auth), (2, v.silence)]) ∧
  (∀ (jam session station anomaly journal : Byte) (s : State), lineIdle s →
     (jam.toNat ≤ 3 → session.toNat ≤ 3 → station.toNat ≤ 3 → anomaly.toNat ≤ 3 → journal.toNat ≤ 3 →
       exec (.setLevels jam session station anomaly journal) s =
         .next (State.replied { s with host := { s.host with
           levels := ⟨jam.toNat, session.toNat, station.toNat, anomaly.toNat, journal.toNat⟩ } } 0x06 .ok
           [3, jam, session, station, anomaly, journal])) ∧
     (3 < jam.toNat ∨ 3 < session.toNat ∨ 3 < station.toNat ∨ 3 < anomaly.toNat ∨ 3 < journal.toNat →
       exec (.setLevels jam session station anomaly journal) s = .next (s.replied 0x06 .range [])))

/-- SET CLOCK loads the clock, clears the clock-unset flag and is answered OK. A second grows the clock by one, and
4,294,967,295 passes to 0; the flag stays as it is (section 8.5). That the clock grows at SECONDS_CLOCK alone is the model's
choice (log entry 4). -/
def Obligations.ClockIsSetAndGrows : Prop :=
  ∀ (value : BitVec 32) (s : State),
    (lineIdle s → exec (.setClock value) s =
      .next (State.replied { s with journal := { s.journal with clock := value.toNat, clockUnset := false } } 0x07 .ok
        [])) ∧
    (s.journal.clock < 4294967295 →
      exec .secondsClock s = .next { s with journal := { s.journal with clock := s.journal.clock + 1 } }) ∧
    (s.journal.clock = 4294967295 →
      exec .secondsClock s = .next { s with journal := { s.journal with clock := 0 } })

/-- STATUS changes nothing and is answered OK with the fields of its layout (section 10.8, section 11.3). With requests behind it in
the queue: Obligations.FrameSentFreesTheLine. -/
def Obligations.StatusReportsThePart : Prop :=
  ∀ s : State, lineIdle s → ∃ body : List Byte, exec .status s = .next (s.replied 0x01 .ok body) ∧
    bodyIs body (statusFields s)

/-! ## The charge unit's tables and prices -/

/-- SET TARIFF, in STOPPED and with every field in range, stores the price or UNSET in the entry named and leaves every other
entry and the tiers alone; its reply carries the entry. Outside STOPPED it is refused STATE, and with a field out of range
RANGE, changing nothing (section 3.2). SET TIERS, in STOPPED and with its thresholds in order, replaces the four tiers of the
class: each discount at most 90, and 0 for an unused tier. Outside STOPPED it is refused STATE, otherwise RANGE, changing
nothing (section 3.3). -/
def Obligations.SetTariffAndSetTiersWriteTheTables : Prop :=
  (∀ (c m k : Byte) (p : BitVec 16) (s : State), lineIdle s →
     (s.host.op ≠ .stopped → exec (.setTariff c m k p) s = .next (s.replied 0x08 .state [])) ∧
     (s.host.op = .stopped → 7 < c.toNat ∨ 7 < m.toNat ∨ 1 < k.toNat ∨ (60000 < p.toNat ∧ p.toNat ≠ 0xFFFF) →
       exec (.setTariff c m k p) s = .next (s.replied 0x08 .range [])) ∧
     (∀ (c' m' : Fin 8) (k' : Colour), s.host.op = .stopped → c.toNat = c'.val → m.toNat = m'.val →
       k.toNat = (match k' with | .mono => 0 | .colour => 1) → p.toNat ≤ 60000 ∨ p.toNat = 0xFFFF →
       ∃ (u : ChargeUnit) (body : List Byte),
         exec (.setTariff c m k p) s = .next (State.replied { s with charge := u } 0x08 .ok body) ∧
         bodyIs body [(1, c.toNat), (1, m.toNat), (1, k.toNat), (2, p.toNat)] ∧ u.tiers = s.charge.tiers ∧
         basePrice u c' m' k' = (if p.toNat = 0xFFFF then none else some p.toNat) ∧
         ∀ c'' m'' k'', (c'', m'', k'') ≠ (c', m', k') → basePrice u c'' m'' k'' = basePrice s.charge c'' m'' k'')) ∧
  (∀ (c d0 d1 d2 d3 : Byte) (t1 t2 t3 : BitVec 24) (s : State), lineIdle s →
     (s.host.op ≠ .stopped → exec (.setTiers c d0 t1 d1 t2 d2 t3 d3) s = .next (s.replied 0x09 .state [])) ∧
     (s.host.op = .stopped →
       7 < c.toNat ∨ t1.toNat = 1 ∨ 999999 < t1.toNat ∨ t2.toNat = 1 ∨ 999999 < t2.toNat ∨ t3.toNat = 1 ∨
         999999 < t3.toNat ∨ (t2.toNat ≠ 0 ∧ t2.toNat ≤ t1.toNat) ∨ (t3.toNat ≠ 0 ∧ t3.toNat ≤ t2.toNat) ∨
         (t2.toNat ≠ 0 ∧ t1.toNat = 0) ∨ (t3.toNat ≠ 0 ∧ t2.toNat = 0) →
       exec (.setTiers c d0 t1 d1 t2 d2 t3 d3) s = .next (s.replied 0x09 .range [])) ∧
     (∀ c' : Fin 8, s.host.op = .stopped → c.toNat = c'.val →
       (t1.toNat = 0 ∧ t2.toNat = 0 ∧ t3.toNat = 0) ∨
         (2 ≤ t1.toNat ∧ t1.toNat ≤ 999999 ∧ t2.toNat = 0 ∧ t3.toNat = 0) ∨
         (2 ≤ t1.toNat ∧ t1.toNat < t2.toNat ∧ t2.toNat ≤ 999999 ∧ t3.toNat = 0) ∨
         (2 ≤ t1.toNat ∧ t1.toNat < t2.toNat ∧ t2.toNat < t3.toNat ∧ t3.toNat ≤ 999999) →
       ∃ (v : TierSet) (body : List Byte),
         exec (.setTiers c d0 t1 d1 t2 d2 t3 d3) s =
           .next (State.replied { s with charge := { s.charge with tiers := s.charge.tiers.set c' v } } 0x09 .ok body) ∧
         v = ⟨min 90 d0.toNat, ⟨t1.toNat, if t1.toNat = 0 then 0 else min 90 d1.toNat⟩,
           ⟨t2.toNat, if t2.toNat = 0 then 0 else min 90 d2.toNat⟩,
           ⟨t3.toNat, if t3.toNat = 0 then 0 else min 90 d3.toNat⟩⟩ ∧
         bodyIs body [(1, c.toNat), (1, v.discount0), (3, v.tier1.threshold), (1, v.tier1.discount),
           (3, v.tier2.threshold), (1, v.tier2.discount), (3, v.tier3.threshold), (1, v.tier3.discount)]))

/-! ## Ranges and accounts -/

/-- SET RANGE outside STOPPED is refused STATE. In STOPPED, an entry above 7, an operation other than 0 and 1, or a used entry
with a field out of range is refused RANGE. A span that meets another used entry is refused CONFLICT with cause 1 and the
lowest such entry (sections 6.1 and 11.3). Nothing changes. SET RANGE in STOPPED that passes the checks before it makes the
floor check on the table as it would stand. Where every stored account keeps at least its floor, the entry is stored, a
PREPAID one with overdraft 0, or cleared, and the reply carries it; where one would not, the request is refused CONFLICT with
cause 2 and the lowest account number that fails, changing nothing (sections 6.1 and 11.3). -/
def Obligations.SetRangeChecksThenStores : Prop :=
  (∀ (e o k c : Byte) (low high overdraft : BitVec 24) (s : State), lineIdle s →
     (s.host.op ≠ .stopped → exec (.setRange e o low high k c overdraft) s = .next (s.replied 0x0A .state [])) ∧
     (s.host.op = .stopped →
       7 < e.toNat ∨ 1 < o.toNat ∨ (o.toNat = 1 ∧ (low.toNat = 0 ∨ high.toNat < low.toNat ∨ k.toNat = 0 ∨ 2 < k.toNat ∨
         7 < c.toNat ∨ 99999 < overdraft.toNat)) →
       exec (.setRange e o low high k c overdraft) s = .next (s.replied 0x0A .range [])) ∧
     (∀ (e' x : Fin 8) (r : Range), s.host.op = .stopped → e.toNat = e'.val → o.toNat = 1 → 1 ≤ low.toNat →
       low.toNat ≤ high.toNat → 1 ≤ k.toNat → k.toNat ≤ 2 → c.toNat ≤ 7 → overdraft.toNat ≤ 99999 →
       x ≠ e' → s.accounts.ranges[x] = some r → low.toNat ≤ r.high → r.low ≤ high.toNat →
       (∀ (y : Fin 8) (q : Range), y < x → y ≠ e' → s.accounts.ranges[y] = some q →
         q.high < low.toNat ∨ high.toNat < q.low) →
       exec (.setRange e o low high k c overdraft) s =
         .next (s.replied 0x0A .conflict [1, 0, 0, BitVec.ofNat 8 x.val]))) ∧
  (∀ (e o k c : Byte) (low high overdraft : BitVec 24) (s : State) (e' : Fin 8) (entry : Option Range), lineIdle s →
     s.host.op = .stopped → e.toNat = e'.val →
     (o.toNat = 0 ∧ entry = none) ∨
       (∃ (k' : RangeKind) (c' : Fin 8), o.toNat = 1 ∧ 1 ≤ low.toNat ∧ low.toNat ≤ high.toNat ∧
         k.toNat = (match k' with | .prepaid => 1 | .postpaid => 2) ∧ c.toNat = c'.val ∧ overdraft.toNat ≤ 99999 ∧
         entry = some ⟨low.toNat, high.toNat, k', c', match k' with | .prepaid => 0 | .postpaid => overdraft.toNat⟩ ∧
         ∀ (x : Fin 8) (r : Range), x ≠ e' → s.accounts.ranges[x] = some r → r.high < low.toNat ∨ high.toNat < r.low) →
     ((∀ a ∈ s.accounts.accounts, floorOf (s.accounts.ranges.set e' entry) a.number ≤ a.balance) →
       ∃ body : List Byte,
         exec (.setRange e o low high k c overdraft) s =
           .next (State.replied { s with accounts := { s.accounts with ranges := s.accounts.ranges.set e' entry } } 0x0A
             .ok body) ∧
         bodyIs body (match entry with
           | none => [(1, e'.val), (1, 0), (3, 0), (3, 0), (1, 0), (1, 0), (3, 0)]
           | some r => [(1, e'.val), (1, 1), (3, r.low), (3, r.high), (1, k.toNat), (1, c.toNat), (3, r.overdraft)])) ∧
     (∀ a ∈ s.accounts.accounts, a.balance < floorOf (s.accounts.ranges.set e' entry) a.number →
       (∀ b ∈ s.accounts.accounts, b.balance < floorOf (s.accounts.ranges.set e' entry) b.number →
         a.number ≤ b.number) →
       ∃ body : List Byte, exec (.setRange e o low high k c overdraft) s = .next (s.replied 0x0A .conflict body) ∧
         bodyIs body [(1, 2), (3, a.number)]))

/-- ACCOUNT PUT for a number not stored creates its record when every value is in range, the table has room and the balance is
not below the floor; the reply carries the new record. A value out of range is refused RANGE, a full table FULL, and a balance
below the floor RANGE, changing nothing (section 6.4). ACCOUNT PUT for a stored number replaces balance, state and max sessions
and keeps the rest; a balance below the floor is refused RANGE and a max sessions below the open sessions CONFLICT, changing
nothing. Where it turns the account from ACTIVE to FROZEN, the close reason FROZEN reaches the sessions that pay from it, as
ACCOUNT FREEZE has it reach them (section 6.4). The tariff class and overdraft that a reply shows for an account in no range are
free values (log entry 10), the order of the stations is open (log entry 1), and what comes before a close is on the tape of the
gaps (log entry 20). -/
def Obligations.AccountPutStoresARecord : Prop :=
  (∀ (number : BitVec 24) (balance : BitVec 32) (st max : Byte) (s : State), lineIdle s →
     (number.toNat = 0 ∨ 1 < st.toNat ∨ max.toNat = 0 ∨ 4 < max.toNat ∨ balance.toInt < -99999 ∨
         9999999 < balance.toInt →
       exec (.accountPut number balance st max) s = .next (s.replied 0x10 .range [])) ∧
     (number.toNat ≠ 0 → st.toNat ≤ 1 → 1 ≤ max.toNat → max.toNat ≤ 4 → -99999 ≤ balance.toInt →
       balance.toInt ≤ 9999999 → findAccount s.accounts number.toNat = none →
       (2048 ≤ s.accounts.accounts.length →
         exec (.accountPut number balance st max) s = .next (s.replied 0x10 .full [])) ∧
       (s.accounts.accounts.length < 2048 → balance.toInt < floorOf s.accounts.ranges number.toNat →
         exec (.accountPut number balance st max) s = .next (s.replied 0x10 .range [])) ∧
       (s.accounts.accounts.length < 2048 → floorOf s.accounts.ranges number.toNat ≤ balance.toInt →
         ∃ (table : List Account) (body : List Byte),
           exec (.accountPut number balance st max) s =
             .next (State.replied { s with accounts := { s.accounts with accounts := table } } 0x10 .ok body) ∧
           findAccount { s.accounts with accounts := table } number.toNat =
             some ⟨number.toNat, balance.toInt, st = 1, max.toNat, 0, 0, s.journal.clock⟩ ∧
           table.length = s.accounts.accounts.length + 1 ∧
           (∀ n, n ≠ number.toNat → findAccount { s.accounts with accounts := table } n = findAccount s.accounts n) ∧
           bodyIs body (accountFields s.accounts
             ⟨number.toNat, balance.toInt, st = 1, max.toNat, 0, 0, s.journal.clock⟩)))) ∧
  (∀ (number : BitVec 24) (balance : BitVec 32) (st max : Byte) (s : State) (a : Account), lineIdle s →
     number.toNat ≠ 0 → st.toNat ≤ 1 → 1 ≤ max.toNat → max.toNat ≤ 4 → -99999 ≤ balance.toInt →
     balance.toInt ≤ 9999999 → findAccount s.accounts number.toNat = some a →
     let stored := { a with balance := balance.toInt, frozen := st = 1, maxSessions := max.toNat }
     (balance.toInt < floorOf s.accounts.ranges number.toNat →
       exec (.accountPut number balance st max) s = .next (s.replied 0x10 .range [])) ∧
     (floorOf s.accounts.ranges number.toNat ≤ balance.toInt → max.toNat < a.openSessions →
       exec (.accountPut number balance st max) s = .next (s.replied 0x10 .conflict [])) ∧
     (floorOf s.accounts.ranges number.toNat ≤ balance.toInt → a.openSessions ≤ max.toNat →
       (a.frozen = true ∨ st.toNat = 0) →
       ∃ (table : List Account) (body : List Byte),
         exec (.accountPut number balance st max) s =
           .next (State.replied { s with accounts := { s.accounts with accounts := table } } 0x10 .ok body) ∧
         findAccount { s.accounts with accounts := table } number.toNat = some stored ∧
         (∀ n, n ≠ number.toNat → findAccount { s.accounts with accounts := table } n = findAccount s.accounts n) ∧
         bodyIs body (accountFields s.accounts stored)) ∧
     (floorOf s.accounts.ranges number.toNat ≤ balance.toInt → a.openSessions ≤ max.toNat →
       a.frozen = false → st.toNat = 1 → ∃ (u : State) (body : List Byte),
         exec (.accountPut number balance st max) s = .next (u.replied 0x10 .ok body) ∧
         (s.meanwhile = [] → Untouched s u) ∧
         (∃ b, findAccount u.accounts number.toNat = some b ∧ b.frozen = true ∧ b.maxSessions = max.toNat ∧
           bodyIs body (accountFields u.accounts b)) ∧
         ((∀ i, (s.st i).session.payer = some (.account number.toNat) → (s.st i).session.state ≠ .opened) →
           findAccount u.accounts number.toNat = some stored) ∧
         SessionsSentFrozen number.toNat s u))

/-- ACCOUNT ADJUST on a stored account: a result below the floor or above 9,999,999 is refused RANGE and changes nothing;
otherwise the balance becomes the result, nothing else changes, and the reply is OK with the record (sections 6.4 and 11.3).
The tariff class and overdraft that a reply shows for an account in no range are free values, the model's choice (log entry
10). -/
def Obligations.AccountAdjustMovesTheBalance : Prop :=
  ∀ (number : BitVec 24) (amount : BitVec 32) (s : State) (a : Account), lineIdle s → number.toNat ≠ 0 →
    findAccount s.accounts number.toNat = some a →
    (a.balance + amount.toInt < floorOf s.accounts.ranges number.toNat ∨ 9999999 < a.balance + amount.toInt →
      exec (.accountAdjust number amount) s = .next (s.replied 0x12 .range [])) ∧
    (floorOf s.accounts.ranges number.toNat ≤ a.balance + amount.toInt → a.balance + amount.toInt ≤ 9999999 →
      ∃ (table : List Account) (body : List Byte),
        exec (.accountAdjust number amount) s =
          .next (State.replied { s with accounts := { s.accounts with accounts := table } } 0x12 .ok body) ∧
        findAccount { s.accounts with accounts := table } number.toNat =
          some { a with balance := a.balance + amount.toInt } ∧
        (∀ n, n ≠ number.toNat → findAccount { s.accounts with accounts := table } n = findAccount s.accounts n) ∧
        bodyIs body (accountFields s.accounts { a with balance := a.balance + amount.toInt }))

/-- ACCOUNT GET on a stored account changes nothing and reports its record. ACCOUNT THAW makes a FROZEN account ACTIVE, with
no session changed, and leaves an ACTIVE one as it is. ACCOUNT REMOVE is refused BUSY while open sessions are above 0, and
otherwise removes the record, whose reply carries it as it stood (section 6.4). The tariff class and overdraft that a reply
shows for an account in no range are free values (log entry 10). -/
def Obligations.AccountGetThawAndRemove : Prop :=
  ∀ (number : BitVec 24) (s : State) (a : Account), lineIdle s → number.toNat ≠ 0 →
    findAccount s.accounts number.toNat = some a →
    (∃ body, exec (.accountGet number) s = .next (s.replied 0x11 .ok body) ∧ bodyIs body (accountFields s.accounts a)) ∧
    (∃ (table : List Account) (body : List Byte),
      exec (.accountThaw number) s =
        .next (State.replied { s with accounts := { s.accounts with accounts := table } } 0x14 .ok body) ∧
      findAccount { s.accounts with accounts := table } number.toNat = some { a with frozen := false } ∧
      (∀ n, n ≠ number.toNat → findAccount { s.accounts with accounts := table } n = findAccount s.accounts n) ∧
      (a.frozen = false → table = s.accounts.accounts) ∧
      bodyIs body (accountFields s.accounts { a with frozen := false })) ∧
    (0 < a.openSessions → exec (.accountRemove number) s = .next (s.replied 0x15 .busy [])) ∧
    (a.openSessions = 0 → ∃ (table : List Account) (body : List Byte),
      exec (.accountRemove number) s =
        .next (State.replied { s with accounts := { s.accounts with accounts := table } } 0x15 .ok body) ∧
      findAccount { s.accounts with accounts := table } number.toNat = none ∧
      (∀ n, n ≠ number.toNat → findAccount { s.accounts with accounts := table } n = findAccount s.accounts n) ∧
      bodyIs body (accountFields s.accounts a))

/-- ACCOUNT FREEZE of a stored ACTIVE account makes it FROZEN and is answered OK with the record as it then stands. At the
stations whose session pays from it: a STALLED session keeps FROZEN as close pending unless it holds a reason; a DRAINING one
keeps its reason; an OPEN one with a CHARGED entry in flight goes to DRAINING with reason FROZEN, and one without closes, a pick
raised before the close being stopped CLOSING (section 6.4). Every other station is untouched. A FROZEN account changes nothing.
The tariff class and overdraft that a reply shows for an account in no range are free values (log entry 10), the order of the
stations is open (log entry 1), and that a pick may come before the close, by the tape of the gaps, is the model's choice (log
entry 20). -/
def Obligations.AccountFreezeReachesItsSessions : Prop :=
  ∀ (number : BitVec 24) (s : State) (a : Account), lineIdle s → number.toNat ≠ 0 →
    findAccount s.accounts number.toNat = some a →
    (a.frozen = true → ∃ body, exec (.accountFreeze number) s = .next (s.replied 0x13 .ok body) ∧
      bodyIs body (accountFields s.accounts a)) ∧
    (a.frozen = false → ∃ (u : State) (body : List Byte),
      exec (.accountFreeze number) s = .next (u.replied 0x13 .ok body) ∧
      (∃ b, findAccount u.accounts number.toNat = some b ∧ b.frozen = true ∧ bodyIs body (accountFields u.accounts b)) ∧
      (s.meanwhile = [] → Untouched s u) ∧ SessionsSentFrozen number.toNat s u ∧
      ∀ i p more, (s.st i).session.payer = some (.account number.toNat) → (s.st i).session.state = .opened →
        (∀ j, j ≠ i → (s.st j).session.payer ≠ some (.account number.toNat)) →
        (∀ e ∈ (s.st i).queue, e.kind ≠ .charged) → s.inFrame i = true → (s.st i).line.present = true →
        (s.st i).line.latch = .idle → (s.st i).request = .idle → s.meanwhile = [.pick i p] :: more →
        (u.st i).line.latch = .answeredStop .closing ∧ (u.st i).line.serial = ((s.st i).line.serial + 1) % 256 ∧
          (u.st i).queue = (s.st i).queue ∧ u.meanwhile = more)

/-! ## Cards -/

/-- SET CARD POLICY outside STOPPED is refused STATE. In STOPPED a field out of its range is refused RANGE, and a stand-in cap
below the exposure CONFLICT with the exposure; otherwise the policy takes the fields, with a stand-in minimum of 0 where the
limit is 0, and the reply carries it. A refused request changes nothing (section 7.1). -/
def Obligations.CardPolicyIsReplaced : Prop :=
  (∀ (h i t l m : BitVec 16) (c : Byte) (cap : BitVec 24) (s : State), lineIdle s →
     (s.host.op ≠ .stopped → exec (.setCardPolicy h i t c l m cap) s = .next (s.replied 0x0B .state [])) ∧
     (s.host.op = .stopped →
       (1 ≤ h.toNat ∧ h.toNat ≤ 99) ∨ 50000 < h.toNat ∨ i.toNat < 100 ∨ 50000 < i.toNat ∨ 50000 < t.toNat ∨
         7 < c.toNat ∨ (1 ≤ l.toNat ∧ l.toNat ≤ 99) ∨ 10000 < l.toNat ∨ 100000 < cap.toNat ∨
         (100 ≤ l.toNat ∧ (m.toNat = 0 ∨ l.toNat < m.toNat)) →
       exec (.setCardPolicy h i t c l m cap) s = .next (s.replied 0x0B .range [])) ∧
     (∀ c' : Fin 8, s.host.op = .stopped → h.toNat = 0 ∨ (100 ≤ h.toNat ∧ h.toNat ≤ 50000) → 100 ≤ i.toNat →
       i.toNat ≤ 50000 → t.toNat ≤ 50000 → c.toNat = c'.val → cap.toNat ≤ 100000 →
       l.toNat = 0 ∨ (100 ≤ l.toNat ∧ l.toNat ≤ 10000 ∧ 1 ≤ m.toNat ∧ m.toNat ≤ l.toNat) →
       (cap.toNat < (s.cards.standIn.map (·.amount)).sum → ∃ body,
         exec (.setCardPolicy h i t c l m cap) s = .next (s.replied 0x0B .conflict body) ∧
         bodyIs body [(3, (s.cards.standIn.map (·.amount)).sum)]) ∧
       ((s.cards.standIn.map (·.amount)).sum ≤ cap.toNat → ∃ (v : CardPolicy) (body : List Byte),
         exec (.setCardPolicy h i t c l m cap) s =
           .next (State.replied { s with cards := { s.cards with policy := v } } 0x0B .ok body) ∧
         v = ⟨h.toNat, i.toNat, t.toNat, c', l.toNat, if l.toNat = 0 then 0 else m.toNat, cap.toNat⟩ ∧
         bodyIs body [(2, v.initialHold), (2, v.increment), (2, v.threshold), (1, v.tariffClass.val),
           (2, v.standInLimit), (2, v.standInMinimum), (3, v.standInCap)])))

/-- CARD POLICY GET changes nothing and carries the seven fields, the exposure and the number of stand-in entries. AUTH
PENDING carries the entries of the table, each once, with its reference, station, session number, kind, amount and time left
in whole seconds, and changes nothing but the model's open choices: the manual gives the entries no order, and the model
leaves it open (log entry 9; sections 7.1 and 7.2). -/
def Obligations.CardTablesAreReported : Prop :=
  ∀ s : State, lineIdle s →
    (∃ body, exec .cardPolicyGet s = .next (s.replied 0x0C .ok body) ∧
      bodyIs body [(2, s.cards.policy.initialHold), (2, s.cards.policy.increment), (2, s.cards.policy.threshold),
        (1, s.cards.policy.tariffClass.val), (2, s.cards.policy.standInLimit), (2, s.cards.policy.standInMinimum),
        (3, s.cards.policy.standInCap), (3, (s.cards.standIn.map (·.amount)).sum), (1, s.cards.standIn.length)]) ∧
    (∃ (order : List StationId) (u : State) (body : List Byte),
      exec .authPending s = .next (u.replied 0x19 .ok body) ∧
      u = { s with choiceTape := u.choiceTape, choiceCount := u.choiceCount } ∧
      order.Perm (allStations.filter fun i => (s.st i).auth.isSome) ∧
      bodyIs body ((1, order.length) ::
        order.flatMap fun i =>
          match (s.st i).auth with
          | none => []
          | some e => [(2, e.reference), (1, i.val), (2, e.sessionNumber),
              (1, match e.kind with | .initial => 1 | .increment => 2), (3, e.amount), (1, e.left / 2000)]))

/-- AUTH RESULT with reference 0 or an outcome that is neither APPROVED nor DECLINED is refused RANGE; a reference that no
entry holds is answered LATE. Neither changes anything (section 7.3). AUTH RESULT for the entry of station `i`, the one that
holds its reference. The entry is removed and no cancel is raised; the reply carries the station, the kind, the outcome as
taken and the amount applied: the approved amount, at most the requested one, or 0 for a decline, which an approval of 0 is
too. For an INITIAL entry of an AUTHORIZING session, an approval opens the session with that authority; with the stoppage condition
set and the hold NONE or REQUESTED it opens into STALLED, keeping a close pending; otherwise a close pending closes it at once with
that reason. A decline returns it to NONE with REFUSED(DECLINED). For an INCREMENT entry, an approval raises the authority and
counts one increment, and a decline sets the no-more-increments flag. A pick that waits is then evaluated again: granted where the
authority covers it, waiting on with a further increment asked where that is open, and otherwise stopped FUNDS. No other station
changes (sections 2.3, 4.3, 5.2, 7.3 and 7.4). -/
def Obligations.AuthResultIsApplied : Prop :=
  (∀ (reference : BitVec 16) (outcome : Byte) (amount : BitVec 24) (s : State), lineIdle s →
     (reference.toNat = 0 ∨ outcome.toNat = 0 ∨ 2 < outcome.toNat →
       exec (.authResult reference outcome amount) s = .next (s.replied 0x18 .range [])) ∧
     (reference.toNat ≠ 0 → outcome.toNat = 1 ∨ outcome.toNat = 2 →
       (∀ i e, (s.st i).auth = some e → e.reference ≠ reference.toNat) →
       exec (.authResult reference outcome amount) s = .next (s.replied 0x18 .late []))) ∧
  (∀ (reference : BitVec 16) (outcome : Byte) (amount : BitVec 24) (s : State) (i : StationId) (e : AuthEntry) (n : Nat),
     lineIdle s → reference.toNat ≠ 0 → outcome.toNat = 1 ∨ outcome.toNat = 2 → (s.st i).auth = some e →
     e.reference = reference.toNat → (∀ j x, (s.st j).auth = some x → x.reference = reference.toNat → j = i) →
     n = (if outcome.toNat = 1 then min amount.toNat e.amount else 0) →
     let opened := { (s.st i).session with
       state := .opened, authority := some n, increments := 0, noMoreIncrements := false, openTime := some s.journal.clock }
     let raised := { (s.st i).session with
       authority := some ((s.st i).session.authority.getD 0 + n)
       increments := min 65535 ((s.st i).session.increments + 1) }
     ∃ (u : State) (body : List Byte),
       exec (.authResult reference outcome amount) s = .next (u.replied 0x18 .ok body) ∧
       bodyIs body [(1, i.val), (1, match e.kind with | .initial => 1 | .increment => 2), (1, if n = 0 then 2 else 1),
         (3, n)] ∧
       LocalTo i s u ∧ (u.st i).cond.authCancel = (s.st i).cond.authCancel ∧
       ((s.st i).request = .idle → (u.st i).auth = none) ∧
       (e.kind = .initial → (s.st i).session.state = .authorizing → (s.st i).request = .idle → n ≠ 0 →
         ((s.st i).recovery.stoppage = none ∨ (s.st i).hold = .held ∨ (s.st i).hold = .releasing →
           ((s.st i).session.closePending = none → (u.st i).session = opened) ∧
           (∀ r payer, (s.st i).session.closePending = some r → (s.st i).session.payer = some payer →
             (∀ f ∈ (s.st i).queue, f.kind ≠ .charged) → ∃ (cent : ClosingCent) (spent : Nat),
             FinalSpent s opened cent spent ∧ (u.st i).session = Session.ended (s.st i).session.number ∧
             u.journal.records = s.journal.records ++ [closeRecord s i opened payer r cent spent] ∧
             ((s.st i).line.present = true → (s.st i).line.down.length < 3 →
               (u.st i).line.down = (s.st i).line.down ++ [.opened .card n, .closed spent cent]))) ∧
         ((s.st i).recovery.stoppage ≠ none → (s.st i).hold = .none ∨ (s.st i).hold = .requested →
           (u.st i).session = { opened with
             state := .stalled, stallCount := min 65535 (opened.stallCount + 1), closeReason := none } ∧
           (u.st i).recovery.stallTimer = some (s.host.timers.stall * 60 * 2000) ∧
           (u.st i).recovery.stoppage = (s.st i).recovery.stoppage ∧
           (u.st i).meters = { (s.st i).meters with stalls := ((s.st i).meters.stalls + 1) % 1000000000 })) ∧
       (e.kind = .initial → (s.st i).session.state = .authorizing → n = 0 →
         (u.st i).session = Session.ended (s.st i).session.number ∧
         ((s.st i).line.present = true → (s.st i).line.down.length < 4 →
           (u.st i).line.down = (s.st i).line.down ++ [.refused .declined])) ∧
       (e.kind = .increment → (s.st i).request = .idle →
         (n ≠ 0 → (u.st i).session = raised) ∧
         (n = 0 → (u.st i).session = { (s.st i).session with noMoreIncrements := true })) ∧
       (e.kind = .increment → ∀ p price, WaitsFor (s.st i) p → CardAffords s (s.st i) p price →
         let wanted := (s.st i).session.spent + unitsPosted (s.st i).session price
         let asks := raised.noMoreIncrements = false ∧ s.host.linkUp = true ∧
           raised.authority.getD 0 + s.cards.policy.increment ≤ 200000
         (n ≠ 0 → wanted ≤ raised.authority.getD 0 → (u.st i).request = .idle ∧ (u.st i).line.latch = .answeredGo ∧
           (u.st i).queue = (s.st i).queue ++ [sheetEntry s .charged p price] ∧
           (u.st i).session = chargedSession raised p price) ∧
         (n ≠ 0 → raised.authority.getD 0 < wanted →
           (u.st i).session = raised ∧ (u.st i).queue = (s.st i).queue ∧
           (¬ asks → (u.st i).request = .idle ∧ (u.st i).line.latch = .answeredStop .funds) ∧
           (asks → (∃ m c k, (s.st i).request = .waiting m p c k ∧ (u.st i).request = .waiting m p .funds k) ∧
             ∃ f, (u.st i).auth = some f ∧ f.kind = .increment ∧ f.amount = s.cards.policy.increment)) ∧
         (n = 0 → (s.st i).session.authority.getD 0 < wanted →
           (u.st i).request = .idle ∧ (u.st i).line.latch = .answeredStop .funds ∧ (u.st i).queue = (s.st i).queue ∧
           (u.st i).session = { (s.st i).session with noMoreIncrements := true })))

/-- The deny list (section 7.7): DENY ADD adds a token that is not on the list, changes nothing for one that is, and is
refused FULL at 256 tokens; DENY REMOVE removes a token, or is refused NOT_FOUND; DENY CLEAR empties the list. Each OK reply
carries the number of tokens after the request, and nothing else changes. -/
def Obligations.DenyListIsChanged : Prop :=
  ∀ (t : Token) (s : State), lineIdle s →
    (t ∈ s.cards.deny → ∃ body, exec (.denyAdd t) s = .next (s.replied 0x1A .ok body) ∧
      bodyIs body [(2, s.cards.deny.length)]) ∧
    (t ∉ s.cards.deny → 256 ≤ s.cards.deny.length → exec (.denyAdd t) s = .next (s.replied 0x1A .full [])) ∧
    (t ∉ s.cards.deny → s.cards.deny.length < 256 → ∃ (l : List Token) (body : List Byte),
      exec (.denyAdd t) s = .next (State.replied { s with cards := { s.cards with deny := l } } 0x1A .ok body) ∧
      (∀ x, x ∈ l ↔ x = t ∨ x ∈ s.cards.deny) ∧ bodyIs body [(2, s.cards.deny.length + 1)]) ∧
    (t ∉ s.cards.deny → exec (.denyRemove t) s = .next (s.replied 0x1B .notFound [])) ∧
    (t ∈ s.cards.deny → ∃ (l : List Token) (body : List Byte),
      exec (.denyRemove t) s = .next (State.replied { s with cards := { s.cards with deny := l } } 0x1B .ok body) ∧
      (∀ x, x ∈ l ↔ x ≠ t ∧ x ∈ s.cards.deny) ∧ bodyIs body [(2, l.length)]) ∧
    exec .denyClear s = .next (State.replied { s with cards := { s.cards with deny := [] } } 0x1C .ok [0, 0])

/-- STANDIN LIST carries the number of entries, the exposure, and at most 8 entries from the start position on, in list order;
a start position above 31 is refused RANGE, one at or beyond the number of entries gives none; nothing changes (R136). STANDIN
CLEAR: no entry holding the token is refused NOT_FOUND, an OPEN entry BUSY, and neither changes anything; a SETTLED entry is
removed, the exposure falls by its amount, the others keep their order, and the reply carries the entry as it stood. The list
then holds the token no more, so that the card may be granted stand-in again (R137). -/
def Obligations.StandinListIsReadAndCleared : Prop :=
  (∀ (start : Byte) (s : State), lineIdle s →
     (31 < start.toNat → exec (.standinList start) s = .next (s.replied 0x1D .range [])) ∧
     (start.toNat ≤ 31 → ∃ body, exec (.standinList start) s = .next (s.replied 0x1D .ok body) ∧
       bodyIs body ([(1, s.cards.standIn.length), (3, (s.cards.standIn.map (·.amount)).sum),
           (1, min 8 (s.cards.standIn.length - start.toNat))] ++
         ((s.cards.standIn.drop start.toNat).take 8).flatMap fun e =>
           [(16, e.token.toNat), (3, e.amount), (2, e.sessionNumber), (1, e.station.val),
             (1, if e.settled then 2 else 1)]))) ∧
  (∀ (t : Token) (s : State), lineIdle s →
     ((∀ e ∈ s.cards.standIn, e.token ≠ t) → exec (.standinClear t) s = .next (s.replied 0x1E .notFound [])) ∧
     (∀ before e after, s.cards.standIn = before ++ e :: after → (∀ x ∈ before ++ after, x.token ≠ t) → e.token = t →
       (e.settled = false → exec (.standinClear t) s = .next (s.replied 0x1E .busy [])) ∧
       (e.settled = true → ∃ (cards : CardUnit) (body : List Byte),
         exec (.standinClear t) s = .next (State.replied { s with cards := cards } 0x1E .ok body) ∧
         cards = { s.cards with standIn := before ++ after } ∧ exposure cards + e.amount = exposure s.cards ∧
         standInHolds cards t = false ∧
         bodyIs body [(16, e.token.toNat), (3, e.amount), (2, e.sessionNumber), (1, e.station.val), (1, 2)])))

/-! ## The journal -/

/-- JOURNAL READ with a count outside 1 to 4 is refused RANGE. Otherwise it is answered OK with the occupancy, the level, the
number of records returned, min(n, occupancy), and those records, oldest first, 61 bytes each, the first field of each being
its journal number; nothing changes (R145). -/
def Obligations.JournalReadReturnsTheOldest : Prop :=
  ∀ (n : Byte) (s : State), lineIdle s →
    (n.toNat = 0 ∨ 4 < n.toNat → exec (.journalRead n) s = .next (s.replied 0x20 .range [])) ∧
    (1 ≤ n.toNat → n.toNat ≤ 4 → ∃ body, exec (.journalRead n) s = .next (s.replied 0x20 .ok body) ∧
      bodyIs body ([(2, s.journal.records.length),
          (1, match s.journal.level with | .release => 0 | .may => 1 | .need => 2 | .must => 3),
          (1, min n.toNat s.journal.records.length)] ++
        (s.journal.records.take n.toNat).flatMap fun r =>
          [(4, r.journalNumber), (2, r.sessionNumber), (1, r.station.val * 16 + r.tariffClass.val),
            (1, (match r.payer with | .account _ => 1 | .card _ => 2 | .standIn _ => 3) * 16
              + (match r.cardClass with | none => 0 | some .credit => 1 | some .debit => 2)),
            (16, match r.payer with | .account m => m | .card t => t.toNat | .standIn t => t.toNat),
            (4, r.openTime), (4, r.closeTime),
            (1, bit r.clockUnset * 128 + (match r.reason with
              | .finish => 1 | .idle => 2 | .host => 3 | .frozen => 4 | .disabled => 5 | .stallTimeout => 6 | .halt => 7)
              * 4 + (match r.cent with | .none => 0 | .posted => 1 | .waived => 2)),
            (3, r.authority), (3, r.spent), (3, r.chargedMono), (3, r.chargedColour), (3, r.creditedImpressions),
            (3, r.creditedAmount), (2, r.stallCount), (2, r.increments), (3, r.unchargedExits),
            (3, r.unreturnedCredit)]))

/-- JOURNAL RELEASE: a count of 0 or above 512 is refused RANGE; an empty journal is answered OK with 0 removed; a head number
other than the one expected is refused CONFLICT with 0 removed; none of these changes anything. Otherwise the oldest min(k,
occupancy) records leave from the head, the level is judged by the exit occupancies 448, 352 and 224, and a change of it
raises the JOURNAL condition. Every reply after the first check carries the records removed, the occupancy and level after the
request, and the head number, which is the next journal number for an empty journal (R146, R149). -/
def Obligations.JournalReleaseRemovesFromTheHead : Prop :=
  ∀ (k : BitVec 16) (e : BitVec 32) (s : State), lineIdle s →
    let level := fun u : Urgency => match u with | .release => 0 | .may => 1 | .need => 2 | .must => 3
    (k.toNat = 0 ∨ 512 < k.toNat → exec (.journalRelease k e) s = .next (s.replied 0x21 .range [])) ∧
    (1 ≤ k.toNat → k.toNat ≤ 512 → s.journal.records = [] → ∃ body,
      exec (.journalRelease k e) s = .next (s.replied 0x21 .ok body) ∧
      bodyIs body [(2, 0), (2, 0), (1, level s.journal.level), (4, s.journal.nextNumber)]) ∧
    (∀ r rest, 1 ≤ k.toNat → k.toNat ≤ 512 → s.journal.records = r :: rest → r.journalNumber ≠ e.toNat → ∃ body,
      exec (.journalRelease k e) s = .next (s.replied 0x21 .conflict body) ∧
      bodyIs body [(2, 0), (2, s.journal.records.length), (1, level s.journal.level), (4, r.journalNumber)]) ∧
    (∀ r rest, 1 ≤ k.toNat → k.toNat ≤ 512 → s.journal.records = r :: rest → r.journalNumber = e.toNat →
      ∃ (l : Urgency) (body : List Byte),
        exec (.journalRelease k e) s =
          .next (State.replied { s with
            journal := { s.journal with records := s.journal.records.drop k.toNat, level := l }
            host := { s.host with journalFlag := s.host.journalFlag || l != s.journal.level } } 0x21 .ok body) ∧
        level l ≤ level s.journal.level ∧
        (l = .may → 224 ≤ s.journal.records.length - k.toNat) ∧
        (l = .need → 352 ≤ s.journal.records.length - k.toNat) ∧
        (l = .must → 448 ≤ s.journal.records.length - k.toNat) ∧
        (level l < level s.journal.level → s.journal.records.length - k.toNat <
          (match s.journal.level with | .release => 0 | .may => 224 | .need => 352 | .must => 448)) ∧
        (l = .release → s.journal.level = .must ∨ s.journal.level = .need →
          s.journal.records.length - k.toNat < 224) ∧
        (l = .may → s.journal.level = .must → s.journal.records.length - k.toNat < 352) ∧
        bodyIs body [(2, min k.toNat s.journal.records.length), (2, s.journal.records.length - k.toNat), (1, level l),
          (4, match (s.journal.records.drop k.toNat).head? with
            | some x => x.journalNumber
            | none => s.journal.nextNumber)])

/-! ## Requests that name a station -/

/-- The requests that name a station answer RANGE, and change nothing, where the byte is not that of a station in the frame: 8
or above with the STATIONS strap low, 16 or above with it high (section 10.3). The two checks that begin the requests on a
stored account (section 6.4): account number 0 is refused RANGE, and a number with no stored record NOT_FOUND; nothing
changes. -/
def Obligations.RequestsBeginWithTheirFirstChecks : Prop :=
  (∀ (b : Byte) (s : State) (c : Instr) (kind : Byte), lineIdle s →
     (c, kind) ∈ [(Instr.stationGet b, 0x28#8), (.stationEnable b, 0x29#8), (.stationDisable b, 0x2A#8),
       (.sessionEnd b, 0x2B#8), (.serviceHold b, 0x2C#8), (.serviceRelease b, 0x2D#8), (.meterGet b, 0x2E#8),
       (.meterClear b, 0x2F#8)] →
     (if s.host.stationsHigh then 16 else 8) ≤ b.toNat → exec c s = .next (s.replied kind .range [])) ∧
  (∀ (number : BitVec 24) (amount : BitVec 32) (s : State) (c : Instr) (kind : Byte), lineIdle s →
     (c, kind) ∈ [(Instr.accountGet number, 0x11#8), (.accountAdjust number amount, 0x12#8),
       (.accountFreeze number, 0x13#8), (.accountThaw number, 0x14#8), (.accountRemove number, 0x15#8)] →
     (number.toNat = 0 → exec c s = .next (s.replied kind .range [])) ∧
     (number.toNat ≠ 0 → findAccount s.accounts number.toNat = none → exec c s = .next (s.replied kind .notFound [])))

/-- STATION GET changes nothing and carries the station's presence, line state, confirmed and candidate codes with their
locations, stoppage, stall timer, availability, disable pending, session state, session number, stall count and hold state
(sections 1.3, 5.7 and 11.3). -/
def Obligations.StationGetReportsTheStation : Prop :=
  ∀ (i : StationId) (s : State), lineIdle s → s.inFrame i = true →
    let code := fun c : Option Code => match c with
      | none => (0, 0) | some .ready => (1, 0) | some .running => (2, 0) | some .warming => (3, 0)
      | some .paperOut => (4, 0) | some .doorOpen => (5, 0) | some (.jam l) => (6, l.val) | some .fault => (7, 0)
    let x := s.st i
    ∃ body, exec (.stationGet (stationByte i)) s = .next (s.replied 0x28 .ok body) ∧
      bodyIs body [(1, i.val), (1, bit x.line.present),
        (1, if x.line.present = true ∧ x.line.confirmed ≠ none then (code x.line.confirmed).1 else 8),
        (1, (code x.line.confirmed).1), (1, (code x.line.confirmed).2),
        (1, (code x.line.candidate).1), (1, (code x.line.candidate).2),
        (1, match x.recovery.stoppage with
          | none => 0 | some (.jam _) => 1 | some .door => 2 | some .fault => 3 | some .absent => 4),
        (1, match x.recovery.stoppage with | some (.jam l) => l.val | _ => 0),
        (1, bit x.recovery.stallTimer.isSome), (2, x.recovery.stallTimer.getD 0 / 2000),
        (1, match x.recovery.availability with | .enabled => 0 | .outOfService => 1),
        (1, bit x.recovery.disablePending),
        (1, match x.session.state with
          | .none => 0 | .authorizing => 1 | .opened => 2 | .stalled => 3 | .draining => 4),
        (2, x.session.number), (2, x.session.stallCount),
        (1, match x.hold with | .none => 0 | .requested => 1 | .held => 2 | .releasing => 3)]

/-- STATION ENABLE is refused STATE while the stoppage condition is set, and changes nothing. With it clear, an OUT_OF_SERVICE
station becomes ENABLED, which raises its STATION condition, and at an ENABLED one disable pending clears, the session keeping
the close reason or close pending that it has taken; the reply carries availability and disable pending as they then are (R96,
R93). -/
def Obligations.StationEnableReturnsTheStation : Prop :=
  ∀ (i : StationId) (s : State), lineIdle s → s.inFrame i = true →
    ((s.st i).recovery.stoppage ≠ none →
      exec (.stationEnable (stationByte i)) s = .next (s.replied 0x29 .state [])) ∧
    ((s.st i).recovery.stoppage = none → (s.st i).recovery.availability = .outOfService →
      exec (.stationEnable (stationByte i)) s =
        .next (State.replied (s.upd i fun x => { x with
          recovery := { x.recovery with availability := .enabled }
          cond := { x.cond with
            lineFirst := some (x.cond.lineFirst.getD (lineState x.line)), lineLatest := some (lineState x.line) } })
          0x29 .ok [0, if (s.st i).recovery.disablePending then 1 else 0])) ∧
    ((s.st i).recovery.stoppage = none → (s.st i).recovery.availability = .enabled →
      exec (.stationEnable (stationByte i)) s =
        .next (State.replied (s.upd i fun x => { x with recovery := { x.recovery with disablePending := false } })
          0x29 .ok [0, 0]))

/-- STATION DISABLE (section 5.6): at an OUT_OF_SERVICE station nothing changes. At an ENABLED one with no session it becomes
OUT_OF_SERVICE, which raises its STATION condition. With a session, disable pending is set and the session takes the close
reason DISABLED: an AUTHORIZING or STALLED one as close pending unless it holds a reason; a DRAINING one keeps its reason; an
OPEN one with a CHARGED entry in flight goes to DRAINING with it; an OPEN one without closes, and the station is then
OUT_OF_SERVICE. -/
def Obligations.StationDisableTakesTheStationOut : Prop :=
  ∀ (i : StationId) (s : State), lineIdle s → s.inFrame i = true →
    ((s.st i).recovery.availability = .outOfService →
      exec (.stationDisable (stationByte i)) s =
        .next (s.replied 0x2A .ok [1, if (s.st i).recovery.disablePending then 1 else 0])) ∧
    ((s.st i).recovery.availability = .enabled → (s.st i).session.state = .none →
      exec (.stationDisable (stationByte i)) s =
        .next (State.replied (s.upd i fun x => { x with
          recovery := { x.recovery with availability := .outOfService }
          cond := { x.cond with
            lineFirst := some (x.cond.lineFirst.getD (lineState x.line)), lineLatest := some (lineState x.line) } })
          0x2A .ok [1, if (s.st i).recovery.disablePending then 1 else 0])) ∧
    ((s.st i).recovery.availability = .enabled →
      (s.st i).session.state = .authorizing ∨ (s.st i).session.state = .stalled →
      exec (.stationDisable (stationByte i)) s =
        .next (State.replied (s.upd i fun x => { x with
          recovery := { x.recovery with disablePending := true }
          session := { x.session with closePending := some (x.session.closePending.getD .disabled) } })
          0x2A .ok [0, 1])) ∧
    ((s.st i).recovery.availability = .enabled → (s.st i).session.state = .draining →
      exec (.stationDisable (stationByte i)) s =
        .next (State.replied (s.upd i fun x => { x with recovery := { x.recovery with disablePending := true } })
          0x2A .ok [0, 1])) ∧
    ((s.st i).recovery.availability = .enabled → (s.st i).session.state = .opened →
      ∃ (u : State) (a : Byte) (d : Byte), exec (.stationDisable (stationByte i)) s = .next (u.replied 0x2A .ok [a, d]) ∧
        LocalTo i s u ∧
        ((∃ e ∈ (s.st i).queue, e.kind = .charged) → a = 0 ∧ d = 1 ∧
          (u.st i).recovery = { (s.st i).recovery with disablePending := true } ∧
          (u.st i).session = { (s.st i).session with
            state := .draining, closeReason := some .disabled, closePending := none }) ∧
        ((∀ e ∈ (s.st i).queue, e.kind ≠ .charged) → a = 1 ∧ d = 0 ∧
          (u.st i).recovery = { (s.st i).recovery with
            availability := .outOfService, disablePending := false, stallTimer := none } ∧
          (u.st i).session = Session.ended (s.st i).session.number))

/-- SESSION END at a station whose session is NONE is refused STATE; at every other it is answered OK and is the close reason
HOST: an AUTHORIZING or STALLED session takes it as close pending unless it holds a reason, a DRAINING one keeps its reason,
an OPEN one with a CHARGED entry in flight goes to DRAINING with it, and an OPEN one without closes with it (section 2.5). -/
def Obligations.SessionEndIsTheReasonHost : Prop :=
  ∀ (i : StationId) (s : State), lineIdle s → s.inFrame i = true →
    ((s.st i).session.state = .none →
      exec (.sessionEnd (stationByte i)) s = .next (s.replied 0x2B .state [])) ∧
    ((s.st i).session.state = .authorizing ∨ (s.st i).session.state = .stalled →
      exec (.sessionEnd (stationByte i)) s =
        .next (State.replied (s.upd i fun x => { x with
          session := { x.session with closePending := some (x.session.closePending.getD .host) } }) 0x2B .ok [])) ∧
    ((s.st i).session.state = .draining → exec (.sessionEnd (stationByte i)) s = .next (s.replied 0x2B .ok [])) ∧
    ((s.st i).session.state = .opened → ∃ u : State,
      exec (.sessionEnd (stationByte i)) s = .next (u.replied 0x2B .ok []) ∧ LocalTo i s u ∧
      ((∃ e ∈ (s.st i).queue, e.kind = .charged) →
        (u.st i).session = { (s.st i).session with
          state := .draining, closeReason := some .host, closePending := none } ∧
        u.journal = s.journal) ∧
      ((∀ e ∈ (s.st i).queue, e.kind ≠ .charged) →
        (u.st i).session = Session.ended (s.st i).session.number ∧
        ∃ r, u.journal.records = s.journal.records ++ [r] ∧ r.reason = .host ∧ r.station = i ∧
          r.sessionNumber = (s.st i).session.number ∧ r.journalNumber = s.journal.nextNumber))

/-- SERVICE HOLD from NONE makes the hold HELD on an empty queue and REQUESTED otherwise, and changes nothing in another
state. SERVICE RELEASE from HELD makes it NONE on an empty queue and RELEASING otherwise, from REQUESTED NONE, and changes
nothing in another state. Each is answered OK with the station, the hold state, the entries in the queue and those CHARGED;
and the station's waiting pick, if it has none, leaves its queue as it was. A release to NONE while the stoppage condition is
set stalls an OPEN or DRAINING session, whatever is waiting. A hold taken while a pick of an OPEN session waits evaluates it:
REQUESTED stops it HOLD, and HELD grants it as a service sheet, which the figures of the reply count (sections 9.2 to 9.4 and
5.2). The order of the reports of a change of hold, and that the figures are read after them, is the model's choice (log entries
8 and 22). -/
def Obligations.ServiceHoldAndRelease : Prop :=
  (∀ (i : StationId) (s : State), lineIdle s → s.inFrame i = true → (s.st i).request = .idle →
     let reply := fun h : Nat => [(1, i.val), (1, h), (1, (s.st i).queue.length),
       (1, ((s.st i).queue.filter fun e => e.kind == .charged).length)]
     (∃ (u : State) (body : List Byte), exec (.serviceHold (stationByte i)) s = .next (u.replied 0x2C .ok body) ∧
       LocalTo i s u ∧ (u.st i).queue = (s.st i).queue ∧ (u.st i).session = (s.st i).session ∧
       ((s.st i).hold = .none → (s.st i).queue = [] → (u.st i).hold = .held ∧ bodyIs body (reply 2)) ∧
       ((s.st i).hold = .none → (s.st i).queue ≠ [] → (u.st i).hold = .requested ∧ bodyIs body (reply 1)) ∧
       ((s.st i).hold = .requested → u = s ∧ bodyIs body (reply 1)) ∧
       ((s.st i).hold = .held → u = s ∧ bodyIs body (reply 2)) ∧
       ((s.st i).hold = .releasing → u = s ∧ bodyIs body (reply 3))) ∧
     (∃ (u : State) (body : List Byte), exec (.serviceRelease (stationByte i)) s = .next (u.replied 0x2D .ok body) ∧
       LocalTo i s u ∧ (u.st i).queue = (s.st i).queue ∧
       ((s.st i).hold = .held → (s.st i).queue = [] → (u.st i).hold = .none ∧ bodyIs body (reply 0)) ∧
       ((s.st i).hold = .held → (s.st i).queue ≠ [] → (u.st i).hold = .releasing ∧ bodyIs body (reply 3)) ∧
       ((s.st i).hold = .requested → (u.st i).hold = .none ∧ bodyIs body (reply 0)) ∧
       ((s.st i).hold = .none → u = s ∧ bodyIs body (reply 0)) ∧
       ((s.st i).hold = .releasing → u = s ∧ bodyIs body (reply 3)) ∧
       ((s.st i).recovery.stoppage = none → (u.st i).session = (s.st i).session))) ∧
  (∀ (i : StationId) (s : State), lineIdle s → s.inFrame i = true →
     let x := s.st i
     (x.recovery.stoppage ≠ none → x.session.state = .opened ∨ x.session.state = .draining →
       x.hold = .requested ∨ (x.hold = .held ∧ x.queue = []) →
       ∃ (u : State) (body : List Byte), exec (.serviceRelease (stationByte i)) s = .next (u.replied 0x2D .ok body) ∧
         LocalTo i s u ∧ (u.st i).hold = .none ∧ (u.st i).request = .idle ∧
         (u.st i).session = { x.session with
           state := .stalled, stallCount := min 65535 (x.session.stallCount + 1), closeReason := none
           closePending := if x.session.state = .draining then x.session.closeReason else x.session.closePending } ∧
         (u.st i).recovery = { x.recovery with stallTimer := some (s.host.timers.stall * 60 * 2000) }) ∧
     (∀ n p c k, x.request = .waiting n p c k → x.session.state = .opened → x.hold = .none →
       ∃ (u : State) (body : List Byte), exec (.serviceHold (stationByte i)) s = .next (u.replied 0x2C .ok body) ∧
         LocalTo i s u ∧ (u.st i).session = x.session ∧
         (x.queue ≠ [] → (u.st i).hold = .requested ∧ (u.st i).queue = x.queue ∧ (u.st i).request = .idle ∧
           ∀ q w, x.line.latch = .raised n q w → (u.st i).line.latch = .answeredStop .hold) ∧
         (x.queue = [] → p.sides = 1 ∨ p.sides = 2 →
           (u.st i).hold = .held ∧ (u.st i).queue = [sheetEntry s .service p 0] ∧ (u.st i).request = .idle ∧
           (∀ q w, x.line.latch = .raised n q w → (u.st i).line.latch = .answeredGo) ∧
           bodyIs body [(1, i.val), (1, 2), (1, 1), (1, 0)])))

/-- METER GET changes nothing and carries the seven meters, the entries in the queue, the sum of their impressions, those
CHARGED and the request state. METER CLEAR is refused BUSY while the queue holds an entry, and changes nothing; with the queue
empty it sets the seven meters to 0 and is answered OK (R79). -/
def Obligations.MetersAreReadAndCleared : Prop :=
  ∀ (i : StationId) (s : State), lineIdle s → s.inFrame i = true →
    let x := s.st i
    (∃ body, exec (.meterGet (stationByte i)) s = .next (s.replied 0x2E .ok body) ∧
      bodyIs body [(4, x.meters.granted), (4, x.meters.delivered), (4, x.meters.serviceDelivered),
        (4, x.meters.writtenOff), (4, x.meters.stalls), (4, x.meters.unchargedExits), (4, x.meters.sessionsClosed),
        (1, x.queue.length), (1, (x.queue.map (·.impressions)).sum),
        (1, (x.queue.filter fun e => e.kind == .charged).length),
        (1, match x.request with
          | .idle => 0 | .waiting _ _ .pathFull _ => 1 | .waiting _ _ .funds _ => 2)]) ∧
    (x.queue ≠ [] → exec (.meterClear (stationByte i)) s = .next (s.replied 0x2F .busy [])) ∧
    (x.queue = [] → exec (.meterClear (stationByte i)) s =
      .next (State.replied (s.upd i fun y => { y with meters := ⟨0, 0, 0, 0, 0, 0, 0⟩ }) 0x2F .ok []))

/-! ## The stations: presence, slots and messages -/

/-- STATION_LOST makes a present station ABSENT: its line state is cleared but for the pick serial, the raised pick is
withdrawn, the stoppage condition is set with cause ABSENT, and STATION and the STOPPAGE report are raised. An AUTHORIZING
session returns to NONE with no record; an OPEN or DRAINING one is stalled where no stoppage was set and the hold is NONE or
REQUESTED. STATION_PRESENT makes an ABSENT station present with its line state cleared, and changes nothing else. Each changes
nothing where the station is already so (sections 1.2, 2.3, 5.1 and 5.2). The record of the half last sent is the model's own
(log entry 15), and an event whose condition does not hold changing nothing its choice (log entry 3). -/
def Obligations.PresenceIsLostAndRegained : Prop :=
  ∀ (i : StationId) (s : State), s.inFrame i = true →
    let x := s.st i
    (x.line.present = false → exec (.stationLost i) s = .next s) ∧
    (x.line.present = true → exec (.stationPresent i) s = .next s) ∧
    (x.line.present = false → exec (.stationPresent i) s = .next (s.upd i fun y => { y with
      line := ⟨true, 0, none, none, .disarmed, y.line.serial, .idle, .none, [], 0, none, false, y.line.sent⟩ })) ∧
    (x.line.present = true →
      (∀ n p c k, x.request = .waiting n p c k → ∃ q w, x.line.latch = .raised n q w) →
      ∃ t : State, exec (.stationLost i) s = .next t ∧ LocalTo i s t ∧ t.accounts = s.accounts ∧ t.cards = s.cards ∧
        t.journal = s.journal ∧ t.nextSession = s.nextSession ∧
        (t.st i).line =
          ⟨false, 0, none, none, .disarmed, x.line.serial, .idle, .none, [], 0, none, false, x.line.sent⟩ ∧
        (t.st i).request = .idle ∧ (t.st i).queue = x.queue ∧ (t.st i).hold = x.hold ∧
        (t.st i).recovery.stoppage = some .absent ∧ (t.st i).cond.jam = some ⟨.stoppage, .absent, 0⟩ ∧
        (t.st i).cond.lineFirst = some (x.cond.lineFirst.getD .absent) ∧ (t.st i).cond.lineLatest = some .absent ∧
        (x.session.state = .none → (t.st i).session = x.session) ∧
        (x.session.state = .authorizing →
          (t.st i).session = Session.ended x.session.number ∧ (t.st i).auth = none) ∧
        (x.session.state = .opened ∨ x.session.state = .draining →
          ((x.recovery.stoppage = none ∧ (x.hold = .none ∨ x.hold = .requested)) →
            (t.st i).session = { x.session with
              state := .stalled, stallCount := min 65535 (x.session.stallCount + 1), closeReason := none
              closePending := if x.session.state = .draining then x.session.closeReason else x.session.closePending } ∧
            (t.st i).recovery.stallTimer = some (s.host.timers.stall * 60 * 2000) ∧
            (t.st i).meters = { x.meters with stalls := (x.meters.stalls + 1) % 1000000000 }) ∧
          (x.recovery.stoppage ≠ none ∨ x.hold = .held ∨ x.hold = .releasing →
            (t.st i).session = x.session ∧ (t.st i).recovery.stallTimer = x.recovery.stallTimer)))

/-- Every slot of a station in the frame is taken when it comes: the slots come in rising order, slot 0 follows the last, and
the frame mark is due before slot 0; out of its slot a station sends nothing, which the model takes as no change (log entry 13).
Presence: a mark that agrees with the presence state clears the contrary count; one that disagrees adds one to it, and the
sixteenth in a row changes the presence state and clears the count. Codes, at a present station whose half carries the mark: the
confirmed code again leaves no candidate; another code becomes the candidate, and is confirmed when it comes twice in a row,
with STATION raised on the new line state; and a half with no code leaves no candidate and raises ANOMALY (sections 1.1 to
1.3). The clause on a code that is confirmed has nothing come in the gaps that a recovery may have (log entry 20). -/
def Obligations.SlotsMovePresenceAndCodes : Prop :=
  ∀ (i : StationId) (h : UpHalf) (s : State), s.inFrame i = true →
    (s.slot ≠ i → exec (.upstreamHalf i h) s = .next s) ∧
    (s.slot = i → ∃ t : State, exec (.upstreamHalf i h) s = .next t ∧ (s.meanwhile = [] → LocalTo i s.passSlot t) ∧
      let frame := if s.host.stationsHigh then 16 else 8
      let x := (s.st i).line
      let y := (t.st i).line
      let mark : Bool := 128 ≤ h.b0.toNat
      let reports : Code → Bool := fun c => match c with
        | .ready => h.b0.toNat / 16 = 9
        | .running => h.b0.toNat / 16 = 10
        | .warming => h.b0.toNat / 16 = 11
        | .paperOut => h.b0.toNat / 16 = 12
        | .doorOpen => h.b0.toNat / 16 = 13
        | .jam l => h.b0.toNat / 16 = 14 ∧ h.b0.toNat % 16 = l.val ∧ l.val ≠ 0
        | .fault => h.b0.toNat / 16 = 15
      (i.val + 1 < frame → t.slot.val = i.val + 1 ∧ frameMark t = false) ∧
      (i.val + 1 = frame → t.slot = 0 ∧ frameMark t = true) ∧
      (x.present = mark → y.present = x.present ∧ y.contrary = 0) ∧
      (x.present ≠ mark → x.contrary < 15 → y.present = x.present ∧ y.contrary = x.contrary + 1) ∧
      (x.present ≠ mark → 15 ≤ x.contrary → y.present = mark ∧ y.contrary = 0) ∧
      (x.present = true → mark = true →
        (∀ c, reports c →
          (x.confirmed = some c → y.confirmed = some c ∧ y.candidate = none) ∧
          (x.confirmed ≠ some c → x.candidate ≠ some c → y.confirmed = x.confirmed ∧ y.candidate = some c) ∧
          (x.confirmed ≠ some c → x.candidate = some c → s.meanwhile = [] → y.confirmed = some c ∧ y.candidate = none ∧
            (t.st i).cond.lineLatest = some (lineState y) ∧ (t.st i).cond.lineFirst ≠ none)) ∧
        (h.b0.toNat / 16 = 8 ∨ h.b0.toNat = 224 → y.confirmed = x.confirmed ∧ y.candidate = none ∧
          min 255 ((s.st i).cond.anomalies + 1) ≤ (t.st i).cond.anomalies)))

/-- A slot of a station with no pick, no exit and no upstream byte. At an ABSENT station the half carries the hold mark alone.
At a present one it carries the acknowledgement owed, once, and the next byte of the head message, marked DATA, or LAST for
the final one: with the acknowledgement the byte counts as taken, and with its final byte the message leaves the queue; with
ABORT the message is abandoned and ANOMALY raised; with neither the byte waits. While a byte waits the half carries no byte; the
acknowledgement and ABORT do the same in a later slot, and each arrival with neither is counted: the 64th after the byte abandons
the message, makes the message mark ABORT due and raises ANOMALY DOWN_TIMEOUT. The next half carries that mark, once, in place of a
byte. With no byte waiting the acknowledge mark is ignored (sections 1.6 and 1.8). An empty arrival, and an arrival during the
reception of a message, is counted alike: Obligations.UpstreamMessagesAreDelivered. The confirmed code is not
JAM with location 0, which no station holds (Obligations.StepKeepsCapacities). The record of the half sent is the model's own (log
entry 15), and the upstream acknowledge mark is used in the arrival that brings it (log entry 11). That an ACK or ABORT in the 64th
arrival after the byte goes before the limit, whose order the spec leaves open, is the model's choice (log entry 3). -/
def Obligations.ADownstreamMessageIsSentByteByByte : Prop :=
  ∀ (i : StationId) (s : State), s.inFrame i = true → s.slot = i →
    let x := s.st i
    let hold : Byte := if x.hold = .held ∨ x.hold = .releasing then 32 else 0
    let owed : Byte := match x.line.ackOwed with | .none => 0 | .ack => 16 | .abort => 32
    (∀ b0 b1 b2 b3 : Byte, x.line.present = false → x.line.up = .idle → x.line.downWait = none → b0.toNat < 128 →
      exec (.upstreamHalf i ⟨b0, b1, b2, b3⟩) s = .next (s.passSlot.upd i fun y => { y with line := { y.line with
        contrary := 0, candidate := none, sent := [hold, 0, 0] } })) ∧
    (∀ c ack, c ≠ .jam 0 → ack < 4 → Calm x → x.line.confirmed = some c →
      exec (.upstreamHalf i (halfOf c 0 0 0 ack 0)) s = .next (s.passSlot.upd i fun y => { y with line := calmLine x })) ∧
    (∀ c m rest, c ≠ .jam 0 → Calm { x with line := { x.line with down := [] } } → x.line.confirmed = some c →
      x.line.down = m :: rest → x.line.downTaken < (downBytes m).length →
      let final := x.line.downTaken + 1 = (downBytes m).length
      let line := { x.line with
        contrary := 0, candidate := none, ackOwed := .none
        sent := [hold, (if final then 128 else 64) + owed, (downBytes m).getD x.line.downTaken 0] }
      exec (.upstreamHalf i (halfOf c 0 0 0 1 0)) s = .next (s.passSlot.upd i fun y => { y with line :=
        if final then { line with down := rest, downTaken := 0 }
        else { line with downTaken := x.line.downTaken + 1 } }) ∧
      exec (.upstreamHalf i (halfOf c 0 0 0 2 0)) s = .next (s.passSlot.upd i fun y => { y with
        line := { line with down := rest, downTaken := 0 }
        cond := oneAnomaly .downAbort y.cond }) ∧
      exec (.upstreamHalf i (halfOf c 0 0 0 0 0)) s =
        .next (s.passSlot.upd i fun y => { y with line := { line with downWait := some 1 } })) ∧
    (∀ c m rest n, c ≠ .jam 0 → Calm { x with line := { x.line with down := [], downWait := none } } →
      x.line.confirmed = some c → x.line.down = m :: rest → x.line.downWait = some n →
      x.line.downTaken < (downBytes m).length →
      let line := { x.line with contrary := 0, candidate := none, ackOwed := .none, sent := [hold, owed, 0] }
      let gone := { line with down := rest, downTaken := 0, downWait := none }
      exec (.upstreamHalf i (halfOf c 0 0 0 1 0)) s = .next (s.passSlot.upd i fun y => { y with line :=
        if x.line.downTaken + 1 = (downBytes m).length then gone
        else { line with downTaken := x.line.downTaken + 1, downWait := none } }) ∧
      exec (.upstreamHalf i (halfOf c 0 0 0 2 0)) s = .next (s.passSlot.upd i fun y => { y with
        line := gone, cond := oneAnomaly .downAbort y.cond }) ∧
      ∀ ack, ack = 0 ∨ ack = 3 →
        (n + 1 < 64 → exec (.upstreamHalf i (halfOf c 0 0 0 ack 0)) s =
          .next (s.passSlot.upd i fun y => { y with line := { line with downWait := some (n + 1) } })) ∧
        (64 ≤ n + 1 → exec (.upstreamHalf i (halfOf c 0 0 0 ack 0)) s = .next (s.passSlot.upd i fun y => { y with
          line := { gone with downAbort := true }, cond := oneAnomaly .downTimeout y.cond }))) ∧
    (∀ c ack, c ≠ .jam 0 → ack < 4 → Calm { x with line := { x.line with down := [], downAbort := false } } →
      x.line.confirmed = some c → x.line.downAbort = true →
      exec (.upstreamHalf i (halfOf c 0 0 0 ack 0)) s = .next (s.passSlot.upd i fun y => { y with line := { x.line with
        contrary := 0, candidate := none, ackOwed := .none, downAbort := false, sent := [hold, 192 + owed, 0] } }))

/-- The bytes of an upstream message, at a calm station that reports its confirmed code. A DATA byte is kept, and its
acknowledgement owed; with 32 bytes held a further one ends the message with ABORT and ANOMALY. A LAST byte completes the
message: an ACCOUNT, a FINISH or a CARD is delivered, which does what the command of that name does; any other message, of
another type, of the wrong length, or a CARD of neither class, raises ANOMALY UP_UNKNOWN. The mark ABORT abandons a message in
reception with nothing owed and raises ANOMALY UP_ABORT, and changes nothing with none in reception. Arrivals without a byte and without an acknowledgement, at any
present station: an empty one short of the loss of the station, of which nothing else is seen, or a full one that reports the
confirmed code, no exit and no change of the pick. Each is counted while a message is received, and while a byte waits to be
acknowledged. The 64th in a row ends the reception with ABORT owed and ANOMALY UP_TIMEOUT, and the 64th after a byte abandons its
message with the mark ABORT due and ANOMALY DOWN_TIMEOUT (sections 1.2, 1.7 and 1.8). Where one arrival reaches both limits, the
order of the two conditions is open (log entry 1), and the record of the half sent is the model's own (log entry 15). The confirmed
code is not JAM with location 0, which no station holds (Obligations.StepKeepsCapacities). That a CARD, ACCOUNT or FINISH command
is the delivery alone, and that ABORT goes before the receive limit, is the model's choice (log entry 3). -/
def Obligations.UpstreamMessagesAreDelivered : Prop :=
  (∀ (i : StationId) (s : State) (c : Code) (held : List Byte) (quiet : Nat) (b : Byte), s.inFrame i = true → s.slot = i →
    let x := s.st i
    c ≠ .jam 0 → Calm { x with line := { x.line with up := .idle } } → x.line.confirmed = some c →
    (x.line.up = .idle ∧ held = []) ∨ x.line.up = .receiving held quiet →
    let u := s.passSlot.upd i fun y => { y with line := { calmLine y with up := .idle, ackOwed := .ack } }
    let v := s.passSlot.upd i fun y => { y with line := { calmLine y with up := .idle, ackOwed := .abort } }
    (held.length < 32 →
      exec (.upstreamHalf i (halfOf c 0 0 1 0 b)) s = .next (s.passSlot.upd i fun y => { y with line := { calmLine y with
        up := .receiving (held ++ [b]) 0, ackOwed := .ack } })) ∧
    (held.length = 32 → ∀ mark, mark = 1 ∨ mark = 2 →
      exec (.upstreamHalf i (halfOf c 0 0 mark 0 b)) s =
        .next (v.upd i fun y => { y with cond := oneAnomaly .upLong y.cond })) ∧
    (x.line.up = .idle → exec (.upstreamHalf i (halfOf c 0 0 3 0 b)) s =
      .next (s.passSlot.upd i fun y => { y with line := calmLine y })) ∧
    (x.line.up = .receiving held quiet → exec (.upstreamHalf i (halfOf c 0 0 3 0 b)) s =
      .next (s.passSlot.upd i fun y => { y with
        line := { calmLine y with up := .idle }, cond := oneAnomaly .upAbort y.cond })) ∧
    (∀ n : BitVec 24, held ++ [b] = 2#8 :: beBytes 3 n.toNat →
      exec (.upstreamHalf i (halfOf c 0 0 2 0 b)) s = exec (.account i n) u) ∧
    (held ++ [b] = [3#8] → exec (.upstreamHalf i (halfOf c 0 0 2 0 b)) s = exec (.finish i) u) ∧
    (∀ (t : Token) (k : CardClass),
      held ++ [b] = 1#8 :: (beBytes 16 t.toNat ++ [match k with | .credit => 1#8 | .debit => 2#8]) →
      exec (.upstreamHalf i (halfOf c 0 0 2 0 b)) s = exec (.card i t k) u) ∧
    (held.length < 32 → (∀ n : BitVec 24, held ++ [b] ≠ 2#8 :: beBytes 3 n.toNat) → held ++ [b] ≠ [3#8] →
      (∀ t : Token, held ++ [b] ≠ 1#8 :: (beBytes 16 t.toNat ++ [1#8]) ∧
        held ++ [b] ≠ 1#8 :: (beBytes 16 t.toNat ++ [2#8])) →
      exec (.upstreamHalf i (halfOf c 0 0 2 0 b)) s =
        .next (u.upd i fun y => { y with cond := oneAnomaly .upUnknown y.cond }))) ∧
  (∀ (i : StationId) (s : State) (h : UpHalf) (contrary : Nat), s.inFrame i = true → s.slot = i →
    let x := s.st i
    x.line.present = true →
    (h.b0.toNat < 128 ∧ x.line.contrary < 15 ∧ contrary = x.line.contrary + 1) ∨
      (∃ c pick ack b, h = halfOf c pick 0 0 ack b ∧ c ≠ .jam 0 ∧ x.line.confirmed = some c ∧ contrary = 0 ∧
        (ack = 0 ∨ ack = 3) ∧
        ((pick = 0 ∧ x.line.latch = .idle) ∨ (x.line.latch ≠ .idle ∧ ∃ p, pick = pickByte p))) →
    ∃ t : State, exec (.upstreamHalf i h) s = .next t ∧
      t = { s.passSlot with stations := t.stations, choiceTape := t.choiceTape, choiceCount := t.choiceCount } ∧
      (∀ j, j ≠ i → t.st j = s.st j) ∧ WaitedThrough x (t.st i) contrary ∧
      ((limitsReached x.line).length < 2 → t.choiceTape = s.choiceTape ∧ t.choiceCount = s.choiceCount))

/-! ## The stations: sheets -/

/-- A pick at a calm station with an OPEN session, hold NONE, a free place in the queue and no request under way is judged in
its slot. It is stopped BAD_SPEC for a sides value of 0 or 3, NOT_PRICED for an UNSET price, LIMIT above 999,999 impressions or
1,200,000,000 fine units, FUNDS where the posting would take an account's balance below its floor, or a STANDIN session past its
authority. Otherwise GO: each impression is priced at its own discount, the sheet is posted on the session and, for an account,
its minor units are debited; a CHARGED entry joins the queue, its impressions the granted meter; SHOW is offered. A CARD session
whose remaining authority has then fallen below the threshold asks an increment where the increment conditions are met (sections
1.4, 3.3 to 3.5, 4.1, 4.2 and 7.4). The confirmed code is not JAM with location 0, which no station holds
(Obligations.StepKeepsCapacities). -/
def Obligations.ARaisedPickIsCharged : Prop :=
  ∀ (i : StationId) (s : State) (p : SheetSpec) (c : Code) (k : Fin 8), s.inFrame i = true → s.slot = i →
    let x := s.st i
    c ≠ .jam 0 → Calm x → x.line.confirmed = some c → x.session.state = .opened → x.session.tariffClass = some k → x.hold = .none →
    x.request = .idle → x.queue.length < 8 →
    let serial := (x.line.serial + 1) % 256
    let half := halfOf c (pickByte p) 0 0 0 0
    let stopped := fun r : StopReason => ∃ idle : Option Nat,
      exec (.upstreamHalf i half) s = .next (s.passSlot.upd i fun y => { y with
        line := { calmLine x with latch := .answeredStop r, serial := serial }, idleTimer := idle })
    (p.sides = 0 ∨ p.sides = 3 → stopped .badSpec) ∧
    (p.sides = 1 ∨ p.sides = 2 → basePrice s.charge k p.media p.colour = none → stopped .notPriced) ∧
    (∀ base, p.sides = 1 ∨ p.sides = 2 → basePrice s.charge k p.media p.colour = some base →
      let price := costOf s k base x.session p
      let delta := unitsPosted x.session price
      let session := chargedSession x.session p price
      let granted := fun left : Nat => s.passSlot.upd i fun y => { y with
        session := session, idleTimer := none, queue := x.queue ++ [sheetEntry s .charged p price]
        meters := { x.meters with granted := (x.meters.granted + p.sides.val) % 1000000000 }
        line := { calmLine x with latch := .answeredGo, serial := serial, down := [.showing session.spent left] } }
      (PastLimits x.session p price → stopped .limit) ∧
      (¬ PastLimits x.session p price →
        (∀ n a, x.session.payer = some (.account n) → findAccount s.accounts n = some a → a.number = n →
          let short := delta ≠ 0 ∧ a.balance - delta < floorOf s.accounts.ranges n
          (short → stopped .funds) ∧
          (¬ short → ∃ t : State, exec (.upstreamHalf i half) s = .next t ∧
            t = { granted (a.balance - delta - floorOf s.accounts.ranges n).toNat with
              accounts := { s.accounts with accounts := t.accounts.accounts } } ∧
            findAccount t.accounts n = some { a with balance := a.balance - delta } ∧
            ∀ m, m ≠ n → findAccount t.accounts m = findAccount s.accounts m)) ∧
        (∀ t, x.session.payer = some (.standIn t) →
          (x.session.authority.getD 0 < x.session.spent + delta → stopped .funds) ∧
          (x.session.spent + delta ≤ x.session.authority.getD 0 →
            exec (.upstreamHalf i half) s = .next (granted (x.session.authority.getD 0 - session.spent)))) ∧
        (∀ t, x.session.payer = some (.card t) → x.session.spent + delta ≤ x.session.authority.getD 0 →
          let left := x.session.authority.getD 0 - session.spent
          let asks := left < s.cards.policy.threshold ∧ x.session.noMoreIncrements = false ∧ s.host.linkUp = true ∧
            x.auth = none ∧ x.session.authority.getD 0 + s.cards.policy.increment ≤ 200000
          (¬ asks → exec (.upstreamHalf i half) s = .next (granted left)) ∧
          (asks → (∀ j e, (s.st j).auth = some e → e.reference ≠ s.cards.nextReference) →
            exec (.upstreamHalf i half) s = .next { (granted left).upd i (fun y => { y with
                auth := some ⟨s.cards.nextReference, x.session.number, .increment, s.cards.policy.increment, t,
                  s.host.timers.auth * 2000⟩
                cond := { y.cond with authRequest := some ⟨s.cards.nextReference, x.session.number, .increment,
                  s.cards.policy.increment, t⟩ } }) with
              cards := { s.cards with
                nextReference := if s.cards.nextReference < 65535 then s.cards.nextReference + 1 else 1 } }))))

/-- A pick at a calm station by its session and its hold. It is stopped NO_SESSION, STALLED, CLOSING or HOLD by the first of
these that applies. With the hold HELD or RELEASING, no session, an AUTHORIZING or an OPEN one, and a free place, it is a service
sheet: GO, a SERVICE entry of price 0, its impressions on the granted meter, and the session as it was. With eight entries in the
queue it waits PATH_FULL, there as at an OPEN session with hold NONE, and the pick wait timer starts. A CARD session whose
remaining authority does not cover the posting waits FUNDS: an INCREMENT entry and its AUTH REQUEST are made where the increment
conditions are met, and none where one of the session waits for its result; where no increment can be asked the pick is stopped
FUNDS. While the latch holds a request or its answer, a further pick makes none; a NONE pick field returns the latch to IDLE, and
ends a request that waits under the serial held (sections 1.4, 4.1 to 4.3, 7.4 and 9.4). The confirmed code is not JAM with location 0, which no station holds
(Obligations.StepKeepsCapacities). -/
def Obligations.PicksAreAnsweredBySessionAndHold : Prop :=
  (∀ (i : StationId) (s : State) (p : SheetSpec) (c : Code), s.inFrame i = true → s.slot = i →
     let x := s.st i
     c ≠ .jam 0 → Calm x → x.line.confirmed = some c → x.request = .idle →
     let half := halfOf c (pickByte p) 0 0 0 0
     let line := { calmLine x with serial := (x.line.serial + 1) % 256 }
     let waits := { line with latch := .raised ((x.line.serial + 1) % 256) p true }
     let free := x.hold = .held ∨ x.hold = .releasing
     let stopped := fun r : StopReason => ∃ idle : Option Nat,
       exec (.upstreamHalf i half) s = .next (s.passSlot.upd i fun y => { y with
         line := { line with latch := .answeredStop r }, idleTimer := idle })
     (x.session.state = .none ∨ x.session.state = .authorizing → ¬ free → stopped .noSession) ∧
     (x.session.state = .stalled → stopped .stalled) ∧
     (x.session.state = .draining → stopped .closing) ∧
     (x.session.state = .opened → x.hold = .requested → stopped .hold) ∧
     (x.session.state = .none ∨ x.session.state = .authorizing ∨ x.session.state = .opened → free →
       p.sides = 1 ∨ p.sides = 2 → x.queue.length < 8 →
       exec (.upstreamHalf i half) s = .next (s.passSlot.upd i fun y => { y with
         line := { line with latch := .answeredGo }, idleTimer := none
         queue := x.queue ++ [sheetEntry s .service p 0]
         meters := { x.meters with granted := (x.meters.granted + p.sides.val) % 1000000000 } })) ∧
     ((x.session.state = .opened ∧ x.hold = .none) ∨
         ((x.session.state = .none ∨ x.session.state = .authorizing ∨ x.session.state = .opened) ∧ free) →
       p.sides = 1 ∨ p.sides = 2 → 8 ≤ x.queue.length →
       exec (.upstreamHalf i half) s = .next (s.passSlot.upd i fun y => { y with
         line := waits, idleTimer := none
         request := .waiting ((x.line.serial + 1) % 256) p .pathFull (s.host.timers.pickWait * 2000) })) ∧
     (∀ (t : Token) (k : Fin 8) (base : Nat), x.session.state = .opened → x.hold = .none → p.sides = 1 ∨ p.sides = 2 →
       x.queue.length < 8 → x.session.payer = some (.card t) → x.session.tariffClass = some k →
       basePrice s.charge k p.media p.colour = some base →
       let price := costOf s k base x.session p
       ¬ PastLimits x.session p price →
       x.session.authority.getD 0 < x.session.spent + unitsPosted x.session price →
       let mayAsk := x.session.noMoreIncrements = false ∧ s.host.linkUp = true ∧
         x.session.authority.getD 0 + s.cards.policy.increment ≤ 200000
       let waitsFunds := s.passSlot.upd i fun y => { y with
         line := waits, idleTimer := none
         request := .waiting ((x.line.serial + 1) % 256) p .funds (s.host.timers.pickWait * 2000) }
       (¬ mayAsk → stopped .funds) ∧
       (∀ e, mayAsk → x.auth = some e → e.kind = .increment → e.sessionNumber = x.session.number →
         exec (.upstreamHalf i half) s = .next waitsFunds) ∧
       (mayAsk → x.auth = none → (∀ j e, (s.st j).auth = some e → e.reference ≠ s.cards.nextReference) →
         exec (.upstreamHalf i half) s = .next { waitsFunds.upd i (fun y => { y with
             auth := some ⟨s.cards.nextReference, x.session.number, .increment, s.cards.policy.increment, t,
               s.host.timers.auth * 2000⟩
             cond := { y.cond with authRequest := some ⟨s.cards.nextReference, x.session.number, .increment,
               s.cards.policy.increment, t⟩ } }) with
           cards := { s.cards with
             nextReference := if s.cards.nextReference < 65535 then s.cards.nextReference + 1 else 1 } }))) ∧
  (∀ (i : StationId) (s : State) (p : SheetSpec) (c : Code), s.inFrame i = true → s.slot = i →
     let x := s.st i
     c ≠ .jam 0 → CalmBut c x →
     (x.line.latch ≠ .idle → exec (.upstreamHalf i (halfOf c (pickByte p) 0 0 0 0)) s =
       .next (s.passSlot.upd i fun y => { y with line := heldLine x x.line.latch })) ∧
     (x.line.latch = .disarmed ∨ x.line.latch = .answeredGo ∨ (∃ r, x.line.latch = .answeredStop r) →
       exec (.upstreamHalf i (halfOf c 0 0 0 0 0)) s =
         .next (s.passSlot.upd i fun y => { y with line := heldLine x .idle })) ∧
     (∀ n q w, x.line.latch = .raised n q w → ∃ idle : Option Nat,
       exec (.upstreamHalf i (halfOf c 0 0 0 0 0)) s = .next (s.passSlot.upd i fun y => { y with
         line := heldLine x .idle, idleTimer := idle
         request := match x.request with
           | .waiting m q' cause left => if m = n then .idle else .waiting m q' cause left
           | .idle => .idle })))

/-- PICK_WAIT_EXPIRY, with the pick wait timer run out, ends a waiting request with STOP, PATH_FULL or FUNDS by its wait cause;
the answer goes to the latch where that holds the request, and the idle timer starts again where it has become eligible. With
nothing waiting, or the timer running yet, it changes nothing (section 4.3). RECEIVE_LIMIT ends a message in reception with
ABORT owed and ANOMALY UP_TIMEOUT. NO_ACKNOWLEDGEMENT abandons the head message whose byte waits, makes ABORT due as a message
mark and raises ANOMALY DOWN_TIMEOUT. Nothing else changes, and where nothing is in reception, or no byte waits, nothing does
(sections 1.7 and 1.8). That each is a command, which changes nothing where its condition does not hold, and that the two
limits are taken without their arrivals, is the model's choice (log entry 3). -/
def Obligations.TimersAndLimitsOfAStationRunOut : Prop :=
  (∀ (i : StationId) (s : State), s.inFrame i = true →
     ((s.st i).request = .idle → exec (.pickWaitExpiry i) s = .next s) ∧
     (∀ n p c k, (s.st i).request = .waiting n p c k → k ≠ 0 → exec (.pickWaitExpiry i) s = .next s) ∧
     (∀ n p c k, (s.st i).request = .waiting n p c k → k = 0 →
       let reason : StopReason := match c with | .pathFull => .pathFull | .funds => .funds
       ∃ t : State, exec (.pickWaitExpiry i) s = .next t ∧
         ((s.st i).session.state = .opened → (s.st i).hold = .none → (s.st i).queue = [] →
           (s.st i).line.confirmed ≠ some .paperOut →
           (t.st i).idleTimer = some ((s.st i).idleTimer.getD (s.host.timers.idle * 2000))) ∧
         (∀ q w, (s.st i).line.latch = .raised n q w →
           t = s.upd i fun y => { y with
             request := .idle, idleTimer := (t.st i).idleTimer
             line := { y.line with latch := .answeredStop reason } }) ∧
         ((∀ q w, (s.st i).line.latch ≠ .raised n q w) →
           t = s.upd i fun y => { y with request := .idle, idleTimer := (t.st i).idleTimer }))) ∧
  (∀ (i : StationId) (s : State), s.inFrame i = true →
     ((s.st i).line.up = .idle → exec (.receiveLimit i) s = .next s) ∧
     (∀ held quiet, (s.st i).line.up = .receiving held quiet →
       exec (.receiveLimit i) s = .next (s.upd i fun y => { y with
         line := { y.line with up := .idle, ackOwed := .abort }
         cond := { y.cond with anomalies := min 255 (y.cond.anomalies + 1), latestAnomaly := some .upTimeout } })) ∧
     ((s.st i).line.downWait = none → exec (.noAcknowledgement i) s = .next s) ∧
     (∀ n, (s.st i).line.downWait = some n →
       exec (.noAcknowledgement i) s = .next (s.upd i fun y => { y with
         line := { y.line with down := y.line.down.drop 1, downTaken := 0, downWait := none, downAbort := true }
         cond := { y.cond with anomalies := min 255 (y.cond.anomalies + 1), latestAnomaly := some .downTimeout } })))

/-- A sheet that leaves the path, at a calm station. An exit delivers the head entry: it joins the delivered meter, or the
service delivered one, and nothing is credited; with an empty queue the exit is an uncharged exit, which counts for a session that
exists. An exit count of 2 or 3 is as many exits, one after another, uncharged once the queue is empty; exits are taken in every
session state, during a stall too, and reload the idle timer of an OPEN session that is left eligible. The entry that an exit makes
the head is judged by its own age: a SERVICE one past its limit is removed at once. OVERDUE, with the head's age at its limit
and the stoppage condition clear, takes the head back: it joins the written off meter, ANOMALY is raised, and a CHARGED entry is
credited to the OPEN or DRAINING session and, up to 9,999,999, to its account, or to the remaining authority of a CARD or STANDIN
session, whose stand-in entry stays as it is, with SHOW, which takes the place of an unsent one in a full
downstream queue and is discarded at an ABSENT station; otherwise it changes nothing. What follows a removal: a
waiting pick is evaluated again, and gets GO as a service sheet under HELD, or charged at an OPEN STANDIN session; a REQUESTED
hold becomes HELD on the emptied queue, and a RELEASING one NONE; a DRAINING session closes when its last CHARGED entry has left,
by exit, also before a further exit of the same count, or as overdue, after its credit, and not before (sections 1.5, 1.8, 2.4 to
2.6, 3.6, 4.3 to 4.5, 5.3, 9.2 and 9.3). The confirmed code is not JAM with location 0, which no station holds
(Obligations.StepKeepsCapacities). That the age waits at its limit for the command OVERDUE is the
model's choice (log entry 3), and the order of these reports too (log entry 8). -/
def Obligations.SheetsLeaveThePath : Prop :=
  (∀ (i : StationId) (s : State), s.inFrame i = true →
     let x := s.st i
     (x.recovery.stoppage ≠ none ∨ x.queue = [] → exec (.overdue i) s = .next s) ∧
     (∀ e rest, x.queue = e :: rest → e.age < e.limit * 2000 → exec (.overdue i) s = .next s) ∧
     (∀ e rest, x.queue = e :: rest → x.recovery.stoppage = none → e.limit * 2000 ≤ e.age → HeadKeeps x rest →
       x.session.state = .opened ∨
         (x.session.state = .draining ∧ (e.kind = .service ∨ ∃ f ∈ rest, f.kind = .charged)) →
       x.hold = .none → x.request = .idle → (x.line.present = true → x.line.down.length < 4) →
       let shown := fun (spent remaining : Nat) =>
         if x.line.present then { x.line with down := x.line.down ++ [.showing spent remaining] } else x.line
       ∃ t : State, exec (.overdue i) s = .next t ∧
         (t.st i).queue = rest ∧
         (t.st i).meters = { x.meters with writtenOff := (x.meters.writtenOff + e.impressions) % 1000000000 } ∧
         (t.st i).cond = oneAnomaly .overdue x.cond ∧
         t = { s with stations := t.stations, accounts := { s.accounts with accounts := t.accounts.accounts } } ∧
         (∀ j, j ≠ i → t.st j = s.st j) ∧
         (e.kind = .service → t.accounts = s.accounts ∧ (t.st i).session = x.session ∧ (t.st i).line = x.line) ∧
         (∀ n a, e.kind = .charged → x.session.payer = some (.account n) → findAccount s.accounts n = some a →
           a.number = n →
           let raised := a.balance + unitsReturned x.session e.price
           let lost := (raised - 9999999).toNat
           (t.st i).session = creditedSession x.session e lost ∧
           findAccount t.accounts n = some { a with balance := min 9999999 raised } ∧
           (∀ m, m ≠ n → findAccount t.accounts m = findAccount s.accounts m) ∧
           (t.st i).line = shown ((x.session.fineTotal - e.price) / 100)
             (min 9999999 raised - floorOf s.accounts.ranges n).toNat) ∧
         (∀ k, e.kind = .charged → x.session.payer = some (.card k) ∨ x.session.payer = some (.standIn k) →
           (t.st i).session = creditedSession x.session e 0 ∧ t.accounts = s.accounts ∧
           (t.st i).line = shown ((x.session.fineTotal - e.price) / 100)
             (x.session.authority.getD 0 - (x.session.fineTotal - e.price) / 100))) ∧
     (∀ e rest r payer, x.queue = e :: rest → x.recovery.stoppage = none → e.limit * 2000 ≤ e.age → HeadKeeps x rest →
       x.session.state = .draining → x.session.closeReason = some r → x.session.payer = some payer →
       e.kind = .charged → (∀ f ∈ rest, f.kind ≠ .charged) → x.hold = .none → x.request = .idle →
       (x.line.present = true → x.line.down.length < 3) →
       ∃ (t : State) (lost remaining spent : Nat) (cent : ClosingCent), exec (.overdue i) s = .next t ∧ LocalTo i s t ∧
         let credited := creditedSession x.session e lost
         t.journal.records = s.journal.records ++ [closeRecord s i credited payer r cent spent] ∧
         (t.st i).session = Session.ended x.session.number ∧ (t.st i).queue = rest ∧
         (t.st i).meters = { x.meters with
           writtenOff := (x.meters.writtenOff + e.impressions) % 1000000000
           sessionsClosed := (x.meters.sessionsClosed + 1) % 1000000000 } ∧
         (t.st i).cond.anomalies = min 255 (x.cond.anomalies + 1) ∧ (t.st i).cond.latestAnomaly = some .overdue ∧
         (t.st i).line = (if x.line.present then
           { x.line with down := x.line.down ++ [.showing credited.spent remaining, .closed spent cent] } else x.line) ∧
         (∀ n a, payer = .account n → findAccount s.accounts n = some a → a.number = n →
           let raised := a.balance + unitsReturned x.session e.price
           let balance := min 9999999 raised
           let owes : Bool := 50 ≤ credited.fineTotal % 100
           let fits : Bool := floorOf s.accounts.ranges n ≤ balance - 1
           lost = (raised - 9999999).toNat ∧ remaining = (balance - floorOf s.accounts.ranges n).toNat ∧
           cent = (if owes then (if fits then .posted else .waived) else .none) ∧
           spent = credited.spent + (if owes && fits then 1 else 0) ∧
           findAccount t.accounts n = some { a with
             balance := balance - (if owes && fits then 1 else 0), openSessions := a.openSessions - 1
             lifetimeSpend := (a.lifetimeSpend + spent) % 1000000000, lastUse := s.journal.clock } ∧
           ∀ m, m ≠ n → findAccount t.accounts m = findAccount s.accounts m) ∧
         (∀ k, payer = .card k ∨ payer = .standIn k → lost = 0 ∧ t.accounts = s.accounts ∧
           remaining = x.session.authority.getD 0 - credited.spent ∧ FinalSpent s credited cent spent)) ∧
     (∀ e rest n a, x.queue = e :: rest → x.recovery.stoppage = none → e.limit * 2000 ≤ e.age → HeadKeeps x rest →
       x.session.state = .opened → x.hold = .none → x.request = .idle → x.line.present = true → x.line.down.length = 4 →
       e.kind = .charged → x.session.payer = some (.account n) → findAccount s.accounts n = some a → a.number = n →
       let balance := min 9999999 (a.balance + unitsReturned x.session e.price)
       ∃ (t : State) (c : Conditions), exec (.overdue i) s = .next t ∧ (t.st i).cond = oneAnomaly .overdue c ∧
         OfferedToFull (.showing ((x.session.fineTotal - e.price) / 100)
           (balance - floorOf s.accounts.ranges n).toNat) x.line x.cond (t.st i).line.down c)) ∧
  (∀ (i : StationId) (s : State) (c : Code), s.inFrame i = true → s.slot = i →
     let x := s.st i
     let exit := halfOf c 0 1 0 0 0
     c ≠ .jam 0 → Calm x → x.line.confirmed = some c → x.session.state = .opened → x.hold = .none → x.request = .idle →
     (x.queue = [] → ∃ idle : Option Nat,
       exec (.upstreamHalf i exit) s = .next (s.passSlot.upd i fun y => { y with
         line := calmLine x, idleTimer := idle, cond := oneAnomaly .unchargedExit x.cond
         meters := { x.meters with unchargedExits := (x.meters.unchargedExits + 1) % 1000000000 }
         session := { x.session with unchargedExits := min 16777215 (x.session.unchargedExits + 1) } })) ∧
     (∀ e rest, x.queue = e :: rest → HeadKeeps x rest → ∃ idle : Option Nat,
       exec (.upstreamHalf i exit) s = .next (s.passSlot.upd i fun y => { y with
         line := calmLine x, idleTimer := idle, queue := rest, meters := deliveredOn e x.meters })) ∧
     (∀ e f rest, x.queue = e :: f :: rest → x.recovery.stoppage = none → f.kind = .service → f.limit * 2000 ≤ f.age →
       HeadKeeps x rest → ∃ idle : Option Nat,
       exec (.upstreamHalf i exit) s = .next (s.passSlot.upd i fun y => { y with
         line := calmLine x, idleTimer := idle, queue := rest, cond := oneAnomaly .overdue x.cond
         meters := { deliveredOn e x.meters with
           writtenOff := (x.meters.writtenOff + f.impressions) % 1000000000 } }))) ∧
  (∀ (i : StationId) (s : State) (c : Code) (e : InFlight) (rest : List InFlight), s.inFrame i = true → s.slot = i →
     let x := s.st i
     let exit := fun pick : Nat => halfOf c pick 1 0 0 0
     c ≠ .jam 0 → CalmBut c x → x.queue = e :: rest → HeadKeeps x rest →
     (∀ n p cause left w, x.request = .waiting n p cause left → x.line.latch = .raised n p w →
       p.sides = 1 ∨ p.sides = 2 → rest.length < 8 → 0 < s.host.timers.transit →
       (x.hold = .held → x.session.state = .none ∨ x.session.state = .opened →
         exec (.upstreamHalf i (exit (pickByte p))) s = .next (s.passSlot.upd i fun y => { y with
           line := heldLine x .answeredGo, idleTimer := none, request := .idle
           queue := rest ++ [sheetEntry s .service p 0]
           meters := { deliveredOn e x.meters with granted := (x.meters.granted + p.sides.val) % 1000000000 } })) ∧
       (∀ t k base, x.hold = .none → x.session.state = .opened → x.session.payer = some (.standIn t) →
         x.session.tariffClass = some k → basePrice s.charge k p.media p.colour = some base →
         let price := costOf s k base x.session p
         let session := chargedSession x.session p price
         ¬ PastLimits x.session p price → x.session.spent + unitsPosted x.session price ≤ x.session.authority.getD 0 →
         exec (.upstreamHalf i (exit (pickByte p))) s = .next (s.passSlot.upd i fun y => { y with
           session := session, idleTimer := none, request := .idle
           queue := rest ++ [sheetEntry s .charged p price]
           meters := { deliveredOn e x.meters with granted := (x.meters.granted + p.sides.val) % 1000000000 }
           line := { heldLine x .answeredGo with
             down := [.showing session.spent (x.session.authority.getD 0 - session.spent)] } }))) ∧
     (x.line.latch = .idle → x.request = .idle → rest = [] → x.session.state = .none ∨ x.session.state = .opened →
       (x.hold = .requested → exec (.upstreamHalf i (exit 0)) s = .next (s.passSlot.upd i fun y => { y with
         line := calmLine x, idleTimer := none, queue := [], hold := .held, meters := deliveredOn e x.meters })) ∧
       (x.hold = .releasing → x.recovery.stoppage = none → ∃ idle : Option Nat,
         exec (.upstreamHalf i (exit 0)) s = .next (s.passSlot.upd i fun y => { y with
           line := calmLine x, idleTimer := idle, queue := [], hold := .none, meters := deliveredOn e x.meters }))) ∧
     (∀ r payer, x.line.latch = .idle → x.request = .idle → x.hold = .none → x.session.state = .draining →
       x.session.closeReason = some r → x.session.payer = some payer → e.kind = .charged →
       ((∃ f ∈ rest, f.kind = .charged) →
         exec (.upstreamHalf i (exit 0)) s = .next (s.passSlot.upd i fun y => { y with
           line := calmLine x, idleTimer := none, queue := rest, meters := deliveredOn e x.meters })) ∧
       ((∀ f ∈ rest, f.kind ≠ .charged) → ∃ (t : State) (cent : ClosingCent) (spent : Nat),
         exec (.upstreamHalf i (exit 0)) s = .next t ∧ FinalSpent s x.session cent spent ∧
         (t.st i).session = Session.ended x.session.number ∧ (t.st i).queue = rest ∧
         (t.st i).meters = { deliveredOn e x.meters with
           sessionsClosed := (x.meters.sessionsClosed + 1) % 1000000000 } ∧
         (t.st i).line = { calmLine x with down := [.closed spent cent] } ∧
         t.journal.records = s.journal.records ++ [closeRecord s i x.session payer r cent spent]))) ∧
  (∀ (i : StationId) (s : State) (c : Code) (k : Nat), s.inFrame i = true → s.slot = i → k = 1 ∨ k = 2 ∨ k = 3 →
     let x := s.st i
     c ≠ .jam 0 → Calm x → x.line.confirmed = some c → x.request = .idle →
     (x.hold = .none ∨ x.hold = .held ∨ k < x.queue.length →
       (x.session.state = .draining → ∃ f ∈ x.queue.drop k, f.kind = .charged) →
       (∀ f ∈ x.queue.drop 1, x.recovery.stoppage ≠ none ∨ f.age < f.limit * 2000) →
       let y := exitedTimes k x
       ∃ idle : Option Nat,
         exec (.upstreamHalf i (halfOf c 0 k 0 0 0)) s =
           .next (s.passSlot.upd i fun _ => { y with line := calmLine x, idleTimer := idle }) ∧
         (x.idleTimer.isSome = idleEligible x → idle =
           if x.session.state = .opened ∧ x.hold = .none ∧ y.queue = [] ∧ c ≠ .paperOut then
             some (s.host.timers.idle * 2000)
           else none)) ∧
     (∀ e r payer, x.queue = [e] → e.kind = .charged → x.session.state = .draining → x.session.closeReason = some r →
       x.session.payer = some payer → x.hold = .none →
       ∃ (t : State) (cent : ClosingCent) (spent : Nat),
         exec (.upstreamHalf i (halfOf c 0 k 0 0 0)) s = .next t ∧ FinalSpent s x.session cent spent ∧
         t.journal.records = s.journal.records ++ [closeRecord s i x.session payer r cent spent] ∧
         (t.st i).session = Session.ended x.session.number ∧ (t.st i).queue = [] ∧
         (1 < k → (t.st i).meters = { deliveredOn e x.meters with
             sessionsClosed := (x.meters.sessionsClosed + 1) % 1000000000
             unchargedExits := (x.meters.unchargedExits + (k - 1)) % 1000000000 } ∧
           (t.st i).cond.anomalies = min 255 (x.cond.anomalies + (k - 1)) ∧
           (t.st i).cond.latestAnomaly = some .unchargedExit)))

/-- A stoppage code confirmed in a slot sets the stoppage condition with its cause, or replaces the cause held, and raises STATION
and the STOPPAGE report. Set from clear, it stalls an OPEN or DRAINING session with hold NONE or REQUESTED and starts its stall
timer, the queue staying as it is; a replaced cause, no session, or a hold HELD or RELEASING leaves session and timer as they are.
READY or RUNNING confirmed while the condition is set is the recovery: the queue is emptied, its impressions joining the written
off meter, the stall timer stops, the condition clears and a RECOVERY report is raised. Each CHARGED entry of a STALLED session is
credited, and then it is OPEN again, or closes with the reason it holds as close pending; without one nothing is credited, and the
session stays. A hold REQUESTED becomes HELD on the emptied queue, and one RELEASING NONE. Between two credits an ACCOUNT ADJUST on
the session's account is judged against the balance that the first has left, and the second is taken on the balance that it
leaves; an ACCOUNT FREEZE leaves FROZEN as close pending, and the session closes with it (sections 1.3, 3.6, 4.6, 5.1 to 5.4, 6.3,
6.4, 9.2 and 9.3). That the tape of the gaps says what comes after each credit is the model's choice (log entry 20): a clause on a
recovery that makes credits names its tape, or has an empty one. -/
def Obligations.StoppageCodesStallAndReadyRecovers : Prop :=
  ∀ (i : StationId) (s : State) (code : Code) (cause : Cause), s.inFrame i = true → s.slot = i →
    let x := s.st i
    Calm x → x.request = .idle → x.line.candidate = some code → x.line.confirmed ≠ some code →
    let half := halfOf code 0 0 0 0 0
    let report := fun (c : Conditions) (j : JamReport) => { c with
      jam := some j, lineFirst := some (c.lineFirst.getD (lineState { x.line with confirmed := some code }))
      lineLatest := some (lineState { x.line with confirmed := some code }) }
    let stops := (code, cause) ∈ [(.doorOpen, .door), (.fault, .fault)] ∨
      (∃ l : Fin 16, l ≠ 0 ∧ code = .jam l ∧ cause = .jam l)
    (stops → x.recovery.stoppage = none → x.session.state = .opened ∨ x.session.state = .draining →
      x.hold = .none ∨ x.hold = .requested →
      exec (.upstreamHalf i half) s = .next (s.passSlot.upd i fun y => { y with
        line := { calmLine x with confirmed := some code }, idleTimer := none
        session := { x.session with
          state := .stalled, stallCount := min 65535 (x.session.stallCount + 1), closeReason := none
          closePending := if x.session.state = .draining then x.session.closeReason else x.session.closePending }
        meters := { x.meters with stalls := (x.meters.stalls + 1) % 1000000000 }
        recovery := { x.recovery with stoppage := some cause, stallTimer := some (s.host.timers.stall * 60 * 2000) }
        cond := report { x.cond with session := true } ⟨.stoppage, cause, 0⟩ })) ∧
    (stops → x.recovery.stoppage ≠ none ∨ x.session.state = .none ∨ x.session.state = .authorizing ∨ x.hold = .held ∨
        x.hold = .releasing →
      ∃ idle : Option Nat, exec (.upstreamHalf i half) s = .next (s.passSlot.upd i fun y => { y with
        line := { calmLine x with confirmed := some code }, idleTimer := idle
        recovery := { x.recovery with stoppage := some cause }
        cond := report x.cond ⟨.stoppage, cause, 0⟩ })) ∧
    (code = .ready ∨ code = .running → x.recovery.stoppage = some cause →
      ∃ t : State, exec (.upstreamHalf i half) s = .next t ∧
        (s.meanwhile = [] ∨ chargedOf x.queue = [] → LocalTo i s.passSlot t ∧
          (t.st i).queue = [] ∧ (t.st i).line.confirmed = some code ∧ (t.st i).request = .idle ∧
          (t.st i).recovery.stoppage = none ∧ (t.st i).recovery.stallTimer = none ∧
          (t.st i).cond.jam = some ⟨.recovery, cause, (chargedOf x.queue).length⟩ ∧
          (t.st i).cond.lineLatest = some (if code = .ready then .ready else .running) ∧
          (t.st i).meters.writtenOff % 1000000000 =
            (x.meters.writtenOff + (x.queue.map (·.impressions)).sum) % 1000000000 ∧
          (t.st i).hold = (match x.hold with
            | .none => .none | .requested => .held | .held => .held | .releasing => .none)) ∧
        (x.session.state = .none ∨ x.session.state = .authorizing ∨ x.session.state = .opened → chargedOf x.queue = [] →
          LocalTo i s.passSlot t ∧ t.journal = s.journal ∧ t.accounts = s.accounts ∧ t.cards = s.cards ∧
          (t.st i).session = x.session ∧ (t.st i).line = { calmLine x with confirmed := some code } ∧
          (t.st i).recovery = { x.recovery with stoppage := none, stallTimer := none }) ∧
        (x.session.state = .stalled → x.session.closePending = none → s.meanwhile = [] →
          t.journal = s.journal ∧ t.cards = s.cards ∧ (t.st i).session.state = .opened ∧
          (t.st i).session.number = x.session.number ∧ (t.st i).session.payer = x.session.payer ∧
          (t.st i).session.fineTotal = x.session.fineTotal - chargedPrices x.queue ∧
          (t.st i).session.impressions = x.session.impressions - chargedImpressions x.queue ∧
          (t.st i).recovery = { x.recovery with stoppage := none, stallTimer := none }) ∧
        (∀ r payer, x.session.state = .stalled → x.session.closePending = some r → x.session.payer = some payer →
          x.session.spent = x.session.fineTotal / 100 → s.meanwhile = [] →
          let total := x.session.fineTotal - chargedPrices x.queue
          (t.st i).session = Session.ended x.session.number ∧
          (t.st i).meters.sessionsClosed = (x.meters.sessionsClosed + 1) % 1000000000 ∧
          (t.st i).recovery = ⟨none, none, if x.recovery.disablePending then .outOfService else x.recovery.availability,
            false⟩ ∧
          ∃ k, t.journal.records = s.journal.records ++ [k] ∧ k.journalNumber = s.journal.nextNumber ∧
            k.sessionNumber = x.session.number ∧ k.station = i ∧ k.payer = payer ∧ k.reason = r ∧
            k.stallCount = x.session.stallCount ∧ k.closeTime = s.journal.clock ∧
            (total % 100 < 50 → k.cent = .none ∧ k.spent = total / 100) ∧
            (50 ≤ total % 100 → (k.cent = .posted ∧ k.spent = total / 100 + 1) ∨
              (k.cent = .waived ∧ k.spent = total / 100))) ∧
        ∀ (e f : InFlight) (a : Account) (number : BitVec 24),
          x.session.state = .stalled → x.session.closePending = none →
          x.queue = [e, f] → e.kind = .charged → f.kind = .charged → number.toNat ≠ 0 →
          x.session.payer = some (.account number.toNat) → findAccount s.accounts number.toNat = some a → lineIdle s →
          let first := min 9999999 (a.balance + unitsReturned x.session e.price)
          let back := unitsReturned (creditedSession x.session e 0) f.price
          (∀ (amount : BitVec 32) (more : List (List Meanwhile)),
            s.meanwhile = [.request (.accountAdjust number amount)] :: [] :: more →
            let between := if floorOf s.accounts.ranges number.toNat ≤ first + amount.toInt ∧
              first + amount.toInt ≤ 9999999 then first + amount.toInt else first
            findAccount t.accounts number.toNat = some { a with balance := min 9999999 (between + back) } ∧
            (t.st i).session.state = .opened ∧ t.meanwhile = more ∧
            ∃ status body, t.host.reply = .waiting ⟨0x12, status, body⟩ ∧
              (status = .ok ↔ floorOf s.accounts.ranges number.toNat ≤ first + amount.toInt ∧
                first + amount.toInt ≤ 9999999)) ∧
          (∀ more : List (List Meanwhile), a.frozen = false →
            (∀ j, j ≠ i → (s.st j).session.payer ≠ some (.account number.toNat)) →
            s.meanwhile = [.request (.accountFreeze number)] :: [] :: more →
            (t.st i).session = Session.ended x.session.number ∧ t.meanwhile = more ∧
            (let carry := (x.session.fineTotal - e.price - f.price) % 100
             let second := min 9999999 (first + back)
             let cent := if 50 ≤ carry ∧ floorOf s.accounts.ranges number.toNat ≤ second - 1 then 1 else 0
             ∃ b, findAccount t.accounts number.toNat = some b ∧ b.frozen = true ∧ b.balance = second - cent) ∧
            (∃ k, t.journal.records = s.journal.records ++ [k] ∧ k.reason = .frozen ∧
              k.sessionNumber = x.session.number) ∧
            ∃ body, t.host.reply = .waiting ⟨0x13, .ok, body⟩))

/-! ## The stations: sessions -/

/-- A CARD (sections 2.3, 7.2, 7.3 and 7.6). Where a session exists, or an opening check fails, the first that fails is the
reason of a REFUSED, and nothing else changes but a running idle timer, which is reloaded. Otherwise the session takes its
number from the counter. With the link UP it is AUTHORIZING, with an INITIAL entry for the initial hold and its AUTH REQUEST;
with the link DOWN stand-in decides at once: OPEN with payer STANDIN and the grant as authority, or NONE again with
REFUSED(OFFLINE). At an ABSENT station a REFUSED is discarded, and no ANOMALY is raised (section 1.8). That a CARD command is the delivery alone, and that in STOPPING a CARD where a session exists is refused SESSION
and not STOPPED, is the model's choice (log entries 3 and 21). -/
def Obligations.CardsOpenSessions : Prop :=
  ∀ (i : StationId) (t : Token) (k : CardClass) (s : State), s.inFrame i = true →
    let x := s.st i
    let refused := fun r : RefusedReason => exec (.card i t k) s = .next (s.upd i fun y => { y with
      idleTimer := y.idleTimer.map fun _ => s.host.timers.idle * 2000
      line := { y.line with down := y.line.down ++ [.refused r] } })
    let room := s.journal.records.length + (allStations.filter fun j => (s.st j).session.state ≠ .none).length < 512
    let pass := x.session.state = .none ∧ s.host.op = .running ∧ x.recovery.availability = .enabled ∧
      s.journal.level ≠ .must ∧ room ∧ s.cards.policy.initialHold ≠ 0
    let next := if s.nextSession < 65535 then s.nextSession + 1 else 1
    (x.line.present = true → x.line.down.length < 4 →
      (x.session.state ≠ .none → refused .session) ∧
      (x.session.state = .none →
        (s.host.op ≠ .running → refused .stopped) ∧
        (s.host.op = .running → x.recovery.availability = .outOfService → refused .outOfService) ∧
        (s.host.op = .running → x.recovery.availability = .enabled → s.journal.level = .must ∨ ¬ room →
          refused .journal) ∧
        (s.host.op = .running → x.recovery.availability = .enabled → s.journal.level ≠ .must → room →
          s.cards.policy.initialHold = 0 → refused .cardsOff))) ∧
    (x.line.present = false → ¬ pass →
      exec (.card i t k) s = .next (s.upd i fun y => { y with
        idleTimer := y.idleTimer.map fun _ => s.host.timers.idle * 2000 })) ∧
    (pass → x.request = .idle → s.host.linkUp = true →
      (∀ j e, (s.st j).auth = some e → e.reference ≠ s.cards.nextReference) →
      exec (.card i t k) s = .next { s.upd i (fun y => { y with
          session := { Session.ended s.nextSession with
            state := .authorizing, payer := some (.card t), cardClass := some k
            tariffClass := some s.cards.policy.tariffClass }
          idleTimer := none
          auth := some ⟨s.cards.nextReference, s.nextSession, .initial, s.cards.policy.initialHold, t,
            s.host.timers.auth * 2000⟩
          cond := { y.cond with
            session := true
            authRequest := some ⟨s.cards.nextReference, s.nextSession, .initial, s.cards.policy.initialHold, t⟩ } }) with
        nextSession := next
        cards := { s.cards with
          nextReference := if s.cards.nextReference < 65535 then s.cards.nextReference + 1 else 1 } }) ∧
    (pass → x.request = .idle → s.host.linkUp = false → x.recovery.stoppage = none →
      ∃ u : State, exec (.card i t k) s = .next u ∧ LocalTo i s u ∧ u.nextSession = next ∧ u.journal = s.journal ∧
        u.accounts = s.accounts ∧
        (StandInMayGrant s t →
          (u.st i).session = { Session.ended s.nextSession with
            state := .opened, payer := some (.standIn t), cardClass := some k
            tariffClass := some s.cards.policy.tariffClass, authority := some (grantOf s)
            openTime := some s.journal.clock } ∧
          u.cards = { s.cards with
            standIn := s.cards.standIn ++ [⟨t, grantOf s, s.nextSession, i, false⟩] } ∧
          (x.line.present = true → x.line.down.length < 4 →
            (u.st i).line = { x.line with down := x.line.down ++ [.opened .standIn (grantOf s)] })) ∧
        (¬ StandInMayGrant s t →
          (u.st i).session = Session.ended s.nextSession ∧ u.cards = s.cards ∧
          (x.line.present = true → x.line.down.length < 4 →
            (u.st i).line = { x.line with down := x.line.down ++ [.refused .offline] })))

/-- An ACCOUNT (sections 2.3 and 6.3). Where a session exists, an opening check fails, or the account unit refuses, the first
that fails is the reason of a REFUSED, and nothing else changes but a running idle timer, which is reloaded. Otherwise the
session takes its number from the counter and is OPEN with the account as payer and its range's tariff class, the account's
open sessions grow by one, and OPENED is offered with the available funds. With the stoppage condition set and the hold NONE or
REQUESTED it opens into STALLED: the stall is counted and the stall timer started (sections 2.3, 5.2). A REFUSED offered with four
messages in the downstream queue goes to its tail in place of the oldest unsent SHOW, or is discarded with ANOMALY DOWN_FULL; at an
ABSENT station a REFUSED and an OPENED are discarded, and no ANOMALY is raised (section 1.8). That an ACCOUNT command is the delivery alone, and that in STOPPING an ACCOUNT where a session exists is refused
SESSION and not STOPPED, is the model's choice (log entries 3 and 21). -/
def Obligations.AccountsOpenSessions : Prop :=
  ∀ (i : StationId) (number : BitVec 24) (s : State), s.inFrame i = true →
    let x := s.st i
    let n := number.toNat
    let refused := fun r : RefusedReason => exec (.account i number) s = .next (s.upd i fun y => { y with
      idleTimer := y.idleTimer.map fun _ => s.host.timers.idle * 2000
      line := { y.line with down := y.line.down ++ [.refused r] } })
    let room := s.journal.records.length + (allStations.filter fun j => (s.st j).session.state ≠ .none).length < 512
    let pass := x.session.state = .none ∧ s.host.op = .running ∧ x.recovery.availability = .enabled ∧ room
    (x.line.present = true → x.line.down.length < 4 →
      (x.session.state ≠ .none → refused .session) ∧
      (x.session.state = .none →
        (s.host.op ≠ .running → refused .stopped) ∧
        (s.host.op = .running → x.recovery.availability = .outOfService → refused .outOfService) ∧
        (s.host.op = .running → x.recovery.availability = .enabled → ¬ room → refused .journal)) ∧
      (pass → containingRange s.accounts.ranges n = none ∨ findAccount s.accounts n = none → refused .unknown) ∧
      (∀ r a, pass → containingRange s.accounts.ranges n = some r → findAccount s.accounts n = some a → a.number = n →
        (a.frozen = true → refused .frozen) ∧
        (a.frozen = false → a.maxSessions ≤ a.openSessions → refused .inUse) ∧
        (a.frozen = false → a.openSessions < a.maxSessions → a.balance - floorOf s.accounts.ranges n < 1 →
          refused .funds))) ∧
    (x.line.present = true → x.line.down.length = 4 → x.session.state ≠ .none →
      ∃ u : State, exec (.account i number) s = .next u ∧ LocalTo i s u ∧ (u.st i).session = x.session ∧
        OfferedToFull (.refused .session) x.line x.cond (u.st i).line.down (u.st i).cond) ∧
    (x.line.present = false →
      ¬ pass ∨ containingRange s.accounts.ranges n = none ∨ findAccount s.accounts n = none ∨
        (∃ a, findAccount s.accounts n = some a ∧ a.number = n ∧
          (a.frozen = true ∨ a.maxSessions ≤ a.openSessions ∨ a.balance - floorOf s.accounts.ranges n < 1)) →
      exec (.account i number) s = .next (s.upd i fun y => { y with
        idleTimer := y.idleTimer.map fun _ => s.host.timers.idle * 2000 })) ∧
    (∀ r a, pass → containingRange s.accounts.ranges n = some r → findAccount s.accounts n = some a → a.number = n →
      a.frozen = false → a.openSessions < a.maxSessions → 1 ≤ a.balance - floorOf s.accounts.ranges n →
      x.request = .idle → (x.line.present = true → x.line.down.length < 4) →
      let stalls : Bool := x.recovery.stoppage.isSome && (x.hold = .none ∨ x.hold = .requested)
      ∃ t : State, exec (.account i number) s = .next t ∧
        t = { s.upd i (fun y => { y with
            session := { Session.ended s.nextSession with
              state := if stalls then .stalled else .opened
              payer := some (.account n), tariffClass := some r.tariffClass
              openTime := some s.journal.clock, stallCount := if stalls then 1 else 0 }
            idleTimer := if stalls then none else (t.st i).idleTimer
            recovery := { y.recovery with
              stallTimer := if stalls then some (s.host.timers.stall * 60 * 2000) else y.recovery.stallTimer }
            meters := { y.meters with
              stalls := if stalls then (y.meters.stalls + 1) % 1000000000 else y.meters.stalls }
            line := if y.line.present then { y.line with down := y.line.down ++
              [.opened .account (a.balance - floorOf s.accounts.ranges n).toNat] } else y.line
            cond := { y.cond with session := true } }) with
          nextSession := if s.nextSession < 65535 then s.nextSession + 1 else 1
          accounts := { s.accounts with accounts := t.accounts.accounts } } ∧
        findAccount t.accounts n = some { a with openSessions := a.openSessions + 1 } ∧
        ∀ m, m ≠ n → findAccount t.accounts m = findAccount s.accounts m)

/-- FINISH, and the idle timer's expiry with the timer run out, at an OPEN session. With a CHARGED entry in the queue the session
is DRAINING with the reason. With none it closes: a remainder of 50 fine units or more is posted as one minor unit where the
payer covers it, and waived otherwise; the record is appended and numbered, and the urgency level rises by the occupancy; CLOSED
is offered, in a full downstream queue in place of the oldest unsent SHOW, or ANOMALY DOWN_FULL is raised, and at an ABSENT station
it is discarded with no ANOMALY; the sessions closed meter moves, the session is NONE with its number kept, and a STOPPING part becomes STOPPED with the last session. The payer is
updated: an account is settled; a CARD session's INCREMENT entry goes with cancel, cause CLOSED; a STANDIN session's entry is
SETTLED at the final spent, or removed where that is 0. A pick raised between the idle expiry and the close is stopped CLOSING.
FINISH leaves an AUTHORIZING or STALLED session its reason as close pending, unless it holds one, and changes nothing at a DRAINING
one or with none; an idle expiry without an OPEN session, or with the timer running yet, changes nothing (sections 1.8, 2.2, 2.4 to
2.6, 3.7, 7.4, 7.5, 8.1 and 8.4). That the expiry is a command, and that the tape of the gaps says
what comes between it and the close, is the model's choice (log entries 3 and 20). -/
def Obligations.FinishAndIdleCloseSessions : Prop :=
  (∀ (i : StationId) (s : State), s.inFrame i = true →
     ((s.st i).idleTimer ≠ some 0 ∨ (s.st i).session.state ≠ .opened → exec (.idleExpiry i) s = .next s) ∧
     (∀ p more, (s.st i).idleTimer = some 0 → (s.st i).session.state = .opened → (s.st i).line.present = true →
       (s.st i).line.latch = .idle → (s.st i).request = .idle → s.meanwhile = [.pick i p] :: more →
       ∃ t : State, exec (.idleExpiry i) s = .next t ∧ (t.st i).line.latch = .answeredStop .closing ∧
         (t.st i).line.serial = ((s.st i).line.serial + 1) % 256 ∧ (t.st i).request = .idle ∧ t.meanwhile = more ∧
         (t.st i).queue = (s.st i).queue ∧
         ((∀ e ∈ (s.st i).queue, e.kind ≠ .charged) →
           (t.st i).session = Session.ended (s.st i).session.number))) ∧
  (∀ (i : StationId) (s : State) (c : Instr) (reason : CloseReason), s.inFrame i = true →
     (c, reason) = (.finish i, .finish) ∨
       ((c, reason) = (.idleExpiry i, .idle) ∧ (s.st i).idleTimer = some 0 ∧ s.meanwhile = []) →
     let x := s.st i
     (x.session.state = .none ∨ x.session.state = .draining → reason = .finish →
       exec c s = .next (s.upd i fun y => { y with idleTimer := y.idleTimer.map fun _ => s.host.timers.idle * 2000 })) ∧
     (x.session.state = .authorizing ∨ x.session.state = .stalled → reason = .finish →
       exec c s = .next (s.upd i fun y => { y with
         idleTimer := y.idleTimer.map fun _ => s.host.timers.idle * 2000
         session := { y.session with closePending := some (y.session.closePending.getD .finish) } })) ∧
     (x.session.state = .opened → x.request = .idle → (∃ e ∈ x.queue, e.kind = .charged) →
       exec c s = .next (s.upd i fun y => { y with
         session := { y.session with state := .draining, closeReason := some reason, closePending := none }
         idleTimer := none, cond := { y.cond with session := true } })) ∧
     (∀ payer, x.session.state = .opened → x.request = .idle → (∀ e ∈ x.queue, e.kind ≠ .charged) →
       x.session.payer = some payer →
       ∃ (t : State) (cent : ClosingCent) (spent : Nat), exec c s = .next t ∧ LocalTo i s t ∧
         FinalSpent s x.session cent spent ∧
         t.journal.records = s.journal.records ++ [closeRecord s i x.session payer reason cent spent] ∧
         t.journal.nextNumber = (s.journal.nextNumber + 1) % 4294967296 ∧
         t.journal.level = risenLevel (s.journal.records.length + 1) s.journal.level ∧
         t.host.journalFlag = (s.host.journalFlag || (t.journal.level != s.journal.level)) ∧
         (LastSession s i → t.host.op = .stopped) ∧ (¬ LastSession s i → t.host.op = s.host.op) ∧
         (t.st i).session = Session.ended x.session.number ∧ (t.st i).idleTimer = none ∧ (t.st i).queue = x.queue ∧
         (t.st i).meters = { x.meters with sessionsClosed := (x.meters.sessionsClosed + 1) % 1000000000 } ∧
         (x.line.present = true → x.line.down.length < 4 →
           (t.st i).line.down = x.line.down ++ [.closed spent cent]) ∧
         (x.line.present = true → x.line.down.length = 4 → x.auth = none → x.recovery.disablePending = false →
           OfferedToFull (.closed spent cent) x.line { x.cond with session := true } (t.st i).line.down (t.st i).cond) ∧
         (x.line.present = false → (t.st i).line = x.line ∧
           (t.st i).cond.anomalies = x.cond.anomalies ∧ (t.st i).cond.latestAnomaly = x.cond.latestAnomaly) ∧
         (∀ n a, payer = .account n → findAccount s.accounts n = some a → a.number = n → t.cards = s.cards ∧
           findAccount t.accounts n = some { a with
             balance := a.balance - (if cent = .posted then 1 else 0), openSessions := a.openSessions - 1
             lifetimeSpend := (a.lifetimeSpend + spent) % 1000000000, lastUse := s.journal.clock } ∧
           (∀ m, m ≠ n → findAccount t.accounts m = findAccount s.accounts m)) ∧
         (∀ k, payer = .card k → t.accounts = s.accounts ∧ t.cards = s.cards ∧
           (∀ e, x.auth = some e → e.kind = .increment → EntryCancelled x (t.st i) e.reference .closed) ∧
           (x.auth = none → (t.st i).auth = none ∧ (t.st i).cond.authCancel = x.cond.authCancel)) ∧
         (∀ k before e after, payer = .standIn k → s.cards.standIn = before ++ e :: after → e.token = k →
           (∀ f ∈ before ++ after, f.token ≠ k) → t.accounts = s.accounts ∧
           t.cards = { s.cards with standIn :=
             if spent = 0 then before ++ after
             else before ++ { e with amount := spent, settled := true } :: after })))

/-- STALL_TIMER_EXPIRY at a STALLED session whose timer has run out: the queue is emptied, its impressions joining the written
off meter; the session closes with reason STALL_TIMEOUT and one record; the station is OUT_OF_SERVICE with disable pending and
the stall timer clear; and a STALL_TIMEOUT report with the stoppage cause and the CHARGED entries credited is raised. The stoppage
condition stays. With the timer stopped or running yet, or without a STALLED session, nothing changes. A pick of another session
on the same account that comes between two credits is judged against the balance that the first has left, and the second credit
and the closing cent against the balance that it leaves; so is the closing cent of a DRAINING session whose last sheet exits there.
The credits of a recovery of another session on the same account may alternate with those of the expiry, one by one, and each SHOW
gives the funds as the credits before it have left them (sections 2.5, 3.6, 3.7, 5.4, 5.5 and 6.3). That the expiry is a command,
and that the tape of the gaps says what comes between two credits, is the model's choice (log entries 3 and 20): each clause
names its tape, or has an empty one where the queue holds a CHARGED entry. -/
def Obligations.StallTimerExpiryClosesTheSession : Prop :=
  ∀ (i : StationId) (s : State), s.inFrame i = true →
    let x := s.st i
    (x.recovery.stallTimer ≠ some 0 ∨ x.session.state ≠ .stalled → exec (.stallTimerExpiry i) s = .next s) ∧
    (x.recovery.stallTimer = some 0 → x.session.state = .stalled →
      ∃ t : State, exec (.stallTimerExpiry i) s = .next t ∧
        (s.meanwhile = [] ∨ chargedOf x.queue = [] →
          (t.st i).session = Session.ended x.session.number ∧ (t.st i).queue = [] ∧ (t.st i).request = .idle ∧
          (t.st i).recovery = ⟨x.recovery.stoppage, none, .outOfService, false⟩ ∧
          (∀ cause, x.recovery.stoppage = some cause →
            (t.st i).cond.jam = some ⟨.stallTimeout, cause, (x.queue.filter fun e => e.kind == .charged).length⟩) ∧
          (t.st i).cond.session = true ∧
          (x.recovery.availability = .enabled → (t.st i).cond.lineLatest = some (lineState x.line)) ∧
          (t.st i).meters.writtenOff % 1000000000 =
            (x.meters.writtenOff + (x.queue.map (·.impressions)).sum) % 1000000000 ∧
          (t.st i).meters.sessionsClosed = (x.meters.sessionsClosed + 1) % 1000000000 ∧
          LocalTo i s t ∧ ∃ r, t.journal.records = s.journal.records ++ [r] ∧
          r.journalNumber = s.journal.nextNumber ∧ r.sessionNumber = x.session.number ∧ r.station = i ∧
          r.reason = .stallTimeout ∧ r.closeTime = s.journal.clock ∧ r.stallCount = x.session.stallCount) ∧
        ∀ (j : StationId) (e f : InFlight) (a : Account) (n : Nat) (more : List (List Meanwhile)),
          let y := s.st j
          let first := min 9999999 (a.balance + unitsReturned x.session e.price)
          let after := creditedSession (creditedSession x.session e 0) f 0
          let ends := fun left : Int =>
            let second := min 9999999 (left + unitsReturned (creditedSession x.session e 0) f.price)
            let cent := if 50 ≤ after.fineTotal % 100 ∧ floorOf s.accounts.ranges n ≤ second - 1 then 1 else 0
            (∃ b, findAccount t.accounts n = some b ∧ b.balance = second - cent) ∧ t.meanwhile = more
          j ≠ i → s.inFrame j = true → x.queue = [e, f] → e.kind = .charged → f.kind = .charged →
          x.session.payer = some (.account n) → findAccount s.accounts n = some a → a.number = n →
          y.line.present = true → y.session.payer = some (.account n) → y.hold = .none →
          (∀ (base : Nat) (k : Fin 8) (p : SheetSpec),
            let price := costOf s k base y.session p
            let delta := unitsPosted y.session price
            s.meanwhile = [.pick j p] :: [] :: more → y.line.latch = .idle → y.session.state = .opened →
            y.session.tariffClass = some k → y.queue.length < 8 → p.sides = 1 ∨ p.sides = 2 →
            basePrice s.charge k p.media p.colour = some base → ¬ PastLimits y.session p price →
            let taken : Bool := delta = 0 ∨ floorOf s.accounts.ranges n ≤ first - delta
            (t.st j).line.latch = (if taken then .answeredGo else .answeredStop .funds) ∧
            (t.st j).queue = (if taken then y.queue ++ [sheetEntry s .charged p price] else y.queue) ∧
            ends (if taken then first - delta else first)) ∧
          (∀ (g : InFlight) (r : CloseReason), s.meanwhile = [.exits j 1] :: [] :: more → y.request = .idle →
            y.session.state = .draining → y.session.closeReason = some r → y.queue = [g] → g.kind = .charged →
            let posted : Bool := 50 ≤ y.session.fineTotal % 100 ∧ floorOf s.accounts.ranges n ≤ first - 1
            (t.st j).session = Session.ended y.session.number ∧ (t.st j).queue = [] ∧
            ends (if posted then first - 1 else first)) ∧
          (∀ (g h : InFlight) (cause : Cause),
            s.meanwhile = [.recovered j false, .advance j] :: [.advance j, .advance j] :: more →
            y.recovery.stoppage = some cause → y.line.confirmed ≠ some .ready → y.session.state = .stalled →
            y.session.closePending = none → y.request = .idle → y.queue = [g, h] → g.kind = .charged → h.kind = .charged →
            x.line.present = true → x.line.down = [] → y.line.down = [] →
            let second := min 9999999 (first + unitsReturned y.session g.price)
            let third := min 9999999 (second + unitsReturned (creditedSession x.session e 0) f.price)
            let fourth := min 9999999 (third + unitsReturned (creditedSession y.session g 0) h.price)
            let shown := fun (z : Session) (balance : Int) =>
              DownMsg.showing z.spent (balance - floorOf s.accounts.ranges n).toNat
            let cent := if 50 ≤ after.fineTotal % 100 ∧ floorOf s.accounts.ranges n ≤ fourth - 1 then 1 else 0
            (t.st i).line.down.take 2 = [shown (creditedSession x.session e 0) first, shown after third] ∧
            (t.st j).line.down = [shown (creditedSession y.session g 0) second,
              shown (creditedSession (creditedSession y.session g 0) h 0) fourth] ∧
            (t.st j).session.state = .opened ∧ (t.st j).recovery.stoppage = none ∧
            (∃ b, findAccount t.accounts n = some b ∧ b.balance = fourth - cent) ∧ t.meanwhile = more))

/-- The authorization timer. With no entry of its kind whose timer has run out, an expiry changes nothing. The entry is removed;
its AUTH REQUEST is withdrawn where it has not begun sending, and otherwise an AUTH CANCEL with cause TIMEOUT is raised. After an
INITIAL one stand-in decides for the AUTHORIZING session: OPEN with payer STANDIN and the grant as authority, with an OPEN entry
of the stand-in list; or NONE with REFUSED(OFFLINE). After an INCREMENT one the no-more-increments flag is set, and a waiting pick
is evaluated again: one that the authority covers is granted, and any other gets STOP(FUNDS) (sections 4.2, 4.3, 7.3, 7.4 and
7.6). That the expiry is a command, which changes nothing where the timer has not run out, is the model's choice (log entry
3). -/
def Obligations.AuthorizationTimeouts : Prop :=
  ∀ (i : StationId) (s : State), s.inFrame i = true →
    let x := s.st i
    ((∀ e, x.auth = some e → e.kind ≠ .initial ∨ e.left ≠ 0) → exec (.initialAuthTimeout i) s = .next s) ∧
    ((∀ e, x.auth = some e → e.kind ≠ .increment ∨ e.left ≠ 0) → exec (.incrementAuthTimeout i) s = .next s) ∧
    (∀ e, x.auth = some e → e.left = 0 → e.kind = .increment → ∀ p price, WaitsFor x p → CardAffords s x p price →
      ∃ u : State, exec (.incrementAuthTimeout i) s = .next u ∧ LocalTo i s u ∧
        EntryCancelled x (u.st i) e.reference .timeout ∧ (u.st i).request = .idle ∧
        (x.session.authority.getD 0 < x.session.spent + unitsPosted x.session price →
          (u.st i).line.latch = .answeredStop .funds ∧ (u.st i).queue = x.queue ∧
          (u.st i).session = { x.session with noMoreIncrements := true }) ∧
        (x.session.spent + unitsPosted x.session price ≤ x.session.authority.getD 0 →
          (u.st i).line.latch = .answeredGo ∧ (u.st i).queue = x.queue ++ [sheetEntry s .charged p price] ∧
          (u.st i).session = { chargedSession x.session p price with noMoreIncrements := true })) ∧
    (∀ e, x.auth = some e → e.left = 0 → x.request = .idle →
      (e.kind = .increment →
        (Unsent x e.reference → exec (.incrementAuthTimeout i) s = .next (s.upd i fun y => { y with
          auth := none, cond := { y.cond with authRequest := none }
          session := { y.session with noMoreIncrements := true } })) ∧
        (¬ Unsent x e.reference → exec (.incrementAuthTimeout i) s = .next (s.upd i fun y => { y with
          auth := none, cond := { y.cond with authCancel := some ⟨e.reference, .timeout⟩ }
          session := { y.session with noMoreIncrements := true } }))) ∧
      (∀ t, e.kind = .initial → x.session.state = .authorizing → x.session.payer = some (.card t) →
        x.session.closePending = none → x.recovery.stoppage = none →
        ∃ u : State, exec (.initialAuthTimeout i) s = .next u ∧ LocalTo i s u ∧
          EntryCancelled x (u.st i) e.reference .timeout ∧
          u.journal = s.journal ∧ u.accounts = s.accounts ∧
          (StandInMayGrant s t →
            (u.st i).session = { x.session with
              state := .opened, payer := some (.standIn t), authority := some (grantOf s), increments := 0
              noMoreIncrements := false, openTime := some s.journal.clock } ∧
            u.cards = { s.cards with
              standIn := s.cards.standIn ++ [⟨t, grantOf s, x.session.number, i, false⟩] } ∧
            (x.line.present = true → x.line.down.length < 4 →
              (u.st i).line = { x.line with down := x.line.down ++ [.opened .standIn (grantOf s)] })) ∧
          (¬ StandInMayGrant s t →
            (u.st i).session = Session.ended x.session.number ∧ u.cards = s.cards ∧
            (x.line.present = true → x.line.down.length < 4 →
              (u.st i).line = { x.line with down := x.line.down ++ [.refused .offline] }))))
end

