-- ==== Sys2Proof/Laws/State.lean ====
section
/-!
SUPPORT. The small lemmas of the state operations: what each update leaves in each field, each true by `rfl` or by the
lemmas of `Vector`, tagged for the simplifier so that no proof unfolds a record update.
-/

namespace Sys2Proof.Machine

/-! ## One station -/

@[simp] theorem st_upd_self (s : State) (i : StationId) (f : Station → Station) : (s.upd i f).st i = f (s.st i) := by
  simp [State.st, State.upd]

theorem st_upd_ne (s : State) {i j : StationId} (f : Station → Station) (h : j ≠ i) : (s.upd i f).st j = s.st j := by
  have h' : i.val ≠ j.val := fun e => h (Fin.ext e.symm)
  simp [State.st, State.upd, h']

/-- What any station holds after an update of one. -/
theorem st_upd (s : State) (i j : StationId) (f : Station → Station) :
    (s.upd i f).st j = if j = i then f (s.st i) else s.st j := by
  by_cases h : j = i
  · subst h; simp
  · simp [h, st_upd_ne]

@[simp] theorem st_updAll (s : State) (f : Station → Station) (i : StationId) : (s.updAll f).st i = f (s.st i) := by
  simp [State.st, State.updAll]

/-- Two states that agree on every station and on every other field are equal. -/
theorem State.ext_st {s t : State} (hst : ∀ i, s.st i = t.st i) (h1 : s.nextSession = t.nextSession)
    (h2 : s.charge = t.charge) (h3 : s.accounts = t.accounts) (h4 : s.cards = t.cards) (h5 : s.journal = t.journal)
    (h6 : s.host = t.host) (h7 : s.choiceTape = t.choiceTape) (h8 : s.choiceCount = t.choiceCount)
    (h9 : s.pending = t.pending) (h10 : s.slot = t.slot) (h11 : s.meanwhile = t.meanwhile) : s = t := by
  cases s; cases t
  simp only [State.st] at *
  simp only [State.mk.injEq, *, and_true]
  apply Vector.ext
  intro k hk
  exact hst ⟨k, hk⟩

theorem upd_upd (s : State) (i : StationId) (f g : Station → Station) :
    (s.upd i f).upd i g = s.upd i fun x => g (f x) := by
  simp [State.upd]

/-- Two updates of one station agree where their results on what it holds agree. -/
theorem upd_congr {s : State} {i : StationId} {f g : Station → Station} (h : f (s.st i) = g (s.st i)) :
    s.upd i f = s.upd i g := by
  have h' : f s.stations[i] = g s.stations[i] := h
  simp only [State.upd, h']

theorem upd_id (s : State) (i : StationId) {f : Station → Station} (h : f (s.st i) = s.st i) : s.upd i f = s := by
  refine State.ext_st (fun j => ?_) rfl rfl rfl rfl rfl rfl rfl rfl rfl rfl rfl
  rw [st_upd]; split
  · next e => rw [e, h]
  · rfl

/-! ## Updates of one station's parts -/

@[simp] theorem st_updSession (s : State) (i : StationId) (f : Session → Session) :
    (s.updSession i f).st i = { s.st i with session := f (s.st i).session } := by simp [State.updSession]

theorem st_updSession_ne (s : State) {i j : StationId} (f : Session → Session) (h : j ≠ i) :
    (s.updSession i f).st j = s.st j := st_upd_ne s _ h

@[simp] theorem st_updLine (s : State) (i : StationId) (f : StationLine → StationLine) :
    (s.updLine i f).st i = { s.st i with line := f (s.st i).line } := by simp [State.updLine]

theorem st_updLine_ne (s : State) {i j : StationId} (f : StationLine → StationLine) (h : j ≠ i) :
    (s.updLine i f).st j = s.st j := st_upd_ne s _ h

@[simp] theorem st_updCond (s : State) (i : StationId) (f : Conditions → Conditions) :
    (s.updCond i f).st i = { s.st i with cond := f (s.st i).cond } := by simp [State.updCond]

theorem st_updCond_ne (s : State) {i j : StationId} (f : Conditions → Conditions) (h : j ≠ i) :
    (s.updCond i f).st j = s.st j := st_upd_ne s _ h

@[simp] theorem st_updRecovery (s : State) (i : StationId) (f : Recovery → Recovery) :
    (s.updRecovery i f).st i = { s.st i with recovery := f (s.st i).recovery } := by simp [State.updRecovery]

theorem st_updRecovery_ne (s : State) {i j : StationId} (f : Recovery → Recovery) (h : j ≠ i) :
    (s.updRecovery i f).st j = s.st j := st_upd_ne s _ h

@[simp] theorem st_updMeters (s : State) (i : StationId) (f : Meters → Meters) :
    (s.updMeters i f).st i = { s.st i with meters := f (s.st i).meters } := by simp [State.updMeters]

theorem st_updMeters_ne (s : State) {i j : StationId} (f : Meters → Meters) (h : j ≠ i) :
    (s.updMeters i f).st j = s.st j := st_upd_ne s _ h

/-! ## What an update of the stations leaves -/

@[simp] theorem upd_nextSession (s : State) (i : StationId) (f : Station → Station) : (s.upd i f).nextSession = s.nextSession := rfl
@[simp] theorem upd_charge (s : State) (i : StationId) (f : Station → Station) : (s.upd i f).charge = s.charge := rfl
@[simp] theorem upd_accounts (s : State) (i : StationId) (f : Station → Station) : (s.upd i f).accounts = s.accounts := rfl
@[simp] theorem upd_cards (s : State) (i : StationId) (f : Station → Station) : (s.upd i f).cards = s.cards := rfl
@[simp] theorem upd_journal (s : State) (i : StationId) (f : Station → Station) : (s.upd i f).journal = s.journal := rfl
@[simp] theorem upd_host (s : State) (i : StationId) (f : Station → Station) : (s.upd i f).host = s.host := rfl
@[simp] theorem upd_choiceTape (s : State) (i : StationId) (f : Station → Station) : (s.upd i f).choiceTape = s.choiceTape := rfl
@[simp] theorem upd_choiceCount (s : State) (i : StationId) (f : Station → Station) : (s.upd i f).choiceCount = s.choiceCount := rfl
@[simp] theorem upd_pending (s : State) (i : StationId) (f : Station → Station) : (s.upd i f).pending = s.pending := rfl
@[simp] theorem upd_slot (s : State) (i : StationId) (f : Station → Station) : (s.upd i f).slot = s.slot := rfl
@[simp] theorem upd_meanwhile (s : State) (i : StationId) (f : Station → Station) : (s.upd i f).meanwhile = s.meanwhile := rfl

@[simp] theorem updAll_nextSession (s : State) (f : Station → Station) : (s.updAll f).nextSession = s.nextSession := rfl
@[simp] theorem updAll_charge (s : State) (f : Station → Station) : (s.updAll f).charge = s.charge := rfl
@[simp] theorem updAll_accounts (s : State) (f : Station → Station) : (s.updAll f).accounts = s.accounts := rfl
@[simp] theorem updAll_cards (s : State) (f : Station → Station) : (s.updAll f).cards = s.cards := rfl
@[simp] theorem updAll_journal (s : State) (f : Station → Station) : (s.updAll f).journal = s.journal := rfl
@[simp] theorem updAll_host (s : State) (f : Station → Station) : (s.updAll f).host = s.host := rfl
@[simp] theorem updAll_choiceTape (s : State) (f : Station → Station) : (s.updAll f).choiceTape = s.choiceTape := rfl
@[simp] theorem updAll_choiceCount (s : State) (f : Station → Station) : (s.updAll f).choiceCount = s.choiceCount := rfl
@[simp] theorem updAll_pending (s : State) (f : Station → Station) : (s.updAll f).pending = s.pending := rfl
@[simp] theorem updAll_slot (s : State) (f : Station → Station) : (s.updAll f).slot = s.slot := rfl
@[simp] theorem updAll_meanwhile (s : State) (f : Station → Station) : (s.updAll f).meanwhile = s.meanwhile := rfl

@[simp] theorem updSession_nextSession (s : State) (i : StationId) (f : Session → Session) : (s.updSession i f).nextSession = s.nextSession := rfl
@[simp] theorem updSession_charge (s : State) (i : StationId) (f : Session → Session) : (s.updSession i f).charge = s.charge := rfl
@[simp] theorem updSession_accounts (s : State) (i : StationId) (f : Session → Session) : (s.updSession i f).accounts = s.accounts := rfl
@[simp] theorem updSession_cards (s : State) (i : StationId) (f : Session → Session) : (s.updSession i f).cards = s.cards := rfl
@[simp] theorem updSession_journal (s : State) (i : StationId) (f : Session → Session) : (s.updSession i f).journal = s.journal := rfl
@[simp] theorem updSession_host (s : State) (i : StationId) (f : Session → Session) : (s.updSession i f).host = s.host := rfl
@[simp] theorem updSession_choiceTape (s : State) (i : StationId) (f : Session → Session) : (s.updSession i f).choiceTape = s.choiceTape := rfl
@[simp] theorem updSession_choiceCount (s : State) (i : StationId) (f : Session → Session) : (s.updSession i f).choiceCount = s.choiceCount := rfl
@[simp] theorem updSession_pending (s : State) (i : StationId) (f : Session → Session) : (s.updSession i f).pending = s.pending := rfl
@[simp] theorem updSession_slot (s : State) (i : StationId) (f : Session → Session) : (s.updSession i f).slot = s.slot := rfl
@[simp] theorem updSession_meanwhile (s : State) (i : StationId) (f : Session → Session) : (s.updSession i f).meanwhile = s.meanwhile := rfl

@[simp] theorem updLine_nextSession (s : State) (i : StationId) (f : StationLine → StationLine) : (s.updLine i f).nextSession = s.nextSession := rfl
@[simp] theorem updLine_charge (s : State) (i : StationId) (f : StationLine → StationLine) : (s.updLine i f).charge = s.charge := rfl
@[simp] theorem updLine_accounts (s : State) (i : StationId) (f : StationLine → StationLine) : (s.updLine i f).accounts = s.accounts := rfl
@[simp] theorem updLine_cards (s : State) (i : StationId) (f : StationLine → StationLine) : (s.updLine i f).cards = s.cards := rfl
@[simp] theorem updLine_journal (s : State) (i : StationId) (f : StationLine → StationLine) : (s.updLine i f).journal = s.journal := rfl
@[simp] theorem updLine_host (s : State) (i : StationId) (f : StationLine → StationLine) : (s.updLine i f).host = s.host := rfl
@[simp] theorem updLine_choiceTape (s : State) (i : StationId) (f : StationLine → StationLine) : (s.updLine i f).choiceTape = s.choiceTape := rfl
@[simp] theorem updLine_choiceCount (s : State) (i : StationId) (f : StationLine → StationLine) : (s.updLine i f).choiceCount = s.choiceCount := rfl
@[simp] theorem updLine_pending (s : State) (i : StationId) (f : StationLine → StationLine) : (s.updLine i f).pending = s.pending := rfl
@[simp] theorem updLine_slot (s : State) (i : StationId) (f : StationLine → StationLine) : (s.updLine i f).slot = s.slot := rfl
@[simp] theorem updLine_meanwhile (s : State) (i : StationId) (f : StationLine → StationLine) : (s.updLine i f).meanwhile = s.meanwhile := rfl

@[simp] theorem updCond_nextSession (s : State) (i : StationId) (f : Conditions → Conditions) : (s.updCond i f).nextSession = s.nextSession := rfl
@[simp] theorem updCond_charge (s : State) (i : StationId) (f : Conditions → Conditions) : (s.updCond i f).charge = s.charge := rfl
@[simp] theorem updCond_accounts (s : State) (i : StationId) (f : Conditions → Conditions) : (s.updCond i f).accounts = s.accounts := rfl
@[simp] theorem updCond_cards (s : State) (i : StationId) (f : Conditions → Conditions) : (s.updCond i f).cards = s.cards := rfl
@[simp] theorem updCond_journal (s : State) (i : StationId) (f : Conditions → Conditions) : (s.updCond i f).journal = s.journal := rfl
@[simp] theorem updCond_host (s : State) (i : StationId) (f : Conditions → Conditions) : (s.updCond i f).host = s.host := rfl
@[simp] theorem updCond_choiceTape (s : State) (i : StationId) (f : Conditions → Conditions) : (s.updCond i f).choiceTape = s.choiceTape := rfl
@[simp] theorem updCond_choiceCount (s : State) (i : StationId) (f : Conditions → Conditions) : (s.updCond i f).choiceCount = s.choiceCount := rfl
@[simp] theorem updCond_pending (s : State) (i : StationId) (f : Conditions → Conditions) : (s.updCond i f).pending = s.pending := rfl
@[simp] theorem updCond_slot (s : State) (i : StationId) (f : Conditions → Conditions) : (s.updCond i f).slot = s.slot := rfl
@[simp] theorem updCond_meanwhile (s : State) (i : StationId) (f : Conditions → Conditions) : (s.updCond i f).meanwhile = s.meanwhile := rfl

@[simp] theorem updRecovery_nextSession (s : State) (i : StationId) (f : Recovery → Recovery) : (s.updRecovery i f).nextSession = s.nextSession := rfl
@[simp] theorem updRecovery_charge (s : State) (i : StationId) (f : Recovery → Recovery) : (s.updRecovery i f).charge = s.charge := rfl
@[simp] theorem updRecovery_accounts (s : State) (i : StationId) (f : Recovery → Recovery) : (s.updRecovery i f).accounts = s.accounts := rfl
@[simp] theorem updRecovery_cards (s : State) (i : StationId) (f : Recovery → Recovery) : (s.updRecovery i f).cards = s.cards := rfl
@[simp] theorem updRecovery_journal (s : State) (i : StationId) (f : Recovery → Recovery) : (s.updRecovery i f).journal = s.journal := rfl
@[simp] theorem updRecovery_host (s : State) (i : StationId) (f : Recovery → Recovery) : (s.updRecovery i f).host = s.host := rfl
@[simp] theorem updRecovery_choiceTape (s : State) (i : StationId) (f : Recovery → Recovery) : (s.updRecovery i f).choiceTape = s.choiceTape := rfl
@[simp] theorem updRecovery_choiceCount (s : State) (i : StationId) (f : Recovery → Recovery) : (s.updRecovery i f).choiceCount = s.choiceCount := rfl
@[simp] theorem updRecovery_pending (s : State) (i : StationId) (f : Recovery → Recovery) : (s.updRecovery i f).pending = s.pending := rfl
@[simp] theorem updRecovery_slot (s : State) (i : StationId) (f : Recovery → Recovery) : (s.updRecovery i f).slot = s.slot := rfl
@[simp] theorem updRecovery_meanwhile (s : State) (i : StationId) (f : Recovery → Recovery) : (s.updRecovery i f).meanwhile = s.meanwhile := rfl

@[simp] theorem updMeters_nextSession (s : State) (i : StationId) (f : Meters → Meters) : (s.updMeters i f).nextSession = s.nextSession := rfl
@[simp] theorem updMeters_charge (s : State) (i : StationId) (f : Meters → Meters) : (s.updMeters i f).charge = s.charge := rfl
@[simp] theorem updMeters_accounts (s : State) (i : StationId) (f : Meters → Meters) : (s.updMeters i f).accounts = s.accounts := rfl
@[simp] theorem updMeters_cards (s : State) (i : StationId) (f : Meters → Meters) : (s.updMeters i f).cards = s.cards := rfl
@[simp] theorem updMeters_journal (s : State) (i : StationId) (f : Meters → Meters) : (s.updMeters i f).journal = s.journal := rfl
@[simp] theorem updMeters_host (s : State) (i : StationId) (f : Meters → Meters) : (s.updMeters i f).host = s.host := rfl
@[simp] theorem updMeters_choiceTape (s : State) (i : StationId) (f : Meters → Meters) : (s.updMeters i f).choiceTape = s.choiceTape := rfl
@[simp] theorem updMeters_choiceCount (s : State) (i : StationId) (f : Meters → Meters) : (s.updMeters i f).choiceCount = s.choiceCount := rfl
@[simp] theorem updMeters_pending (s : State) (i : StationId) (f : Meters → Meters) : (s.updMeters i f).pending = s.pending := rfl
@[simp] theorem updMeters_slot (s : State) (i : StationId) (f : Meters → Meters) : (s.updMeters i f).slot = s.slot := rfl
@[simp] theorem updMeters_meanwhile (s : State) (i : StationId) (f : Meters → Meters) : (s.updMeters i f).meanwhile = s.meanwhile := rfl

/-! ## Updates of the other blocks -/

@[simp] theorem st_updHost (s : State) (f : HostLine → HostLine) (i : StationId) : (s.updHost f).st i = s.st i := rfl
@[simp] theorem updHost_nextSession (s : State) (f : HostLine → HostLine) : (s.updHost f).nextSession = s.nextSession := rfl
@[simp] theorem updHost_charge (s : State) (f : HostLine → HostLine) : (s.updHost f).charge = s.charge := rfl
@[simp] theorem updHost_accounts (s : State) (f : HostLine → HostLine) : (s.updHost f).accounts = s.accounts := rfl
@[simp] theorem updHost_cards (s : State) (f : HostLine → HostLine) : (s.updHost f).cards = s.cards := rfl
@[simp] theorem updHost_journal (s : State) (f : HostLine → HostLine) : (s.updHost f).journal = s.journal := rfl
@[simp] theorem updHost_host (s : State) (f : HostLine → HostLine) : (s.updHost f).host = f s.host := rfl
@[simp] theorem updHost_choiceTape (s : State) (f : HostLine → HostLine) : (s.updHost f).choiceTape = s.choiceTape := rfl
@[simp] theorem updHost_choiceCount (s : State) (f : HostLine → HostLine) : (s.updHost f).choiceCount = s.choiceCount := rfl
@[simp] theorem updHost_pending (s : State) (f : HostLine → HostLine) : (s.updHost f).pending = s.pending := rfl
@[simp] theorem updHost_slot (s : State) (f : HostLine → HostLine) : (s.updHost f).slot = s.slot := rfl
@[simp] theorem updHost_meanwhile (s : State) (f : HostLine → HostLine) : (s.updHost f).meanwhile = s.meanwhile := rfl

@[simp] theorem st_updCards (s : State) (f : CardUnit → CardUnit) (i : StationId) : (s.updCards f).st i = s.st i := rfl
@[simp] theorem updCards_nextSession (s : State) (f : CardUnit → CardUnit) : (s.updCards f).nextSession = s.nextSession := rfl
@[simp] theorem updCards_charge (s : State) (f : CardUnit → CardUnit) : (s.updCards f).charge = s.charge := rfl
@[simp] theorem updCards_accounts (s : State) (f : CardUnit → CardUnit) : (s.updCards f).accounts = s.accounts := rfl
@[simp] theorem updCards_cards (s : State) (f : CardUnit → CardUnit) : (s.updCards f).cards = f s.cards := rfl
@[simp] theorem updCards_journal (s : State) (f : CardUnit → CardUnit) : (s.updCards f).journal = s.journal := rfl
@[simp] theorem updCards_host (s : State) (f : CardUnit → CardUnit) : (s.updCards f).host = s.host := rfl
@[simp] theorem updCards_choiceTape (s : State) (f : CardUnit → CardUnit) : (s.updCards f).choiceTape = s.choiceTape := rfl
@[simp] theorem updCards_choiceCount (s : State) (f : CardUnit → CardUnit) : (s.updCards f).choiceCount = s.choiceCount := rfl
@[simp] theorem updCards_pending (s : State) (f : CardUnit → CardUnit) : (s.updCards f).pending = s.pending := rfl
@[simp] theorem updCards_slot (s : State) (f : CardUnit → CardUnit) : (s.updCards f).slot = s.slot := rfl
@[simp] theorem updCards_meanwhile (s : State) (f : CardUnit → CardUnit) : (s.updCards f).meanwhile = s.meanwhile := rfl

@[simp] theorem st_updAccounts (s : State) (f : AccountUnit → AccountUnit) (i : StationId) : (s.updAccounts f).st i = s.st i := rfl
@[simp] theorem updAccounts_nextSession (s : State) (f : AccountUnit → AccountUnit) : (s.updAccounts f).nextSession = s.nextSession := rfl
@[simp] theorem updAccounts_charge (s : State) (f : AccountUnit → AccountUnit) : (s.updAccounts f).charge = s.charge := rfl
@[simp] theorem updAccounts_accounts (s : State) (f : AccountUnit → AccountUnit) : (s.updAccounts f).accounts = f s.accounts := rfl
@[simp] theorem updAccounts_cards (s : State) (f : AccountUnit → AccountUnit) : (s.updAccounts f).cards = s.cards := rfl
@[simp] theorem updAccounts_journal (s : State) (f : AccountUnit → AccountUnit) : (s.updAccounts f).journal = s.journal := rfl
@[simp] theorem updAccounts_host (s : State) (f : AccountUnit → AccountUnit) : (s.updAccounts f).host = s.host := rfl
@[simp] theorem updAccounts_choiceTape (s : State) (f : AccountUnit → AccountUnit) : (s.updAccounts f).choiceTape = s.choiceTape := rfl
@[simp] theorem updAccounts_choiceCount (s : State) (f : AccountUnit → AccountUnit) : (s.updAccounts f).choiceCount = s.choiceCount := rfl
@[simp] theorem updAccounts_pending (s : State) (f : AccountUnit → AccountUnit) : (s.updAccounts f).pending = s.pending := rfl
@[simp] theorem updAccounts_slot (s : State) (f : AccountUnit → AccountUnit) : (s.updAccounts f).slot = s.slot := rfl
@[simp] theorem updAccounts_meanwhile (s : State) (f : AccountUnit → AccountUnit) : (s.updAccounts f).meanwhile = s.meanwhile := rfl

@[simp] theorem st_updJournal (s : State) (f : JournalUnit → JournalUnit) (i : StationId) : (s.updJournal f).st i = s.st i := rfl
@[simp] theorem updJournal_nextSession (s : State) (f : JournalUnit → JournalUnit) : (s.updJournal f).nextSession = s.nextSession := rfl
@[simp] theorem updJournal_charge (s : State) (f : JournalUnit → JournalUnit) : (s.updJournal f).charge = s.charge := rfl
@[simp] theorem updJournal_accounts (s : State) (f : JournalUnit → JournalUnit) : (s.updJournal f).accounts = s.accounts := rfl
@[simp] theorem updJournal_cards (s : State) (f : JournalUnit → JournalUnit) : (s.updJournal f).cards = s.cards := rfl
@[simp] theorem updJournal_journal (s : State) (f : JournalUnit → JournalUnit) : (s.updJournal f).journal = f s.journal := rfl
@[simp] theorem updJournal_host (s : State) (f : JournalUnit → JournalUnit) : (s.updJournal f).host = s.host := rfl
@[simp] theorem updJournal_choiceTape (s : State) (f : JournalUnit → JournalUnit) : (s.updJournal f).choiceTape = s.choiceTape := rfl
@[simp] theorem updJournal_choiceCount (s : State) (f : JournalUnit → JournalUnit) : (s.updJournal f).choiceCount = s.choiceCount := rfl
@[simp] theorem updJournal_pending (s : State) (f : JournalUnit → JournalUnit) : (s.updJournal f).pending = s.pending := rfl
@[simp] theorem updJournal_slot (s : State) (f : JournalUnit → JournalUnit) : (s.updJournal f).slot = s.slot := rfl
@[simp] theorem updJournal_meanwhile (s : State) (f : JournalUnit → JournalUnit) : (s.updJournal f).meanwhile = s.meanwhile := rfl

@[simp] theorem st_updCharge (s : State) (f : ChargeUnit → ChargeUnit) (i : StationId) : (s.updCharge f).st i = s.st i := rfl
@[simp] theorem updCharge_nextSession (s : State) (f : ChargeUnit → ChargeUnit) : (s.updCharge f).nextSession = s.nextSession := rfl
@[simp] theorem updCharge_charge (s : State) (f : ChargeUnit → ChargeUnit) : (s.updCharge f).charge = f s.charge := rfl
@[simp] theorem updCharge_accounts (s : State) (f : ChargeUnit → ChargeUnit) : (s.updCharge f).accounts = s.accounts := rfl
@[simp] theorem updCharge_cards (s : State) (f : ChargeUnit → ChargeUnit) : (s.updCharge f).cards = s.cards := rfl
@[simp] theorem updCharge_journal (s : State) (f : ChargeUnit → ChargeUnit) : (s.updCharge f).journal = s.journal := rfl
@[simp] theorem updCharge_host (s : State) (f : ChargeUnit → ChargeUnit) : (s.updCharge f).host = s.host := rfl
@[simp] theorem updCharge_choiceTape (s : State) (f : ChargeUnit → ChargeUnit) : (s.updCharge f).choiceTape = s.choiceTape := rfl
@[simp] theorem updCharge_choiceCount (s : State) (f : ChargeUnit → ChargeUnit) : (s.updCharge f).choiceCount = s.choiceCount := rfl
@[simp] theorem updCharge_pending (s : State) (f : ChargeUnit → ChargeUnit) : (s.updCharge f).pending = s.pending := rfl
@[simp] theorem updCharge_slot (s : State) (f : ChargeUnit → ChargeUnit) : (s.updCharge f).slot = s.slot := rfl
@[simp] theorem updCharge_meanwhile (s : State) (f : ChargeUnit → ChargeUnit) : (s.updCharge f).meanwhile = s.meanwhile := rfl

/-! ## The frame (R1) -/

@[simp] theorem st_passSlot (s : State) (i : StationId) : s.passSlot.st i = s.st i := rfl
@[simp] theorem passSlot_slot (s : State) : s.passSlot.slot = s.nextSlot := rfl
@[simp] theorem passSlot_nextSession (s : State) : s.passSlot.nextSession = s.nextSession := rfl
@[simp] theorem passSlot_charge (s : State) : s.passSlot.charge = s.charge := rfl
@[simp] theorem passSlot_accounts (s : State) : s.passSlot.accounts = s.accounts := rfl
@[simp] theorem passSlot_cards (s : State) : s.passSlot.cards = s.cards := rfl
@[simp] theorem passSlot_journal (s : State) : s.passSlot.journal = s.journal := rfl
@[simp] theorem passSlot_host (s : State) : s.passSlot.host = s.host := rfl
@[simp] theorem passSlot_choiceTape (s : State) : s.passSlot.choiceTape = s.choiceTape := rfl
@[simp] theorem passSlot_choiceCount (s : State) : s.passSlot.choiceCount = s.choiceCount := rfl
@[simp] theorem passSlot_meanwhile (s : State) : s.passSlot.meanwhile = s.meanwhile := rfl
@[simp] theorem passSlot_pending (s : State) : s.passSlot.pending = s.pending := rfl

/-- The slots of a frame come in rising order, and slot 0 after the last (R1). -/
theorem nextSlot_val (s : State) :
    s.nextSlot.val = if s.slot.val + 1 < s.frameSize then s.slot.val + 1 else 0 := by
  have top : s.frameSize ≤ 16 := by unfold State.frameSize; split <;> decide
  unfold State.nextSlot
  split
  · next h => rw [Fin.val_add]; exact Nat.mod_eq_of_lt (by simpa using Nat.lt_of_lt_of_le h top)
  · rfl

/-! ## The gaps (log entry 20) -/

/-- With nothing on the tape a gap has nothing in it. -/
@[simp] theorem popMeanwhile_nil {s : State} (h : s.meanwhile = []) : s.popMeanwhile = ([], s) := by
  simp [State.popMeanwhile, h]

end Sys2Proof.Machine
end

