-- ==== Sys2Proof/Laws/Local.lean ====
section
/-!
SUPPORT. What each shared operation at one station can do to the rest of the part: nothing at another station, and nothing
but what `Untouched` leaves open. One lemma per operation.
-/

namespace Sys2Proof.Machine

/-! ## The relations -/

theorem Untouched.refl (s : State) : Untouched s s :=
  ⟨rfl, rfl, rfl, rfl, rfl, rfl, rfl, .inl rfl, rfl, rfl, rfl⟩

theorem Untouched.trans {s t u : State} (h : Untouched s t) (k : Untouched t u) : Untouched s u where
  charge := k.charge.trans h.charge
  ranges := k.ranges.trans h.ranges
  policy := k.policy.trans h.policy
  deny := k.deny.trans h.deny
  clock := k.clock.trans h.clock
  clockUnset := k.clockUnset.trans h.clockUnset
  host := by rw [k.host, h.host]
  op := by
    rcases k.op with e | ⟨e, e'⟩ <;> rcases h.op with f | ⟨f, f'⟩ <;> simp_all
  slot := k.slot.trans h.slot
  meanwhile := k.meanwhile.trans h.meanwhile
  pending := k.pending.trans h.pending

theorem LocalTo.refl (i : StationId) (s : State) : LocalTo i s s := ⟨.refl s, fun _ _ => rfl⟩

theorem LocalTo.trans {i : StationId} {s t u : State} (h : LocalTo i s t) (k : LocalTo i t u) : LocalTo i s u :=
  ⟨h.toUntouched.trans k.toUntouched, fun j hj => (k.others j hj).trans (h.others j hj)⟩

/-- An update of station `i` alone is local. -/
theorem upd_local (i : StationId) (f : Station → Station) (s : State) : LocalTo i s (s.upd i f) :=
  ⟨⟨rfl, rfl, rfl, rfl, rfl, rfl, rfl, .inl rfl, rfl, rfl, rfl⟩, fun _ hj => st_upd_ne s f hj⟩

theorem updSession_local (i : StationId) (f : Session → Session) (s : State) : LocalTo i s (s.updSession i f) :=
  upd_local i _ s

theorem updLine_local (i : StationId) (f : StationLine → StationLine) (s : State) : LocalTo i s (s.updLine i f) :=
  upd_local i _ s

theorem updCond_local (i : StationId) (f : Conditions → Conditions) (s : State) : LocalTo i s (s.updCond i f) :=
  upd_local i _ s

theorem updRecovery_local (i : StationId) (f : Recovery → Recovery) (s : State) : LocalTo i s (s.updRecovery i f) :=
  upd_local i _ s

theorem updMeters_local (i : StationId) (f : Meters → Meters) (s : State) : LocalTo i s (s.updMeters i f) :=
  upd_local i _ s

/-- A change of the account records alone is local. -/
theorem putAccount_local (i : StationId) (a : Account) (s : State) : LocalTo i s (putAccount a s) :=
  ⟨⟨rfl, rfl, rfl, rfl, rfl, rfl, rfl, .inl rfl, rfl, rfl, rfl⟩, fun _ _ => rfl⟩

/-- A change of the stand-in list or the reference counter alone is local. -/
theorem updCards_local (i : StationId) (f : CardUnit → CardUnit) (s : State)
    (hp : (f s.cards).policy = s.cards.policy) (hd : (f s.cards).deny = s.cards.deny) :
    LocalTo i s (s.updCards f) :=
  ⟨⟨rfl, rfl, hp, hd, rfl, rfl, rfl, .inl rfl, rfl, rfl, rfl⟩, fun _ _ => rfl⟩

/-- A change of the journal but for its clock is local. -/
theorem updJournal_local (i : StationId) (f : JournalUnit → JournalUnit) (s : State)
    (hc : (f s.journal).clock = s.journal.clock) (hu : (f s.journal).clockUnset = s.journal.clockUnset) :
    LocalTo i s (s.updJournal f) :=
  ⟨⟨rfl, rfl, rfl, rfl, hc, hu, rfl, .inl rfl, rfl, rfl, rfl⟩, fun _ _ => rfl⟩

/-- A tactic-free way to chain: an operation after another. -/
theorem LocalTo.andThen {i : StationId} {s t : State} {f : State → State} (h : LocalTo i s t)
    (k : ∀ u, LocalTo i u (f u)) : LocalTo i s (f t) := h.trans (k t)

/-! ## Conditions, messages and answers -/

theorem raiseAnomaly_local (i : StationId) (k : AnomalyKind) (s : State) : LocalTo i s (raiseAnomaly i k s) :=
  updCond_local i _ s

theorem raiseSession_local (i : StationId) (s : State) : LocalTo i s (raiseSession i s) := updCond_local i _ s

theorem raiseStation_local (i : StationId) (s : State) : LocalTo i s (raiseStation i s) := upd_local i _ s

theorem raiseJam_local (i : StationId) (k : JamKind) (c : Cause) (n : Nat) (s : State) :
    LocalTo i s (raiseJam i k c n s) := updCond_local i _ s

theorem raiseAuthRequest_local (i : StationId) (c : AuthRequest) (s : State) : LocalTo i s (raiseAuthRequest i c s) :=
  updCond_local i _ s

theorem raiseAuthCancel_local (i : StationId) (c : AuthCancel) (s : State) : LocalTo i s (raiseAuthCancel i c s) :=
  updCond_local i _ s

theorem withdrawAuthRequest_local (i : StationId) (s : State) : LocalTo i s (withdrawAuthRequest i s) :=
  updCond_local i _ s

theorem raiseJournal_local (i : StationId) (s : State) : LocalTo i s (raiseJournal s) :=
  ⟨⟨rfl, rfl, rfl, rfl, rfl, rfl, rfl, .inl rfl, rfl, rfl, rfl⟩, fun _ _ => rfl⟩

theorem answerLine_local (i : StationId) (n : Nat) (v : Verdict) (s : State) : LocalTo i s (answerLine i n v s) :=
  updLine_local i _ s

theorem offer_local (i : StationId) (m : DownMsg) (s : State) : LocalTo i s (offer i m s) := by
  simp only [offer]
  split
  · exact .refl i s
  · split
    · exact updLine_local i _ s
    · split
      · exact updLine_local i _ s
      · exact raiseAnomaly_local i _ s

theorem offerShow_local (i : StationId) (s : State) : LocalTo i s (offerShow i s) := offer_local i _ s

/-! ## Accounts and charges -/

theorem debit_local (i : StationId) {n a : Nat} {s t : State} (h : debit n a s = some t) : LocalTo i s t := by
  simp only [debit] at h
  split at h
  · cases h
  · split at h
    · cases h; exact putAccount_local i _ s
    · cases h

theorem creditAccount_local (i : StationId) (n a : Nat) (s : State) : LocalTo i s (creditAccount i n a s) := by
  simp only [creditAccount]
  split
  · exact .refl i s
  · split
    · exact putAccount_local i _ s
    · exact (putAccount_local i _ s).trans (updSession_local i _ _)

theorem settleAccount_local (i : StationId) (n a : Nat) (s : State) : LocalTo i s (settleAccount n a s) := by
  simp only [settleAccount]
  split
  · exact .refl i s
  · exact putAccount_local i _ s

theorem fundsCheck_local (i : StationId) {x : Session} {d : Nat} {s t : State} (h : fundsCheck x d s = some t) :
    LocalTo i s t := by
  simp only [fundsCheck] at h
  split at h
  · exact debit_local i h
  · split at h
    · cases h; exact .refl i _
    · cases h
  · split at h
    · cases h; exact .refl i _
    · cases h
  · cases h

theorem chargeSheet_local (i : StationId) (p : SheetSpec) (s : State) : LocalTo i s (chargeSheet i p s).2 := by
  simp only [chargeSheet]
  split
  · exact .refl i s
  · exact .refl i s
  · split
    · exact .refl i s
    · next h => exact (fundsCheck_local i h).trans (updSession_local i _ _)

theorem creditSheet_local (i : StationId) (e : InFlight) (s : State) : LocalTo i s (creditSheet i e s) := by
  simp only [creditSheet]
  split
  · split
    · exact (updSession_local i _ s).trans (creditAccount_local i _ _ _)
    · exact updSession_local i _ s
  · exact .refl i s

theorem closingCent_local (i : StationId) (s : State) : LocalTo i s (closingCent i s).2.2 := by
  simp only [closingCent]
  split
  · exact .refl i s
  · split
    · next h => exact fundsCheck_local i h
    · exact .refl i s

/-! ## The journal -/

theorem setLevel_local (i : StationId) (l : Urgency) (s : State) : LocalTo i s (setLevel l s) := by
  simp only [setLevel]
  split
  · exact .refl i s
  · refine (updJournal_local i _ s ?_ ?_).trans (raiseJournal_local i _) <;> rfl

theorem appendRecord_local (i : StationId) (r : JournalRecord) (s : State) : LocalTo i s (appendRecord r s) := by
  refine LocalTo.trans (updJournal_local i _ s ?_ ?_) (setLevel_local i _ _) <;> rfl

/-! ## The card authorization unit -/

theorem makeEntry_local (i : StationId) (k : AuthKind) (a : Nat) (s : State) : LocalTo i s (makeEntry i k a s) := by
  refine LocalTo.trans (LocalTo.trans (updCards_local i _ s ?_ ?_) (upd_local i _ _)) (raiseAuthRequest_local i _ _) <;>
    rfl

theorem removeEntry_local (i : StationId) (c : Option CancelCause) (s : State) : LocalTo i s (removeEntry i c s) := by
  simp only [removeEntry]
  split
  · exact .refl i s
  · split
    · exact (upd_local i _ s).trans (withdrawAuthRequest_local i _)
    · split
      · exact (upd_local i _ s).trans (raiseAuthCancel_local i _ _)
      · exact upd_local i _ s

theorem askIncrement_local (i : StationId) (s : State) : LocalTo i s (askIncrement i s).2 := by
  simp only [askIncrement]
  split
  · split
    · exact makeEntry_local i _ _ s
    · split <;> exact .refl i s
  · exact .refl i s

theorem afterGo_local (i : StationId) (s : State) : LocalTo i s (afterGo i s) := by
  simp only [afterGo]
  split
  · exact makeEntry_local i _ _ s
  · exact .refl i s

/-! ## Permits -/

theorem syncIdle_local (i : StationId) (s : State) : LocalTo i s (syncIdle i s) := upd_local i _ s

theorem activity_local (i : StationId) (s : State) : LocalTo i s (activity i s) := upd_local i _ s

theorem setQueue_local (i : StationId) (q : List InFlight) (s : State) : LocalTo i s (setQueue i q s) :=
  (upd_local i _ s).trans (syncIdle_local i _)

theorem pushEntry_local (i : StationId) (k : EntryKind) (n c : Nat) (p : SheetSpec) (s : State) :
    LocalTo i s (pushEntry i k n c p s) := by
  simp only [pushEntry]
  exact (setQueue_local i _ s).trans (updMeters_local i _ _)

theorem grantCharged_local (i : StationId) (n c : Nat) (p : SheetSpec) (s : State) :
    LocalTo i s (grantCharged i n c p s) := by
  have h := (pushEntry_local i .charged n c p s).trans (offerShow_local i _)
  simp only [grantCharged]
  split
  · exact h.trans (afterGo_local i _)
  · exact h

theorem grantService_local (i : StationId) (p : SheetSpec) (s : State) : LocalTo i s (grantService i p s) :=
  pushEntry_local i _ _ _ p s

theorem answerShort_local (i : StationId) (s : State) : LocalTo i s (answerShort i s).2 := by
  have h := askIncrement_local i s
  simp only [answerShort]
  split
  · split <;> rename_i e <;> rw [e] at h <;> exact h
  · exact .refl i s

theorem evaluateCharge_local (i : StationId) (p : SheetSpec) (s : State) : LocalTo i s (evaluateCharge i p s).2 := by
  have h := chargeSheet_local i p s
  simp only [evaluateCharge]
  split <;> rename_i e <;> rw [e] at h
  · exact h
  · exact h
  · exact h.trans (grantCharged_local i _ _ p _)
  · exact h.trans (answerShort_local i _)

theorem evaluate_local (i : StationId) (p : SheetSpec) (s : State) : LocalTo i s (evaluate i p s).2 := by
  simp only [evaluate]
  repeat' split
  all_goals first
    | exact .refl i s
    | exact grantService_local i p s
    | exact evaluateCharge_local i p s

theorem setRequest_local (i : StationId) (r : RequestState) (s : State) : LocalTo i s (setRequest i r s) :=
  (upd_local i _ s).trans (syncIdle_local i _)

theorem reevaluate_local (i : StationId) (s : State) : LocalTo i s (reevaluate i s) := by
  simp only [reevaluate]
  split
  · exact .refl i s
  · next n p c left hr =>
    have h := evaluate_local i p s
    split <;> rename_i e <;> rw [e] at h
    · exact h.trans (setRequest_local i _ _)
    · exact (h.trans (setRequest_local i _ _)).trans (answerLine_local i _ _ _)

theorem pickRaised_local (i : StationId) (n : Nat) (p : SheetSpec) (s : State) : LocalTo i s (pickRaised i n p s) := by
  have h := ((activity_local i s).trans (setRequest_local i .idle _)).trans (evaluate_local i p _)
  simp only [pickRaised]
  split <;> rename_i e <;> rw [e] at h
  · exact (h.trans (setRequest_local i _ _)).trans (answerLine_local i _ _ _)
  · exact h.trans (answerLine_local i _ _ _)

theorem pickWithdrawn_local (i : StationId) (n : Nat) (s : State) : LocalTo i s (pickWithdrawn i n s) := by
  simp only [pickWithdrawn]
  split
  · split
    · exact setRequest_local i _ s
    · exact .refl i s
  · exact .refl i s

theorem pickWaitExpires_local (i : StationId) (s : State) : LocalTo i s (pickWaitExpires i s) := by
  simp only [pickWaitExpires]
  split
  · exact (setRequest_local i _ s).trans (answerLine_local i _ _ _)
  · exact .refl i s
  · exact .refl i s

/-! ## Sessions -/

theorem setSession_local (i : StationId) (f : Session → Session) (s : State) : LocalTo i s (setSession i f s) :=
  ((updSession_local i f s).trans (raiseSession_local i _)).trans (syncIdle_local i _)

theorem setAvailability_local (i : StationId) (a : Availability) (s : State) : LocalTo i s (setAvailability i a s) := by
  simp only [setAvailability]
  split
  · exact .refl i s
  · exact (updRecovery_local i _ s).trans (raiseStation_local i _)

theorem sessionEnded_local (i : StationId) (s : State) : LocalTo i s (sessionEnded i s) := by
  simp only [sessionEnded]
  split
  · exact ((updRecovery_local i _ s).trans (setAvailability_local i _ _)).trans (updRecovery_local i _ _)
  · exact updRecovery_local i _ s

theorem stopWhenEmpty_local (i : StationId) (s : State) : LocalTo i s (stopWhenEmpty s) := by
  simp only [stopWhenEmpty]
  split
  · next h => exact ⟨⟨rfl, rfl, rfl, rfl, rfl, rfl, rfl, .inr ⟨h.1, rfl⟩, rfl, rfl, rfl⟩, fun _ _ => rfl⟩
  · exact .refl i s

theorem abandonAuthorizing_local (i : StationId) (r : Option RefusedReason) (s : State) :
    LocalTo i s (abandonAuthorizing i r s) := by
  have h := setSession_local i (fun x => Session.ended x.number) s
  simp only [abandonAuthorizing]
  refine LocalTo.trans (LocalTo.trans ?_ (sessionEnded_local i _)) (stopWhenEmpty_local i _)
  cases r
  · exact h
  · exact h.trans (offer_local i _ _)

theorem updatePayer_local (i : StationId) (n : Nat) (c : CancelCause) (s : State) :
    LocalTo i s (updatePayer i n c s) := by
  simp only [updatePayer]
  split
  · exact settleAccount_local i _ _ s
  · split
    · exact removeEntry_local i _ s
    · exact .refl i s
  · refine updCards_local i _ s ?_ ?_ <;> rfl
  · exact .refl i s

theorem closeStep_local (i : StationId) (r : CloseReason) (c : CancelCause) (s : State) :
    LocalTo i s (closeStep i r c s) := by
  have h := (closingCent_local i s).trans (updatePayer_local i (closingCent i s).2.1 c _)
  exact ((((((h.trans (appendRecord_local i _ _)).trans (setSession_local i _ _)).trans (updMeters_local i _ _)).trans
    (offer_local i _ _)).trans (sessionEnded_local i _)).trans (stopWhenEmpty_local i _))

theorem drainCheck_local (i : StationId) (s : State) : LocalTo i s (drainCheck i s) := by
  simp only [drainCheck]
  split
  · split
    · exact (closeStep_local i _ _ s).trans (reevaluate_local i _)
    · exact .refl i s
  · exact .refl i s

theorem startDraining_local (i : StationId) (r : CloseReason) (s : State) : LocalTo i s (startDraining i r s) :=
  (setSession_local i _ s).trans (reevaluate_local i _)

theorem goDraining_local (i : StationId) (r : CloseReason) (s : State) : LocalTo i s (goDraining i r s) :=
  (startDraining_local i r s).trans (drainCheck_local i _)

theorem keepReason_local (i : StationId) (r : CloseReason) (s : State) : LocalTo i s (keepReason i r s) :=
  updSession_local i _ s

theorem takeReason_local (i : StationId) (r : CloseReason) (s : State) : LocalTo i s (takeReason i r s) := by
  simp only [takeReason]
  split
  · exact .refl i s
  · exact keepReason_local i r s
  · exact goDraining_local i r s
  · exact .refl i s
  · exact keepReason_local i r s

theorem stallSession_local (i : StationId) (s : State) : LocalTo i s (stallSession i s) :=
  ((upd_local i _ s).trans (setSession_local i _ _)).trans (reevaluate_local i _)

theorem stallUnlessHeld_local (i : StationId) (s : State) : LocalTo i s (stallUnlessHeld i s) := by
  simp only [stallUnlessHeld]
  split
  · exact stallSession_local i s
  · exact .refl i s

theorem sessionOpened_local (i : StationId) (k : PayerKind) (a : Nat) (s : State) :
    LocalTo i s (sessionOpened i k a s) := by
  have h := ((updSession_local i (fun x => { x with openTime := some s.journal.clock }) s).trans
    (offer_local i (.opened k a) _)).trans (reevaluate_local i _)
  have k2 : LocalTo i s (if ((reevaluate i (offer i (.opened k a)
      (s.updSession i fun x => { x with openTime := some s.journal.clock }))).st i).recovery.stoppage.isSome
      then stallUnlessHeld i (reevaluate i (offer i (.opened k a)
        (s.updSession i fun x => { x with openTime := some s.journal.clock })))
      else reevaluate i (offer i (.opened k a)
        (s.updSession i fun x => { x with openTime := some s.journal.clock }))) := by
    split
    · exact h.trans (stallUnlessHeld_local i _)
    · exact h
  simp only [sessionOpened]
  split
  · exact k2.trans (goDraining_local i _ _)
  · exact k2

theorem takeNumber_local (i : StationId) (s : State) : LocalTo i s (takeNumber s).2 :=
  ⟨⟨rfl, rfl, rfl, rfl, rfl, rfl, rfl, .inl rfl, rfl, rfl, rfl⟩, fun _ _ => rfl⟩

theorem openAccount_local (i : StationId) (a : Account) (r : Range) (s : State) : LocalTo i s (openAccount i a r s) :=
  (((putAccount_local i _ s).trans (takeNumber_local i _)).trans (setSession_local i _ _)).trans
    (sessionOpened_local i _ _ _)

theorem openByAccount_local (i : StationId) (n : Nat) (s : State) : LocalTo i s (openByAccount i n s) := by
  simp only [openByAccount]
  split
  · exact offer_local i _ s
  · split
    · exact offer_local i _ s
    · exact openAccount_local i _ _ s

/-! ## Authorization -/

theorem grantStandIn_local (i : StationId) (t : Token) (s : State) : LocalTo i s (grantStandIn i t s) := by
  refine LocalTo.trans (LocalTo.trans (updCards_local i _ s ?_ ?_) (setSession_local i _ _))
    (sessionOpened_local i _ _ _) <;> rfl

theorem decideStandIn_local (i : StationId) (s : State) : LocalTo i s (decideStandIn i s) := by
  simp only [decideStandIn]
  split
  · split
    · exact grantStandIn_local i _ s
    · exact (abandonAuthorizing_local i _ s).trans (reevaluate_local i _)
  · exact .refl i s

theorem startAuthorizing_local (i : StationId) (t : Token) (c : CardClass) (s : State) :
    LocalTo i s (startAuthorizing i t c s) := by
  simp only [startAuthorizing]
  split
  · exact (((takeNumber_local i s).trans (setSession_local i _ _)).trans (reevaluate_local i _)).trans
      (makeEntry_local i _ _ _)
  · exact (((takeNumber_local i s).trans (setSession_local i _ _)).trans (reevaluate_local i _)).trans
      (decideStandIn_local i _)

theorem openByCard_local (i : StationId) (t : Token) (c : CardClass) (s : State) :
    LocalTo i s (openByCard i t c s) := by
  simp only [openByCard]
  split
  · exact offer_local i _ s
  · exact startAuthorizing_local i t c s

theorem deliver_local (i : StationId) (m : UpMessage) (s : State) : LocalTo i s (deliver i m s) := by
  have h := activity_local i s
  cases m <;> simp only [deliver]
  · split
    · exact h.trans (offer_local i _ _)
    · exact h.trans (openByCard_local i _ _ _)
  · split
    · exact h.trans (offer_local i _ _)
    · exact h.trans (openByAccount_local i _ _)
  · exact h.trans (takeReason_local i _ _)

theorem approveInitial_local (i : StationId) (a : Nat) (s : State) : LocalTo i s (approveInitial i a s) := by
  simp only [approveInitial]
  split
  · exact (setSession_local i _ s).trans (sessionOpened_local i _ _ _)
  · exact .refl i s

theorem declineInitial_local (i : StationId) (s : State) : LocalTo i s (declineInitial i s) := by
  simp only [declineInitial]
  split
  · exact (abandonAuthorizing_local i _ s).trans (reevaluate_local i _)
  · exact .refl i s

theorem approveIncrement_local (i : StationId) (a : Nat) (s : State) : LocalTo i s (approveIncrement i a s) :=
  (updSession_local i _ s).trans (reevaluate_local i _)

theorem endIncrements_local (i : StationId) (s : State) : LocalTo i s (endIncrements i s) :=
  (updSession_local i _ s).trans (reevaluate_local i _)

theorem applyResult_local (i : StationId) (k : AuthKind) (a : Nat) (s : State) : LocalTo i s (applyResult i k a s) := by
  cases k <;> simp only [applyResult] <;> split
  · exact declineInitial_local i s
  · exact approveInitial_local i a s
  · exact endIncrements_local i s
  · exact approveIncrement_local i a s

theorem endEntry_local (i : StationId) (c : CancelCause) (s : State) : LocalTo i s (endEntry i c s) := by
  simp only [endEntry]
  split
  · exact .refl i s
  · split
    · exact (removeEntry_local i _ s).trans (decideStandIn_local i _)
    · exact (removeEntry_local i _ s).trans (endIncrements_local i _)

theorem authTimesOut_local (i : StationId) (k : AuthKind) (s : State) : LocalTo i s (authTimesOut i k s) := by
  simp only [authTimesOut]
  split
  · exact endEntry_local i _ s
  · exact .refl i s

/-! ## The paper path -/

theorem setHold_local (i : StationId) (h : HoldState) (s : State) : LocalTo i s (setHold i h s) :=
  (upd_local i _ s).trans (syncIdle_local i _)

theorem changeHold_local (b : Bool) (i : StationId) (h : HoldState) (s : State) : LocalTo i s (changeHold b i h s) := by
  simp only [changeHold]
  split
  · exact ((setHold_local i h s).trans (stallUnlessHeld_local i _)).trans (reevaluate_local i _)
  · exact (setHold_local i h s).trans (reevaluate_local i _)

theorem holdWhenEmpty_local (b : Bool) (i : StationId) (s : State) : LocalTo i s (holdWhenEmpty b i s) := by
  simp only [holdWhenEmpty]
  split
  · split
    · exact changeHold_local b i _ s
    · exact changeHold_local b i _ s
    · exact .refl i s
    · exact .refl i s
  · exact .refl i s

theorem afterRemoval_local (b c : Bool) (i : StationId) (s : State) : LocalTo i s (afterRemoval b c i s) := by
  simp only [afterRemoval]
  split
  · exact ((drainCheck_local i s).trans (holdWhenEmpty_local b i _)).trans (reevaluate_local i _)
  · exact (holdWhenEmpty_local b i s).trans (reevaluate_local i _)

theorem unchargedExit_local (i : StationId) (s : State) : LocalTo i s (unchargedExit i s) :=
  (upd_local i _ s).trans (raiseAnomaly_local i _ _)

theorem exitOne_local (i : StationId) (s : State) : LocalTo i s (exitOne i s) := by
  simp only [exitOne]
  split
  · exact unchargedExit_local i s
  · exact ((updMeters_local i _ s).trans (setQueue_local i _ _)).trans (afterRemoval_local _ _ i _)

theorem takeBack_local (i : StationId) (e : InFlight) (rest : List InFlight) (s : State) :
    LocalTo i s (takeBack i e rest s) := by
  have h := (updMeters_local i (fun m => { m with writtenOff := addMeter m.writtenOff e.impressions }) s).trans
    (setQueue_local i rest _)
  simp only [takeBack]
  split
  · exact (h.trans (creditSheet_local i e _)).trans (offerShow_local i _)
  · exact h

theorem overdueOne_local (i : StationId) (s : State) : LocalTo i s (overdueOne i s) := by
  simp only [overdueOne]
  split
  · exact .refl i s
  · exact ((takeBack_local i _ _ s).trans (raiseAnomaly_local i _ _)).trans (afterRemoval_local _ _ i _)

theorem choose_local (i : StationId) (s : State) : LocalTo i s s.choose.2 := by
  simp only [State.choose]
  split <;> exact ⟨⟨rfl, rfl, rfl, rfl, rfl, rfl, rfl, .inl rfl, rfl, rfl, rfl⟩, fun _ _ => rfl⟩

theorem removalFirst_local (b : Bool) (i : StationId) (s : State) : LocalTo i s (removalFirst b s).2 := by
  cases b
  · exact .refl i s
  · exact choose_local i s

theorem judgeHeads_local (b : Bool) (i : StationId) (n : Nat) (s : State) : LocalTo i s (judgeHeads b i n s) := by
  induction n generalizing s with
  | zero => exact .refl i s
  | succ n ih =>
    have c := removalFirst_local b i s
    simp only [judgeHeads]
    split
    · split
      · exact (c.trans (overdueOne_local i _)).trans (ih _)
      · exact c
    · exact .refl i s

theorem headExpires_local (i : StationId) (s : State) : LocalTo i s (headExpires i s) := judgeHeads_local false i _ s

theorem exits_local (i : StationId) (n : Nat) (s : State) : LocalTo i s (exits i n s) := by
  induction n generalizing s with
  | zero => exact .refl i s
  | succ n ih => exact ((exitOne_local i s).trans (judgeHeads_local _ i _ _)).trans (ih _)

/-! ## The gaps -/

/-- With nothing on the tape, nothing happens in a gap. -/
@[simp] theorem takeGap_nil (f : Meanwhile → Bool) (g : Meanwhile → State → State) {s : State} (h : s.meanwhile = []) :
    takeGap f g s = s := by
  simp [takeGap, State.popMeanwhile, h]

theorem pickAt_local (i : StationId) (p : SheetSpec) (s : State) : LocalTo i s (pickAt i p s) := by
  simp only [pickAt]
  split
  · exact (updLine_local i _ s).trans (pickRaised_local i _ _ _)
  · exact .refl i s

theorem exitsEvent_local (i : StationId) (n : Nat) (s : State) : LocalTo i s (exitsEvent i n s) := by
  unfold exitsEvent
  split
  · exact .refl i s
  · exact (activity_local i s).trans (exits_local i n _)

theorem drainAmidActivity_local (i : StationId) (r : CloseReason) {s : State} (h : s.meanwhile = []) :
    LocalTo i s (drainAmidActivity i r s) := by
  have k := startDraining_local i r s
  simp only [drainAmidActivity]
  rw [takeGap_nil _ _ (k.meanwhile.trans h)]
  exact k.trans (drainCheck_local i _)

theorem idleExpires_local (i : StationId) {s : State} (h : s.meanwhile = []) : LocalTo i s (idleExpires i s) := by
  simp only [idleExpires]
  split
  · exact drainAmidActivity_local i _ h
  · exact .refl i s

theorem takeFrozen_local (i : StationId) {s : State} (h : s.meanwhile = []) : LocalTo i s (takeFrozen i s) := by
  simp only [takeFrozen]
  split
  · exact drainAmidActivity_local i _ h
  · exact takeReason_local i _ s

/-! ## The removal series -/

theorem removeAll_local (i : StationId) (q : List InFlight) (s : State) : LocalTo i s (removeAll i q s) := by
  induction q generalizing s with
  | nil => exact .refl i s
  | cons e rest ih => exact (takeBack_local i e rest s).trans (ih _)

/-! ## Recovery -/

theorem stoppage_local (i : StationId) (c : Cause) (s : State) : LocalTo i s (stoppage i c s) := by
  have h := (updRecovery_local i (fun r => { r with stoppage := some c }) s).trans (raiseJam_local i .stoppage c 0 _)
  simp only [stoppage]
  split
  · exact h.trans (stallUnlessHeld_local i _)
  · exact h

theorem reopenSession_local (i : StationId) (s : State) : LocalTo i s (reopenSession i s) := by
  simp only [reopenSession]
  split
  · split
    · exact (setSession_local i _ s).trans (reevaluate_local i _)
    · exact goDraining_local i _ s
  · exact .refl i s

theorem stopStallTimer_local (i : StationId) (s : State) : LocalTo i s (stopStallTimer i s) := updRecovery_local i _ s

theorem recoveryEnds_local (i : StationId) (c : Cause) (n : Nat) (s : State) : LocalTo i s (recoveryEnds i c n s) :=
  (((afterRemoval_local true (n != 0) i s).trans (reopenSession_local i _)).trans (updRecovery_local i _ _)).trans
    (raiseJam_local i _ _ _ _)

theorem takeCode_local (i : StationId) (c : Code) (s : State) : LocalTo i s (takeCode i c s) := by
  cases c <;> first | exact .refl i s | exact stoppage_local i _ s

theorem codeReported_local (i : StationId) (s : State) : LocalTo i s (codeReported i s) :=
  (syncIdle_local i s).trans (raiseStation_local i _)

theorem stallTimeoutEnds_local (i : StationId) (c : Option Cause) (n : Nat) (s : State) :
    LocalTo i s (stallTimeoutEnds i c n s) := by
  have h := ((((afterRemoval_local true (n != 0) i s).trans (closeStep_local i .stallTimeout .closed _)).trans
    (reevaluate_local i _)).trans (setAvailability_local i .outOfService _)).trans
    (updRecovery_local i (fun r => { r with disablePending := false }) _)
  cases c
  · exact h
  · exact h.trans (raiseJam_local i _ _ _ _)

theorem haltEnds_local (i : StationId) (s : State) : LocalTo i s (haltEnds i s) := by
  have h := removeEntry_local i (some .halt) s
  simp only [haltEnds]
  split
  · exact h.trans (reevaluate_local i _)
  · exact (h.trans (setHold_local i _ _)).trans (reevaluate_local i _)

/-! ## Beginnings and ends

`BegunAt i s b` says what a beginning at station `i` can do: it is local, and a series that begins is one of station `i`. -/

/-- What has begun at station `i` from `s` is local so far, and is the station's own. -/
structure BegunAt (i : StationId) (s : State) (b : Begun) : Prop where
  frame : LocalTo i s b.2
  own : ∀ r, b.1 = some r → r.station = i

theorem BegunAt.none {i : StationId} {s t : State} (h : LocalTo i s t) : BegunAt i s (none, t) :=
  ⟨h, fun _ e => by cases e⟩

theorem BegunAt.series {i : StationId} {s t : State} (o : Occasion) (h : LocalTo i s t) : BegunAt i s (some ⟨i, o⟩, t) :=
  ⟨h, fun _ e => by cases e; rfl⟩

theorem codeConfirmed_begun (i : StationId) (c : Code) (s : State) : BegunAt i s (codeConfirmed i c s) := by
  simp only [codeConfirmed]
  split
  · exact .series _ (stopStallTimer_local i s)
  · exact .none ((takeCode_local i c s).trans (codeReported_local i _))

theorem stallExpires_begun (i : StationId) (s : State) : BegunAt i s (stallExpires i s) := by
  simp only [stallExpires]
  split
  · exact .series _ (stopStallTimer_local i s)
  · exact .none (.refl i s)

theorem haltStation_begun (i : StationId) (s : State) : BegunAt i s (haltStation i s) := by
  simp only [haltStation]
  split
  · exact .series _ (.refl i s)
  · split
    · exact .none (((removeEntry_local i _ s).trans (abandonAuthorizing_local i _ _)).trans (haltEnds_local i _))
    · exact .none (haltEnds_local i s)

theorem takeEvent_begun (i : StationId) (e : LineEvent) (s : State) : BegunAt i s (takeEvent i e s) := by
  cases e <;> simp only [takeEvent]
  · exact codeConfirmed_begun i _ s
  · exact .none (pickRaised_local i _ _ s)
  · exact .none (pickWithdrawn_local i _ s)
  · exact .none (exitsEvent_local i _ s)
  · exact .none (deliver_local i _ s)
  · exact .none (raiseAnomaly_local i _ s)

theorem startJob_begun {i : StationId} {j : Job} (h : j.station = some i) (s : State) : BegunAt i s (startJob j s) := by
  cases j with
  | event k e => cases h; exact takeEvent_begun _ e s
  | stallExpiry k => cases h; exact stallExpires_begun _ s
  | halt k => cases h; exact haltStation_begun _ s
  | series r => cases h; exact .series r.occasion (.refl _ s)
  | halted a b => cases h

theorem endSeries_local (r : Series) (s : State) : LocalTo r.station s (endSeries r s) := by
  simp only [endSeries]
  split
  · exact (recoveryEnds_local _ _ _ s).trans (codeReported_local _ _)
  · exact stallTimeoutEnds_local _ _ _ s
  · exact (closeStep_local _ _ _ s).trans (haltEnds_local _ _)

theorem takenWhole_local {i : StationId} {s : State} {b : Begun} (h : BegunAt i s b) : LocalTo i s (takenWhole b) := by
  simp only [takenWhole]
  split
  · exact h.frame
  · next r e =>
    have k := (removeAll_local r.station (b.2.st r.station).queue b.2).trans (endSeries_local r _)
    rw [h.own r e] at k ⊢
    exact h.frame.trans k

/-! ## Jobs -/

/-- With nothing on the tape, the jobs are taken in their order, each whole. -/
@[simp] theorem workOff_quiet (jobs : List Job) {s : State} (h : s.meanwhile = []) :
    workOff jobs s = (Work.inTurn ⟨jobs, s⟩).foldl (fun t j => takenWhole (startJob j t)) s := by
  simp [workOff, workOffWithin, h]

/-- Jobs without HALT are taken in the order in which they stand. -/
theorem inTurn_of_not_halting {w : Work} (h : halting w.jobs = false) : w.inTurn = w.jobs := by
  simp [Work.inTurn, h]

theorem halting_of_stations {i : StationId} {jobs : List Job} (hj : ∀ j ∈ jobs, j.station = some i) :
    halting jobs = false := by
  rw [halting, List.any_eq_false]
  intro j hm
  have h := hj j hm
  cases j <;> simp_all [Job.isHalted, Job.station]

/-- Jobs of one station are local to it. -/
theorem workOff_local (i : StationId) (jobs : List Job) (hj : ∀ j ∈ jobs, j.station = some i) {s : State}
    (h : s.meanwhile = []) : LocalTo i s (workOff jobs s) := by
  rw [workOff_quiet jobs h, inTurn_of_not_halting (halting_of_stations hj)]
  clear h
  induction jobs generalizing s with
  | nil => exact .refl i s
  | cons j rest ih =>
    exact (takenWhole_local (startJob_begun (hj j (by simp)) s)).trans (ih fun x hx => hj x (by simp [hx]))

/-! ## The station line -/

theorem inOpenOrder_local {α : Type} (i : StationId) (xs : List α) (s : State) : LocalTo i s (inOpenOrder xs s).2 := by
  simp only [inOpenOrder]
  split
  · exact .refl i s
  · exact choose_local i s

theorem takeEvents_local (i : StationId) (es : List LineEvent) {s : State} (h : s.meanwhile = []) :
    LocalTo i s (takeEvents i es s) :=
  have k := inOpenOrder_local i es s
  k.trans (workOff_local i _ (fun j hj => by obtain ⟨e, -, rfl⟩ := List.mem_map.1 hj; rfl) (k.meanwhile.trans h))

theorem applyLine_local (i : StationId) (f : StationLine → LineStep) {s : State} (h : s.meanwhile = []) :
    LocalTo i s (applyLine i f s) :=
  (updLine_local i _ s).trans (takeEvents_local i _ h)

theorem withdrawRaised_local (i : StationId) (l : Latch) (s : State) : LocalTo i s (withdrawRaised i l s) := by
  simp only [withdrawRaised]
  split
  · exact pickWithdrawn_local i _ s
  · exact .refl i s

theorem dropAt_local (i : StationId) (s : State) : LocalTo i s (dropAt i s) := by
  simp only [dropAt]
  split
  · exact (updLine_local i _ s).trans (withdrawRaised_local i _ _)
  · exact .refl i s

theorem abandonLost_local (i : StationId) (s : State) : LocalTo i s (abandonLost i s) := by
  simp only [abandonLost]
  split
  · exact ((removeEntry_local i _ s).trans (abandonAuthorizing_local i _ _)).trans (reevaluate_local i _)
  · exact .refl i s

theorem loseStation_local (i : StationId) (s : State) : LocalTo i s (loseStation i s) :=
  (((((updLine_local i _ s).trans (withdrawRaised_local i _ _)).trans (abandonLost_local i _)).trans
    (stoppage_local i _ _)).trans (syncIdle_local i _)).trans (raiseStation_local i _)

theorem regainStation_local (i : StationId) (s : State) : LocalTo i s (regainStation i s) := updLine_local i _ s

theorem presenceArrival_local (i : StationId) (m : Bool) (s : State) : LocalTo i s (presenceArrival i m s) := by
  simp only [presenceArrival]
  repeat' split
  · exact updLine_local i _ s
  · exact loseStation_local i s
  · exact regainStation_local i s
  · exact updLine_local i _ s

theorem takeArrival_local (i : StationId) (a : Arrival) {s : State} (h : s.meanwhile = []) :
    LocalTo i s (takeArrival i a s) := by
  have k := presenceArrival_local i a.present s
  simp only [takeArrival]
  split
  · exact k.trans (applyLine_local i _ (k.meanwhile.trans h))
  · exact k.trans (applyLine_local i _ (k.meanwhile.trans h))

theorem sendHalf_local (i : StationId) (s : State) : LocalTo i s (sendHalf i s) := upd_local i _ s

/-- A slot is local but for the frame, which goes on to the next slot (R1). -/
theorem takeSlot_local {i : StationId} (half : UpHalf) {s : State} (hs : s.slot = i) (h : s.meanwhile = []) :
    LocalTo i s.passSlot (takeSlot i half s) := by
  rw [takeSlot, if_pos hs]
  exact (sendHalf_local i s.passSlot).trans (takeArrival_local i _ h)

end Sys2Proof.Machine
end

