-- ==== Sys2Proof/Laws/Ops.lean ====
section
/-!
SUPPORT. What each shared operation can do, said once: the bytes of a number, the account table, debits, open orders, the
journal's level, messages offered, the reply buffer, and the limits of the message channels.
-/

namespace Sys2Proof.Machine

/-! ## Bytes (R189) -/

theorem length_beBytes (n v : Nat) : (beBytes n v).length = n := by
  induction n with
  | zero => rfl
  | succ n ih => simp [beBytes, ih]

theorem ofBytes_append (xs ys : List Byte) : ofBytes (xs ++ ys) = ofBytes xs * 256 ^ ys.length + ofBytes ys := by
  have fold : ∀ (zs : List Byte) (k : Nat),
      zs.foldl (fun acc b => acc * 256 + b.toNat) k = k * 256 ^ zs.length + ofBytes zs := by
    intro zs
    induction zs with
    | nil => intro k; simp [ofBytes]
    | cons z zs ih =>
      intro k
      have head : ofBytes (z :: zs) = z.toNat * 256 ^ zs.length + ofBytes zs := by
        rw [ofBytes, List.foldl_cons, ih, Nat.zero_mul, Nat.zero_add]
      rw [List.foldl_cons, ih, head, List.length_cons, pow_succ]
      ring
  rw [ofBytes, List.foldl_append, fold, ← ofBytes]

/-- The bytes of a number give the number back, modulo the range of the field (R189). -/
theorem ofBytes_beBytes (n v : Nat) : ofBytes (beBytes n v) = v % 256 ^ n := by
  induction n with
  | zero => simp [beBytes, ofBytes, Nat.mod_one]
  | succ n ih =>
    rw [beBytes, ← List.singleton_append, ofBytes_append, ih, length_beBytes]
    simp only [ofBytes, List.foldl_cons, List.foldl_nil, BitVec.toNat_ofNat, Nat.zero_mul, Nat.zero_add]
    rw [show (2 : Nat) ^ 8 = 256 from rfl, Nat.pow_succ, Nat.mod_mul, Nat.add_comm, Nat.mul_comm]

/-! ## The account table (R103) -/

theorem find_putRecord_same (a : Account) (xs : List Account) :
    (putRecord a xs).find? (fun x => x.number == a.number) = some a := by
  induction xs with
  | nil => simp [putRecord]
  | cons x xs ih =>
    unfold putRecord
    split
    · simp
    · split
      · simp
      · rename_i _ h
        rw [List.find?_cons_of_neg (by simpa using fun e => h e.symm)]
        exact ih

theorem find_putRecord_other {n : Nat} (a : Account) (xs : List Account) (h : n ≠ a.number) :
    (putRecord a xs).find? (fun x => x.number == n) = xs.find? fun x => x.number == n := by
  induction xs with
  | nil => simp [putRecord, h.symm]
  | cons x xs ih =>
    unfold putRecord
    split
    · rw [List.find?_cons_of_neg (by simpa using h.symm)]
    · split
      · rename_i _ e
        rw [List.find?_cons_of_neg (by simpa using h.symm), List.find?_cons_of_neg (by simpa [← e] using h.symm)]
      · simp only [List.find?_cons, ih]

/-- A record put is the one found under its number. -/
@[simp] theorem findAccount_putAccount_same (a : Account) (s : State) :
    findAccount (putAccount a s).accounts a.number = some a := find_putRecord_same a s.accounts.accounts

/-- A record put hides no other. -/
theorem findAccount_putAccount_other {n : Nat} (a : Account) (s : State) (h : n ≠ a.number) :
    findAccount (putAccount a s).accounts n = findAccount s.accounts n := find_putRecord_other a s.accounts.accounts h

/-- What a debit that is taken does (R53, R108). -/
theorem debit_spec {n amount : Nat} {s t : State} (h : debit n amount s = some t) :
    ∃ a, findAccount s.accounts n = some a ∧
      (amount = 0 ∨ floorOf s.accounts.ranges n ≤ a.balance - amount) ∧
      t = putAccount { a with balance := a.balance - amount } s := by
  unfold debit at h
  split at h
  · cases h
  · rename_i a ha
    split at h
    · rename_i hc
      exact ⟨a, ha, hc, (Option.some.inj h).symm⟩
    · cases h

/-- A record found under a number has that number. -/
theorem findAccount_number {u : AccountUnit} {n : Nat} {a : Account} (h : findAccount u n = some a) : a.number = n := by
  have := List.find?_some h
  simpa using this

/-! ## Open orders (log entry 1) -/

/-- Whatever the number, an ordering of a list holds what the list holds. -/
theorem orderBy_perm {α : Type} (xs : List α) : ∀ c, (orderBy c xs).Perm xs := by
  induction xs with
  | nil => intro c; exact .refl _
  | cons x xs ih =>
    intro c
    have len : ∀ d, (orderBy d xs).length = xs.length := fun d => (ih d).length_eq
    unfold orderBy
    refine (List.perm_insertIdx x _ ?_).trans ((ih _).cons x)
    rw [len]
    exact Nat.lt_succ_iff.mp (Nat.mod_lt _ (Nat.succ_pos _))

/-- Things taken in an open order are the things given, each once. -/
theorem inOpenOrder_perm {α : Type} (xs : List α) (s : State) : (inOpenOrder xs s).1.Perm xs := by
  unfold inOpenOrder
  split
  · exact .refl _
  · exact orderBy_perm xs _

/-! ## The journal's level (R148, R149, R151) -/

/-- A level set: the journal holds it, a change raises the JOURNAL condition, and nothing else changes. -/
theorem setLevel_spec (l : Urgency) (s : State) :
    setLevel l s = { s with
      journal := { s.journal with level := l }
      host := { s.host with journalFlag := s.host.journalFlag || (l != s.journal.level) } } := by
  unfold setLevel
  split
  · rename_i h
    subst h
    simp
  · rename_i h
    simp [raiseJournal, State.updJournal, State.updHost, h]

/-! ## Messages (R16) -/

/-- A message offered to a present station with room goes to the tail of its queue. -/
theorem offer_room {i : StationId} {m : DownMsg} {s : State} (hp : (s.st i).line.present = true)
    (hr : (s.st i).line.down.length < Config.downQueueRoom) :
    offer i m s = s.updLine i fun l => { l with down := l.down ++ [m] } := by
  unfold offer
  simp [hp, hr]

/-- A message offered to an ABSENT station is discarded. -/
theorem offer_absent {i : StationId} {m : DownMsg} {s : State} (hp : (s.st i).line.present = false) : offer i m s = s := by
  unfold offer
  simp [hp]

/-! ## Requests (R174) -/

/-- A request that nothing holds back is taken, and its reply waits. -/
theorem submit_idle {r : Request} {s : State} (h : lineIdle s) :
    submit r s = bufferReply (requestKind r) (takeRequest r s) := if_pos h

/-- A refusal waits in the reply buffer, and nothing else changes (R191). -/
theorem bufferReply_refused (kind : Byte) (status : Status) (s : State) :
    bufferReply kind (answerRefused status s) = s.replied kind status [] := rfl

/-- A reply of an owner waits in the reply buffer beside the state that the owner leaves. -/
theorem bufferReply_ok (kind : Byte) (body : List Byte) (s : State) :
    bufferReply kind (answerOk body s) = s.replied kind .ok body := rfl

/-- A request frame at the receive queue joins its tail while fewer than four wait, and is an overrun otherwise (R173). -/
theorem enqueue_cases (f : HostFrame) (s : State) :
    (s.host.received.length < 4 ∧
      enqueue f s = { s with host := { s.host with received := s.host.received ++ [f] } }) ∨
    (4 ≤ s.host.received.length ∧
      enqueue f s = { s with host := { s.host with
        counters := { s.host.counters with overruns := addUpTo Config.shortTop s.host.counters.overruns 1 } } }) := by
  unfold enqueue State.updHost
  by_cases room : s.host.received.length < 4
  · exact .inl ⟨room, by simp [Config.receiveRoom, room]⟩
  · exact .inr ⟨Nat.le_of_not_lt room, by simp [Config.receiveRoom, room]⟩

/-- Nothing is dispatched while a reply is in the buffer (R174). -/
theorem dispatch_held {s : State} (h : s.host.reply ≠ .empty) : dispatch s = s := by
  unfold dispatch
  split
  · rename_i e _
    exact absurd e h
  · rfl

/-- A reply in the buffer is no matter to the receive queue. -/
@[simp] theorem enqueue_reply (f : HostFrame) (s : State) : (enqueue f s).host.reply = s.host.reply := by
  rcases enqueue_cases f s with ⟨_, e⟩ | ⟨_, e⟩ <;> rw [e]

/-- A request given while a reply is in the buffer is queued, or counted as an overrun, and nothing else (R173, R174). -/
theorem submit_held {r : Request} {s : State} (h : s.host.reply ≠ .empty) : submit r s = enqueue (requestFrame r) s := by
  have held : (enqueue (requestFrame r) s).host.reply ≠ .empty := by rwa [enqueue_reply]
  unfold submit receiveRequest
  rw [if_neg fun e => h e.1, dispatch_held held]

/-! ## Exits (R11) -/

/-- An exit count of 0 raises no event (R11). -/
@[simp] theorem exitsEvent_zero (i : StationId) (s : State) : exitsEvent i 0 s = s := rfl

/-- An exits event of 1 to 3 is activity, and then its exits (R11, R32, R72). -/
theorem exitsEvent_succ (i : StationId) (n : Nat) (s : State) : exitsEvent i (n + 1) s = exits i (n + 1) (activity i s) := rfl

/-! ## The limits of both channels (R15, R19) -/

/-- One arrival more without a byte: nothing with the channel IDLE, and the limit at the 64th while RECEIVING (R15). -/
theorem quietArrival_cases (l : StationLine) :
    (l.up = .idle ∧ quietArrival l = (l, [])) ∨
    (∃ buffer quiet, l.up = .receiving buffer quiet ∧ quiet + 1 < 64 ∧
      quietArrival l = ({ l with up := .receiving buffer (quiet + 1) }, [])) ∨
    (∃ buffer quiet, l.up = .receiving buffer quiet ∧ 64 ≤ quiet + 1 ∧
      quietArrival l = ({ l with up := .idle, ackOwed := .abort }, [.anomaly .upTimeout])) := by
  unfold quietArrival abandonUp
  cases h : l.up with
  | idle => exact .inl ⟨rfl, rfl⟩
  | receiving buffer quiet =>
    by_cases limit : 64 ≤ quiet + 1
    · exact .inr (.inr ⟨buffer, quiet, rfl, limit, if_pos limit⟩)
    · exact .inr (.inl ⟨buffer, quiet, rfl, Nat.lt_of_not_le limit, if_neg limit⟩)

/-- One arrival more without an acknowledgement: nothing with no byte waiting, and the limit at the 64th while one waits (R19). -/
theorem unacknowledged_cases (l : StationLine) :
    (l.downWait = none ∧ unacknowledged l = (l, [])) ∨
    (∃ n, l.downWait = some n ∧ n + 1 < 64 ∧ unacknowledged l = ({ l with downWait := some (n + 1) }, [])) ∨
    (∃ n, l.downWait = some n ∧ 64 ≤ n + 1 ∧
      unacknowledged l =
        ({ l with down := l.down.drop 1, downTaken := 0, downWait := none, downAbort := true },
          [.anomaly .downTimeout])) := by
  unfold unacknowledged abandonDown popDown
  cases h : l.downWait with
  | none => exact .inl ⟨rfl, rfl⟩
  | some n =>
    by_cases limit : 64 ≤ n + 1
    · exact .inr (.inr ⟨n, rfl, limit, if_pos limit⟩)
    · exact .inr (.inl ⟨n, rfl, Nat.lt_of_not_le limit, if_neg limit⟩)

end Sys2Proof.Machine
end

