-- ==== Sys2Proof/WellFormed.lean ====
section
/-!
DEFINITION. The static check of a command. Most fields are bounded by their types (a station number is below 16, a body
field has its body width); what is left is the length of the run of characters that one HOST_FRAME brings.
-/

namespace Sys2Proof

/-- The longest frame on the host line, in bytes (spec/10 section 10.2: "5 to 255 bytes long"). -/
def longestFrame : Nat := 255

/-- A HOST_FRAME brings at least one character and at most as many as the longest frame has bytes. The meaning of
HOST_FRAME does not need this: it takes any run of characters. -/
def frameRunOk (chars : List HrxChar) : Bool :=
  1 ≤ chars.length && chars.length ≤ longestFrame

/-- The check of a whole command. -/
def Instr.wellFormed : Instr → Bool
  | .hostFrame chars => frameRunOk chars
  | _ => true

end Sys2Proof
end

