-- ==== Sys2Proof/Tests/Slice0.lean ====
section
/-!
SUPPORT. Tests of the model: the smoke test of the static check, worked sequences of spec/ one step at a time, and for each
obligation with hypotheses a state and operands that meet them. No test compares a whole state.
-/

open Sys2Proof Sys2Proof.Machine

namespace Sys2Proof.Tests

/-! ## Small states -/

/-- The state after a command. -/
def after (c : Instr) (s : State) : State :=
  match exec c s with
  | .next t => t
  | _ => s

/-- A command answers a next state. -/
def completes (c : Instr) (s : State) : Bool :=
  match exec c s with
  | .next _ => true
  | _ => false

/-- A command waits, alone. -/
def awaiting (c : Instr) (s : State) : State := { s with pending := [c] }

/-- A step answers a next state. -/
def stepsOn (s : State) : Bool :=
  match step s with
  | .next _ => true
  | _ => false

/-- The status and body of the reply that waits. -/
def answered (s : State) : Option (Status × List Byte) :=
  match s.host.reply with
  | .waiting r => some (r.status, r.body)
  | _ => none

/-- A present station that reports READY, with nothing under way. -/
def calm : Station :=
  { Station.reset with
    line := { StationLine.reset with present := true, confirmed := some .ready, latch := .idle } }

/-- A session of account 23,001 that has just opened. -/
def openSession : Session :=
  { Session.ended 7 with
    state := .opened, payer := some (.account 23001), tariffClass := some 0, openTime := some 0 }

/-- A calm station whose session is in a state. -/
def inSession (x : SessionState) : Station := { calm with session := { openSession with state := x } }

/-- A CHARGED entry of one impression at 750 fine units. -/
def sheet : InFlight := ⟨.charged, 1, .mono, 0, 750, 0, 30⟩

/-- A SERVICE entry of one impression. -/
def serviceSheet : InFlight := ⟨.service, 1, .mono, 0, 0, 0, 30⟩

/-- A RUNNING part: mono sheets of media class 0 at 750 fine units, account 23,001 with balance 20 in a PREPAID range
(spec/06 section 6.5). -/
def shop : State :=
  { State.reset with
    charge := { ChargeUnit.reset with
      tariff := (ChargeUnit.reset.tariff.set (tariffIndex 0 0 .mono) (some 750)).set (tariffIndex 0 1 .mono) (some 410) }
    accounts := ⟨AccountUnit.reset.ranges.set 0 (some ⟨20000, 29999, .prepaid, 0, 0⟩),
      [⟨23001, 20, false, 2, 1, 0, 0⟩]⟩
    host := { HostLine.powerOn true false true with op := .running } }

/-- The shop with station 3 as given, and its slot the next of the frame. -/
def with3 (x : Station) : State := { shop.upd 3 fun _ => x with slot := 3 }

/-- A state with the silence timer run out. -/
def silent (s : State) : State := { s with host := { s.host with silenceTimer := some 0 } }

/-- Account 23,001 in the shop. -/
def account : Account := ⟨23001, 20, false, 2, 1, 0, 0⟩

/-- The shop with an account session open at station 3. -/
def trading : State := with3 (inSession .opened)

/-- A card session at the edge of its authority: 2,000, with fine total 199,650 (spec/03 section 3.10). -/
def atTheEdge : Station :=
  { calm with
    session := { openSession with
      payer := some (.card 9), authority := some 2000, fineTotal := 199650, spent := 1996, impressions := 100 } }

/-- An INITIAL entry with reference 5 for 1,000 minor units. -/
def initialEntry : AuthEntry := ⟨5, 7, .initial, 1000, 9, 40000⟩

/-- An AUTHORIZING card session with its entry. -/
def asking : Station :=
  { calm with
    session := { Session.ended 7 with state := .authorizing, payer := some (.card 9), tariffClass := some 0 }
    auth := some initialEntry }

/-- An open card session with an INCREMENT entry. -/
def asksMore : Station := { atTheEdge with auth := some { initialEntry with kind := .increment } }

/-- A shop that lets stand-in grant (spec/07 section 7.5): limit 3,000, minimum 500, cap 5,000, exposure 1,200. -/
def standInShop : State :=
  { shop with cards := ⟨⟨2000, 1000, 200, 0, 3000, 500, 5000⟩, 1, [8], [⟨7, 1200, 3, 1, true⟩]⟩ }

/-- A journal record of session 7 at station 3. -/
def someRecord (n : Nat) : JournalRecord :=
  recordOf 3 openSession (.account 23001) 0 .finish .none 0 { JournalUnit.reset with nextNumber := n }

/-- The part with the journal records of some numbers. -/
def withRecords (from' count : Nat) : State :=
  { shop with journal := { JournalUnit.reset with
      records := (List.range' from' count).map someRecord, nextNumber := from' + count } }

/-! ## The static check -/

theorem test_wf_refuses_an_empty_run : (Instr.hostFrame []).wellFormed = false := by decide

theorem test_wf_refuses_a_run_beyond_the_longest_frame :
    (Instr.hostFrame (List.replicate 256 ⟨0, true⟩)).wellFormed = false := by
  have long : ¬ (List.replicate 256 (⟨0, true⟩ : HrxChar)).length ≤ longestFrame := by
    rw [List.length_replicate]
    decide
  rw [Instr.wellFormed, frameRunOk, decide_eq_false long, Bool.and_false]

theorem test_wf_accepts_one_character : (Instr.hostFrame [⟨0xA5, true⟩]).wellFormed = true := by decide

theorem test_no_word_spells_a_command : decodeTableWord 16 0x5678 = none := by decide

/-! ## Forms on the lines, written out from spec/11 -/

set_option maxRecDepth 4000 in
/-- The usual check input of this polynomial and start value, whose remainder 0x29B1 is known from outside spec/. -/
theorem test_frame_check :
    frameCheck [0x31, 0x32, 0x33, 0x34, 0x35, 0x36, 0x37, 0x38, 0x39] = 0x29B1#16 := by decide

theorem test_account_put_body :
    parseRequest ⟨0x10, [0x00, 0x9C, 0xB5, 0xFF, 0xFF, 0xFF, 0xFE, 0, 2]⟩ =
      .ok (.accountPut 40117 0xFFFFFFFE 0 2) := by rfl

theorem test_journal_release_body :
    parseRequest ⟨0x21, [0x00, 0x04, 0x00, 0x00, 0x04, 0x10]⟩ = .ok (.journalRelease 4 1040) := by rfl

theorem test_wrong_length : parseRequest ⟨0x21, [0, 4]⟩ = .error .length := by rfl

/-- JAM at location 4, a colour duplex sheet of media class 5, two exits, a LAST byte and ACK. -/
theorem test_upstream_half :
    decodeHalf ⟨0xE4, 0xE5, 0xA4, 0x7B⟩ = ⟨true, some (.jam 4), some ⟨5, .colour, 2⟩, 2, .last, .ack, 0x7B⟩ := by decide

/-- STOP(FUNDS) with the hold mark, a DATA byte and ACK. -/
theorem test_downstream_half :
    downHalfBytes (.stop .funds) true .data .ack 0x84 = [0xE8, 0x50, 0x84] := by decide

theorem test_account_message : upMessage [0x02, 0x00, 0x9C, 0xB5] = some (.account 40117) := by decide

/-- The record that the session of section 2.6 leaves, as section 11.8 decodes it. -/
theorem test_journal_record :
    let r : JournalRecord := ⟨7483, 812, 6, .account 40117, none, 2, 0, 0, false, .finish, .posted, 0, 23, 3, 0, 0, 0, 0, 0, 0, 0⟩
    (recordBytes r).length = 61 ∧ ((recordBytes r).drop 6).take 2 = [0x62, 0x10] ∧
      ((recordBytes r).drop 21).take 3 = [0x00, 0x9C, 0xB5] ∧ ((recordBytes r).drop 32).take 1 = [0x05] ∧
      ((recordBytes r).drop 36).take 3 = [0x00, 0x00, 0x17] := by decide

/-! ## Charge arithmetic (spec/03) -/

/-- R47 to R49: index 100 at 750, index 101 at 675. -/
theorem test_duplex_across_a_threshold :
    sheetPrice ⟨0, ⟨101, 10⟩, ⟨501, 25⟩, ⟨0, 0⟩⟩ 750 99 2 = 1425 := by decide

/-- R54: from 1,500 a charge and then a credit of 750 give 7 and 7; the credit and then the charge 8 and 8. -/
theorem test_orders_of_charge_and_credit :
    (postedBy 1500 750, returnedBy 2250 750, returnedBy 1500 750, postedBy 750 750) = (7, 7, 8, 8) := by decide

/-- Section 6.5: a duplex sheet takes 15 of the last 20, and SHOW gives 15 and 5. -/
theorem test_pick_takes_the_last_funds :
    ((after (.upstreamHalf 3 (halfOf .ready (pickByte ⟨0, .mono, 2⟩) 0 0 0 0)) trading).st 3).line.down =
      [.showing 15 5] := by decide

/-- Section 6.5: with 5 left, a simplex sheet is refused. -/
theorem test_pick_short_of_funds :
    ((after (.upstreamHalf 3 (halfOf .ready (pickByte ⟨0, .mono, 1⟩) 0 0 0 0))
      { trading with accounts := { trading.accounts with accounts := [{ account with balance := 5 }] } }).st 3).line.latch =
      .answeredStop .funds := by decide

/-- Section 3.10: at the edge of the authority 750 does not fit. -/
theorem test_card_short :
    (chargeSheet 3 ⟨0, .mono, 1⟩ (with3 atTheEdge)).1 = .short := by decide

/-- Section 3.10: and 410 does, reaching 2,000. -/
theorem test_card_fits :
    ((chargeSheet 3 ⟨1, .mono, 1⟩ (with3 atTheEdge)).2.st 3).session.spent = 2000 := by decide

/-- Section 3.10: with the spent at the authority the closing cent is waived. -/
theorem test_closing_cent_waived :
    (closingCent 3 (with3 { atTheEdge with
      session := { atTheEdge.session with fineTotal := 200060, spent := 2000 } })).1 = .waived := by decide

/-! ## Stations (spec/01, spec/04, spec/05, spec/09) -/

/-- Section 1.8: with SHOW 1 sending, SHOW 5 takes the place of SHOW 4, and REFUSED that of the oldest unsent SHOW. -/
theorem test_burst :
    offerToFull (.showing 5 0) { calm.line with
      down := [.showing 1 0, .showing 2 0, .showing 3 0, .showing 4 0], downTaken := 1 } =
      some [.showing 1 0, .showing 2 0, .showing 3 0, .showing 5 0] ∧
    offerToFull (.refused .session) { calm.line with
      down := [.showing 1 0, .showing 2 0, .showing 3 0, .showing 5 0], downTaken := 1 } =
      some [.showing 1 0, .showing 3 0, .showing 5 0, .refused .session] := by decide

/-- Section 1.1: slot 4 follows slot 3 with no frame mark, slot 0 the last one with it, and a half out of its slot changes
nothing. -/
theorem test_slots_rise :
    let last := { trading with slot := 15 }
    let half := halfOf .ready 0 0 0 0 0
    ((after (.upstreamHalf 3 half) trading).slot, frameMark (after (.upstreamHalf 3 half) trading)) = (4, false) ∧
    ((after (.upstreamHalf 15 half) last).slot, frameMark (after (.upstreamHalf 15 half) last)) = (0, true) ∧
    ((after (.upstreamHalf 3 half) last).slot, ((after (.upstreamHalf 3 half) last).st 3).line.sent) = (15, []) := by decide

/-- R72 and R74: of two entries past their limits, the exit delivers the first and the second is removed at once. -/
theorem test_exit_then_overdue :
    let t := after (.upstreamHalf 3 (halfOf .ready 0 1 0 0 0)) (with3 { inSession .opened with
      queue := [{ serviceSheet with age := 60000 }, { serviceSheet with age := 60000 }, serviceSheet] })
    (t.st 3).queue = [serviceSheet] ∧ (t.st 3).meters.serviceDelivered = 1 ∧ (t.st 3).meters.writtenOff = 1 := by decide

/-- R73 and R87: during a stall an exits count of 3 that finds one entry delivers it and makes two uncharged exits. -/
theorem test_three_exits_find_one_entry :
    let t := after (.upstreamHalf 3 (halfOf .doorOpen 0 3 0 0 0)) (with3 { inSession .stalled with
      queue := [sheet], line := { calm.line with confirmed := some .doorOpen }, recovery := ⟨some .door, some 9, .enabled, false⟩ })
    (t.st 3).meters.delivered = 1 ∧ (t.st 3).meters.unchargedExits = 2 ∧ (t.st 3).session.unchargedExits = 2 ∧
      (t.st 3).cond.anomalies = 2 := by decide

/-- Section 1.4: a waiting pick gets GO from the exit that makes room. -/
theorem test_wait_then_go :
    ((after (.upstreamHalf 3 (halfOf .ready (pickByte ⟨0, .mono, 1⟩) 1 0 0 0)) (with3 { inSession .opened with
      queue := List.replicate 8 sheet
      request := .waiting 17 ⟨0, .mono, 1⟩ .pathFull 9
      line := { calm.line with latch := .raised 17 ⟨0, .mono, 1⟩ true } })).st 3).line.latch = .answeredGo := by decide

/-- R3: the sixteenth arrival without the mark loses the station. -/
theorem test_station_lost :
    ((after (.upstreamHalf 3 ⟨0, 0, 0, 0⟩) (with3 { calm with
      line := { calm.line with contrary := 15 } })).st 3).recovery.stoppage = some .absent := by decide

/-- Section 5.8: two sheets of 750 stranded at 3,000; the recovery credits 8 and 7 and leaves 1,500. -/
theorem test_recovery_credits_both :
    let t := after (.upstreamHalf 3 (halfOf .ready 0 0 0 0 0)) (with3 { inSession .stalled with
      session := { openSession with state := .stalled, fineTotal := 3000, spent := 30, impressions := 4 }
      queue := [sheet, sheet]
      line := { calm.line with confirmed := some .paperOut, candidate := some .ready }
      recovery := ⟨some (.jam 4), some 100, .enabled, false⟩ })
    (t.st 3).session.spent = 15 ∧ (t.accounts.accounts.map (·.balance)) = [35] ∧
      (t.st 3).cond.jam = some ⟨.recovery, .jam 4, 2⟩ := by decide

/-- Sections 3.6 and 6.3: the first credit brings 20 to 28, which an ADJUST by -28 may then take; the second leaves 7. -/
theorem test_adjust_between_two_credits :
    let s := { with3 { inSession .stalled with
        session := { openSession with state := .stalled, fineTotal := 3000, spent := 30, impressions := 4 }
        queue := [sheet, sheet]
        line := { calm.line with confirmed := some .doorOpen, candidate := some .ready }
        recovery := ⟨some .door, some 100, .enabled, false⟩ } with
      meanwhile := [[.request (.accountAdjust 23001 0xFFFFFFE4)], []] }
    let t := after (.upstreamHalf 3 (halfOf .ready 0 0 0 0 0)) s
    (t.accounts.accounts.map (·.balance)) = [7] ∧ (answered t).map (·.1) = some .ok := by decide

/-- Sections 3.6, 6.3 and 6.4: a FREEZE between two credits of a recovery leaves FROZEN as close pending, and the session closes
with it after the second. -/
theorem test_freeze_between_two_credits :
    let s := { with3 { inSession .stalled with
        session := { openSession with state := .stalled, fineTotal := 3000, spent := 30, impressions := 4 }
        queue := [sheet, sheet]
        line := { calm.line with confirmed := some .doorOpen, candidate := some .running }
        recovery := ⟨some .door, some 100, .enabled, false⟩ } with
      meanwhile := [[.request (.accountFreeze 23001)], []] }
    let t := after (.upstreamHalf 3 (halfOf .running 0 0 0 0 0)) s
    (t.accounts.accounts.map fun a => (a.balance, a.frozen)) = [(35, true)] ∧
      t.journal.records.map (fun r => (r.reason, r.spent)) = [(.frozen, 15)] := by decide

set_option maxRecDepth 4000 in
/-- Sections 3.6 and 3.7: the balance is 0, so the closing cent of the session of station 4 is covered by the first credit of
station 3 alone; the exit that closes it comes after that credit, or before it. -/
theorem test_exit_between_two_credits :
    let draining := { inSession .draining with
      session := { openSession with state := .draining, closeReason := some .finish, fineTotal := 50 }, queue := [sheet] }
    let s := { (with3 { inSession .stalled with
        session := { openSession with state := .stalled, fineTotal := 3000, spent := 30, impressions := 4 }
        queue := [sheet, sheet], recovery := ⟨some .fault, some 0, .enabled, false⟩ }).upd 4 fun _ => draining with
      accounts := { shop.accounts with accounts := [{ account with balance := 0, openSessions := 2 }] } }
    (after (.stallTimerExpiry 3) { s with meanwhile := [[.exits 4 1], []] }).journal.records.map (fun r => (r.reason, r.cent)) =
        [(.finish, .posted), (.stallTimeout, .none)] ∧
      (after (.upstreamHalf 4 (halfOf .ready 0 1 0 0 0)) { s with slot := 4 }).journal.records.map (fun r => (r.reason, r.cent)) =
        [(.finish, .waived)] := by decide

set_option maxRecDepth 4000 in
/-- R11: in a gap an exit count of 0 raises no event, so the idle timer of station 4 runs on; a count of 1 reloads it. -/
theorem test_exit_count_of_zero_in_a_gap :
    let s := (with3 { inSession .stalled with
      queue := [sheet], recovery := ⟨some .fault, some 0, .enabled, false⟩ }).upd 4 fun _ =>
        { inSession .opened with idleTimer := some 5 }
    ((after (.stallTimerExpiry 3) { s with meanwhile := [[.exits 4 0]] }).st 4).idleTimer = some 5 ∧
      ((after (.stallTimerExpiry 3) { s with meanwhile := [[.exits 4 1]] }).st 4).idleTimer = some 240000 := by decide

/-- Station 3, and another STALLED session on the same account at station 4, each with two sheets of 750 in flight at 3,000; the
timer of station 3 has run out, and the tape has the credits of a recovery at station 4 alternate with those of its series. -/
def alternating : State :=
  let stranded := { inSession .stalled with
    session := { openSession with state := .stalled, fineTotal := 3000, spent := 30, impressions := 4 }
    queue := [sheet, sheet], recovery := ⟨some .fault, some 0, .enabled, false⟩
    line := { calm.line with confirmed := some .fault } }
  { (with3 stranded).upd 4 fun _ => stranded with
    meanwhile := [[.recovered 4 false, .advance 4], [.advance 4, .advance 4]] }

set_option maxRecDepth 4000 in
/-- Sections 3.6 and 6.3: from a balance of 20, with floor 0, the credits of 8, 8, 7 and 7 alternate between the two stations, so
the SHOWs give 28 and 43 at station 3, and 36 and 50 at station 4. -/
theorem test_credits_of_two_series_alternate :
    let t := after (.stallTimerExpiry 3) alternating
    (t.st 3).line.down = [.showing 22 28, .showing 15 43, .closed 15 .none] ∧
      (t.st 4).line.down = [.showing 22 36, .showing 15 50] ∧ (t.accounts.accounts.map (·.balance)) = [50] ∧
      ((t.st 3).session.state, (t.st 4).session.state) = (.none, .opened) := by decide

set_option maxRecDepth 4000 in
/-- Sections 2.7, 3.6 and 6.3: a HALT in a gap of an expiry at station 3 closes the session of station 4 with its credits before
the second credit of station 3, whose session then closes by its expiry. -/
theorem test_halt_between_two_credits :
    let t := after (.stallTimerExpiry 3) { alternating with
      choiceTape := [0], meanwhile := [[.request .halt, .advance 4, .advance 4, .advance 4]] }
    (t.st 3).line.down = [.showing 22 28, .showing 15 50, .closed 15 .none] ∧
      (t.st 4).line.down = [.showing 22 36, .showing 15 43, .closed 15 .none] ∧
      t.journal.records.map (·.reason) = [.halt, .stallTimeout] ∧ t.host.op = .stopped ∧
      t.host.reply = .waiting ⟨0x04, .ok, []⟩ := by decide

set_option maxRecDepth 10000 in
/-- Sections 2.7 and 8.2: at HALT a FINISH of a station not yet taken makes no record between two of HALT's. -/
theorem test_halt_records_together :
    let s := ((with3 { inSession .opened with queue := [sheet] }).upd 4 fun _ => { inSession .opened with queue := [sheet] }).upd 5
      fun _ => inSession .opened
    ((after .halt { s with choiceTape := [0], meanwhile := [[], [.message 5 .finish], [.message 5 .finish]] }).journal.records.map (·.reason)) =
      [.halt, .halt, .halt] ∧
    ((after .halt { s with choiceTape := [0], meanwhile := [[.message 5 .finish]] }).journal.records.map (·.reason)) =
      [.finish, .halt, .halt] := by decide

set_option maxRecDepth 10000 in
/-- Sections 3.6 and 4.1: the pick field drops between two picks of one station in one gap, so that its session is debited twice. -/
theorem test_two_picks_in_a_gap :
    let s := { (with3 { inSession .stalled with
        queue := [sheet, sheet], recovery := ⟨some .fault, some 0, .enabled, false⟩ }).upd 4 fun _ => inSession .opened with
      meanwhile := [[.pick 4 ⟨0, .mono, 1⟩, .dropped 4, .pick 4 ⟨0, .mono, 1⟩]] }
    ((after (.stallTimerExpiry 3) s).st 4).queue.length = 2 ∧
      ((after (.stallTimerExpiry 3) s).st 4).line.serial = 2 := by decide

/-- Sections 6.4 and 10.3: once the reply to the first request has been sent, a second one is taken in the same series. -/
theorem test_two_requests_in_a_series :
    let t := after (.stallTimerExpiry 3) { alternating with
      meanwhile := [[.request (.accountAdjust 23001 1)], [.arbiter, .frameSent, .request (.accountAdjust 23001 2)]] }
    (t.accounts.accounts.map (·.balance)) = [38] ∧ (t.st 3).line.down.take 2 = [.showing 22 28, .showing 15 36] := by decide

set_option maxRecDepth 4000 in
/-- Section 5.8: a card session whose stall runs out at 2,250 with two sheets in flight closes with spent 8, POSTED. -/
theorem test_stall_runs_out :
    let t := after (.stallTimerExpiry 3) (with3 { atTheEdge with
      session := { atTheEdge.session with
        state := .stalled, fineTotal := 2250, spent := 22, impressions := 3, closePending := some .finish }
      queue := [sheet, sheet]
      recovery := ⟨some .fault, some 0, .enabled, false⟩ })
    t.journal.records.map (fun r => (r.reason, r.spent, r.cent, r.creditedAmount)) = [(.stallTimeout, 8, .posted, 15)] ∧
      (t.st 3).recovery.availability = .outOfService := by decide

/-- Section 5.8: DISABLE at a stalled station keeps DISABLED and is answered ENABLED with disable pending. -/
theorem test_disable_while_stalled :
    answered (after (.stationDisable 3) (with3 (inSession .stalled))) = some (.ok, [0, 1]) := by decide

/-- Section 9.11: SERVICE HOLD with two charged sheets in flight is answered REQUESTED, 2 and 2. -/
theorem test_hold_requested :
    answered (after (.serviceHold 3) (with3 { inSession .opened with queue := [sheet, sheet] })) =
      some (.ok, [3, 1, 2, 2]) := by decide

/-- Section 9.11: a release with the door open stalls the session when the last service sheet has left. -/
theorem test_release_with_the_door_open :
    let t := after (.upstreamHalf 3 (halfOf .doorOpen 0 1 0 0 0)) (with3 { inSession .opened with
      hold := .releasing, queue := [serviceSheet]
      line := { calm.line with confirmed := some .doorOpen }
      recovery := ⟨some .door, none, .enabled, false⟩ })
    (t.st 3).hold = .none ∧ (t.st 3).session.state = .stalled ∧ (t.st 3).session.stallCount = 1 := by decide

/-- Section 9.11: FINISH under a hold closes at once with the cent posted, and leaves hold and service sheets. -/
theorem test_finish_under_a_hold :
    let t := after (.finish 3) (with3 { inSession .opened with
      session := { openSession with fineTotal := 1550, spent := 15 }
      hold := .held, queue := [serviceSheet, serviceSheet] })
    (t.st 3).line.down = [.closed 16 .posted] ∧ (t.st 3).hold = .held ∧ (t.st 3).queue.length = 2 := by decide

/-! ## Sessions, accounts and cards (spec/02, spec/06, spec/07) -/

/-- Section 2.6: the last exit of a DRAINING session closes it at 2,250 with spent 23. -/
theorem test_draining_closes :
    let t := after (.upstreamHalf 3 (halfOf .ready 0 1 0 0 0)) (with3 { inSession .draining with
      session := { openSession with
        state := .draining, closeReason := some .finish, fineTotal := 2250, spent := 22, impressions := 3 }
      queue := [sheet] })
    t.journal.records.map (fun r => (r.reason, r.spent, r.cent)) = [(.finish, 23, .posted)] ∧
      t.accounts.accounts.map (fun a => (a.balance, a.openSessions, a.lifetimeSpend)) = [(19, 0, 23)] := by decide

/-- R32: a pick that follows the expiry of the idle timer finds the session DRAINING. -/
theorem test_pick_after_the_idle_expiry :
    let t := after (.idleExpiry 3) { with3 { inSession .opened with idleTimer := some 0 } with
      meanwhile := [[.pick 3 ⟨0, .mono, 1⟩]] }
    (t.st 3).line.latch = .answeredStop .closing ∧ (t.st 3).session.state = .none := by decide

/-- Section 6.4: a PUT that turns the account FROZEN closes its session. -/
theorem test_put_freezes :
    let t := after (.accountPut 23001 20 1 2) trading
    (t.st 3).session.state = .none ∧ t.journal.records.map (·.reason) = [.frozen] := by decide

/-- Section 6.4: with PUT and FROZEN taken first, a pick that comes before the close gets STOP(CLOSING). -/
theorem test_pick_after_put_frozen :
    ((after (.accountPut 23001 20 1 2) { trading with meanwhile := [[.pick 3 ⟨0, .mono, 1⟩]] }).st 3).line.latch =
      .answeredStop .closing := by decide

/-- Section 6.5: a third session on an account of two is refused IN_USE. -/
theorem test_account_in_use :
    ((after (.account 3 23001) { with3 calm with
      accounts := { shop.accounts with accounts := [{ account with openSessions := 2 }] } }).st 3).line.down =
      [.refused .inUse] := by decide

/-- Section 7.4: an approval of 1,500 for a hold of 1,000 opens with 1,000. -/
theorem test_result_is_clamped :
    let t := after (.authResult 5 1 1500) (with3 asking)
    answered t = some (.ok, [3, 1, 1, 0x00, 0x03, 0xE8]) ∧ (t.st 3).line.down = [.opened .card 1000] := by decide

/-- Section 2.6: FINISH while a card is authorized closes at the approval, with a record of spent 0. -/
theorem test_finish_while_authorizing :
    let t := after (.authResult 5 1 1000) (with3 { asking with
      session := { asking.session with closePending := some .finish } })
    (t.st 3).session.state = .none ∧ t.journal.records.map (fun r => (r.reason, r.spent)) = [(.finish, 0)] := by decide

/-- Section 7.8: the link goes DOWN with three cards waiting, taken in the order 4, 7, 10: 3,000, 800, and a refusal. -/
theorem test_link_down_with_three_cards :
    let waiting := fun (n : Nat) (t : Token) => { asking with
      session := { asking.session with number := n, payer := some (.card t) }
      auth := some { initialEntry with reference := n, sessionNumber := n, token := t } }
    let s := { ((standInShop.upd 4 fun _ => waiting 4 14).upd 7 fun _ => waiting 7 17).upd 10 fun _ => waiting 10 20 with
      choiceTape := [0] }
    let t := after .silenceExpiry (silent s)
    ([4, 7, 10].map fun i => (t.st i).session.authority) = [some 3000, some 800, none] ∧
      exposure t.cards = 5000 ∧ (t.st 10).line.down = [.refused .offline] := by decide

/-- Section 7.8: a result after the timeout is answered LATE. -/
theorem test_late_result : answered (after (.authResult 500 1 3000) (with3 calm)) = some (.late, []) := by decide

/-- R101: an entry that meets the span of entry 0 is refused CONFLICT with cause 1 and entry 0. -/
theorem test_range_conflict :
    answered (after (.setRange 1 1 29999 40000 1 0 0) { shop with host := { shop.host with op := .stopped } }) =
      some (.conflict, [1, 0, 0, 0]) := by decide

/-! ## The journal and the host line (spec/08, spec/10) -/

/-- Section 8.6: RELEASE 4 of the records 1,040 to 1,045 removes four and names 1,044. -/
theorem test_release :
    answered (after (.journalRelease 4 1040) (withRecords 1040 6)) =
      some (.ok, [0, 4, 0, 2, 0, 0x00, 0x00, 0x04, 0x14]) := by decide

/-- Section 8.6: the same request again is a CONFLICT that names 1,044. -/
theorem test_release_repeated :
    answered (after (.journalRelease 4 1040) (withRecords 1044 3)) =
      some (.conflict, [0, 0, 0, 3, 0, 0x00, 0x00, 0x04, 0x14]) := by decide

/-- Section 8.6: at 448 MUST holds; at 447 the level is NEED, at 351 MAY. -/
theorem test_levels :
    (fallLevel 448 .must, fallLevel 447 .must, fallLevel 351 .need, riseLevel 384 .may, riseLevel 480 .need) =
      (.must, .need, .may, .need, .must) := by decide

/-- R183: with the timer running yet, the link stays UP. -/
theorem test_silence_heard_in_time : (after .silenceExpiry shop).host = shop.host := by decide

/-- Section 10.12: a JAM report at level 3 goes before a STATION condition at level 1. -/
theorem test_jam_before_station :
    chooseClass ((raiseStation 3 (raiseJam 3 .recovery .door 0 (with3 calm)))) = some .jam := by decide

/-- Section 10.12: a break empties queue and buffer and stops the reply; the SESSION condition survives. -/
theorem test_break :
    let s := raiseSession 7 { shop with host := { shop.host with
      received := [⟨0x20, [4]⟩, ⟨0x2E, [2]⟩], reply := .sending ⟨0x01, .ok, []⟩, htx := .reply [] } }
    let t := after .lineBreak s
    t.host.received = [] ∧ t.host.reply = .empty ∧ t.host.htx = .free ∧ (t.st 7).cond.session = true := by decide

/-- R172: a byte 0xA5 inside a frame is a byte of it. -/
theorem test_start_byte_inside_a_frame :
    (after (.hostFrame [⟨0xA5, true⟩, ⟨3, true⟩, ⟨0xA5, true⟩]) shop).host.receiver = .inFrame [3, 0xA5] := by decide

/-! ## Witnesses: a state and operands that meet the hypotheses of each obligation that has some

Where an obligation has several clauses, each clause is met, at a boundary of its range where it has
one. -/

/-- A STOPPED part with the shop's tables. -/
def closedShop : State := { shop with host := { shop.host with op := .stopped } }

/-- The shop with a request reply waiting and nothing on the line. -/
def replyWaits : State := { shop with host := { shop.host with reply := .waiting ⟨0x01, .ok, []⟩ } }

theorem witness_StepTakesTheFrontCommand :
    ({ shop with pending := [.status, .halt] } : State).pending = .status :: [.halt] := by decide

theorem witness_EmptyQueuePassesOneFrame :
    State.reset.pending = [] ∧ ({ trading with pending := [] } : State).pending = [] ∧
      (State.reset.st 3).request = .idle ∧
      ((with3 { calm with request := .waiting 1 ⟨0, .mono, 1⟩ .funds 0 }).st 3).request =
        .waiting 1 ⟨0, .mono, 1⟩ .funds 0 := by decide

/-- An event of each form: one with gaps and an empty tape, a slot in its place and out of it, and a station out of the frame. -/
theorem witness_StationEventsStayAtTheirStation :
    (eventStation (.finish 3) = some 3 ∧ completes (.finish 3) trading = true) ∧
    (eventStation (.idleExpiry 3) = some 3 ∧ completes (.idleExpiry 3) trading = true ∧ trading.meanwhile = []) ∧
    (eventStation (.upstreamHalf 3 (halfOf .ready 0 0 0 0 0)) = some 3 ∧ trading.inFrame 3 = true ∧ trading.slot = 3 ∧
      completes (.upstreamHalf 3 (halfOf .ready 0 0 0 0 0)) trading = true) ∧
    (shop.slot ≠ 3 ∧ completes (.upstreamHalf 3 (halfOf .ready 0 0 0 0 0)) shop = true) ∧
    (eventStation (.finish 8) = some 8 ∧
      ({ trading with host := { trading.host with stationsHigh := false } } : State).host.stationsHigh = false ∧
      8 ≤ (8 : StationId).val) := by decide

/-- An open session with two impressions granted, one just before the meter rolled over, both in flight. -/
def conserving : State :=
  awaiting (.finish 3) (with3 { inSession .opened with queue := [sheet, sheet], meters := ⟨1, 999999999, 0, 0, 0, 0, 0⟩ })

theorem witness_StepConservesImpressions : ImpressionsConserved conserving ∧ stepsOn conserving = true := by
  refine ⟨?_, by decide⟩
  unfold ImpressionsConserved Conserved impressionsOf
  decide

/-- An open session whose idle timer runs. -/
def idling : State := awaiting (.idleExpiry 3) (with3 { inSession .opened with idleTimer := some 0 })

theorem witness_StepKeepsTheIdleTimerRight : IdleTimerRight idling ∧ stepsOn idling = true := by
  refine ⟨?_, by decide⟩
  unfold IdleTimerRight
  decide

/-- An INITIAL entry at station 3 and an INCREMENT entry at station 4. -/
def twoEntries : State := awaiting (.initialAuthTimeout 3) ((with3 asking).upd 4 fun _ => asksMore)

theorem witness_StepKeepsTheAuthTableRight : AuthTableRight twoEntries ∧ stepsOn twoEntries = true := by
  refine ⟨fun i => ?_, by decide⟩
  have h : ∀ i, twoEntries.st i = asking ∨ twoEntries.st i = asksMore ∨ twoEntries.st i = Station.reset := by decide
  rcases h i with h | h | h <;> rw [h]
  · exact ⟨fun _ => ⟨initialEntry, rfl, rfl⟩, fun e he _ => rfl, fun e he hk => by
      simp [asking, initialEntry] at he; subst he; simp at hk⟩
  · exact ⟨fun h => by simp [asksMore, atTheEdge, openSession] at h,
      fun e he hk => by simp [asksMore, atTheEdge, initialEntry] at he; subst he; simp at hk,
      fun e he hk => ⟨.inl rfl, 9, rfl⟩⟩
  · exact ⟨fun h => by simp [Station.reset, Session.ended] at h,
      fun e he _ => by simp [Station.reset] at he, fun e he _ => by simp [Station.reset] at he⟩

/-- Six records and one session that closes. -/
def recording : State := awaiting (.finish 3) ((withRecords 1040 6).upd 3 fun _ => inSession .opened)

theorem witness_StepKeepsJournalRoom : JournalHasRoom recording ∧ stepsOn recording = true := by
  refine ⟨?_, by decide⟩
  unfold JournalHasRoom
  decide

/-- A full in-flight queue. -/
def packed : State := awaiting (.finish 3) (with3 { inSession .opened with queue := List.replicate 8 sheet })

/-- A DRAINING session with its reason, whose last sheet is at its limit, and a STALLED one with a close pending. -/
def reasoned : State :=
  awaiting (.overdue 3) ((with3 { inSession .draining with
    session := { openSession with state := .draining, closeReason := some .finish }
    queue := [{ sheet with age := 60000 }] }).upd 4 fun _ =>
    { inSession .stalled with session := { openSession with state := .stalled, closePending := some .idle } })

theorem witness_StepKeepsCapacities : (WithinCapacity packed ∧ stepsOn packed = true) ∧
    (CloseReasonsRight reasoned ∧ stepsOn reasoned = true ∧ (reasoned.st 3).session.closeReason = some .finish ∧
      (reasoned.st 4).session.closePending = some .idle) := by
  refine ⟨⟨⟨by decide, by decide, fun i b q h => ?_, by decide, by decide, by decide, by decide, by decide,
    by decide, by decide⟩, by decide⟩, by unfold CloseReasonsRight; decide, by decide, rfl, rfl⟩
  have calmUp : ∀ i, (packed.st i).line.up = .idle := by decide
  rw [calmUp i] at h
  cases h

theorem witness_RequestFrameActsAsItsCommand :
    shop.host.receiver = .hunting ∧ shop.host.breakHeld = false := by decide

theorem witness_RejectedFramesAreCounted :
    shop.host.receiver = .hunting ∧ shop.host.breakHeld = false ∧ 251 < (252 : Byte).toNat ∧
    (1 ≤ (1 : Byte).toNat ∧ (1 : Byte).toNat ≤ 251 ∧ [(1 : Byte)].length = (1 : Byte).toNat) ∧
    (0x3F < (0x40 : Byte).toNat ∧ ([] : List Byte).length ≤ 250) ∧
    (let s := { replyWaits with host := { replyWaits.host with received := List.replicate 4 ⟨0x20, [4]⟩ } }
     1 ≤ (0x3F : Byte).toNat ∧ (0x3F : Byte).toNat ≤ 0x3F ∧ s.host.reply ≠ .empty ∧ s.host.received.length = 4 ∧
       s.host.receiver = .hunting ∧ s.host.breakHeld = false) := by decide

/-- A reply in the buffer with no request queued, with three, and with four: a frame of any request kind and a request command. -/
theorem witness_RejectedFramesAreCounted_queued :
    ∀ k ∈ [0, 3, 4], let s := { replyWaits with host := { replyWaits.host with received := List.replicate k ⟨0x20, [4]⟩ } }
      s.host.reply ≠ .empty ∧ s.host.received.length = k ∧ s.host.receiver = .hunting ∧ s.host.breakHeld = false ∧
        readyOut s.host = decide (k < 4) ∧ completes (requestCommand .status) s = true ∧
        ([] : List Byte).length ≤ 250 ∧ 1 ≤ (1 : Byte).toNat ∧ (1 : Byte).toNat ≤ 0x3F := by decide

set_option maxRecDepth 4000 in
/-- A frame of one byte whose check bytes are not its check. -/
theorem witness_RejectedFramesAreCounted_check :
    (frameCheck [1, 1]).toNat ≠ (0 : Byte).toNat * 256 + (0 : Byte).toNat := by decide

theorem witness_EventsOfTheHostLine :
    ({ shop with host := { shop.host with receiver := .inFrame [5] } } : State).host.receiver = .inFrame [5] ∧
    shop.host.receiver = .hunting ∧ shop.host.breakHeld = false ∧
    ({ shop with host := { shop.host with breakHeld := true } } : State).host.breakHeld = true := by decide

/-- The silence timer run out with an INITIAL entry, its request unsent and sent, with a grant and without one (a token on the
deny list), and with an INCREMENT entry; and the timer running yet, or the link DOWN. -/
theorem witness_SilenceBringsTheLinkDown :
    let s := silent { standInShop with stations := (with3 asking).stations }
    let u := raiseAuthRequest 3 ⟨5, 7, .initial, 1000, 9⟩ s
    (s.host.linkUp = true ∧ s.host.silenceTimer = some 0 ∧ (s.st 4).auth = none) ∧
    ((s.st 3).auth = some initialEntry ∧ initialEntry.kind = .initial ∧ (s.st 3).session.state = .authorizing ∧
      (s.st 3).session.payer = some (.card 9) ∧ (s.st 3).session.closePending = none ∧
      (s.st 3).recovery.stoppage = none ∧ (s.st 3).request = .idle ∧ (∀ j, j ≠ 3 → (s.st j).auth = none)) ∧
    ((s.st 3).cond.authRequest = none ∧ (u.st 3).cond.authRequest = some ⟨5, 7, .initial, 1000, 9⟩) ∧
    (0 < s.cards.policy.standInLimit ∧ s.journal.level = .release ∧ (9 : Token) ∉ s.cards.deny ∧
      (∀ e ∈ s.cards.standIn, e.token ≠ 9) ∧ s.cards.standIn.length < 32 ∧ s.cards.policy.standInMinimum ≤ grantOf s ∧
      (8 : Token) ∈ s.cards.deny) ∧
    (((with3 asksMore).st 3).auth = some { initialEntry with kind := .increment } ∧ asksMore.request = .idle) ∧
    (shop.host.silenceTimer ≠ some 0 ∧
      ({ shop with host := { shop.host with linkUp := false } } : State).host.linkUp = false) := by decide

theorem witness_FrameSentFreesTheLine :
    let s := fun x r => { shop with host := { shop.host with htx := x, received := r, reply := .sending ⟨1, .ok, []⟩ } }
    (s (.notice [1]) []).host.htx = .notice [1] ∧
    ((s (.reply [1]) []).host.htx = .reply [1] ∧ (s (.reply [1]) []).host.received = []) ∧
    (s (.reply [1]) [⟨0x3F, []⟩]).host.received = ⟨0x3F, []⟩ :: [] ∧ bodyLength (0x3F : Byte).toNat = none ∧
    bodyLength (0x21 : Byte).toNat = some 6 ∧ ([] : List Byte).length ≠ 6 ∧
    (s (.reply [1]) [requestFrame .status]).host.received = [requestFrame .status] ∧
    (s (.reply [1]) [requestFrame .start, requestFrame .status]).host.received =
      requestFrame .start :: [requestFrame .status] ∧ Request.start ≠ .status ∧
    (s (.reply [1]) [requestFrame .status, requestFrame .start]).host.received =
      requestFrame .status :: [requestFrame .start] := by decide

set_option maxRecDepth 4000 in
/-- Sections 10.3 and 10.8: after a reply the STATUS at the head is answered with the two requests that wait behind it, and they
stay; a START at the head makes the part RUNNING. -/
theorem test_dispatch_with_requests_behind :
    let s := fun r => { closedShop with host := { closedShop.host with
      htx := .reply [1], reply := .sending ⟨1, .ok, []⟩, received := [requestFrame r, requestFrame .stop, requestFrame .halt] } }
    let t := after .frameSent (s .status)
    ((answered t).map fun a => (a.1, a.2.getD 19 9)) = some (.ok, 2) ∧
      t.host.received = [requestFrame .stop, requestFrame .halt] ∧ t.host.op = .stopped ∧
    (after .frameSent (s .start)).host.op = .running ∧ (after .frameSent (s .start)).host.received.length = 2 := by decide

theorem witness_ArbiterSendsAReplyFirst :
    ({ shop with host := { shop.host with hrdyi := false } } : State).host.hrdyi = false ∧
    (replyWaits.host.htx = .free ∧ replyWaits.host.hrdyi = true ∧ replyWaits.host.reply = .waiting ⟨0x01, .ok, []⟩) ∧
    (let s := { shop with host := { shop.host with linkUp := false } }
     s.host.htx = .free ∧ s.host.hrdyi = true ∧ s.host.reply = .empty ∧ s.host.linkUp = false) := by decide

/-- The state of the arbiter that every notice needs. -/
theorem witness_NoticesAreServedInTurn_line :
    shop.host.htx = .free ∧ shop.host.hrdyi = true ∧ shop.host.reply = .empty ∧ shop.host.linkUp = true ∧
      shop.host.levels.jam = 3 ∧ shop.host.journalFlag = false := by decide

/-- JAM: only station 4 has a report, so `d` is 4 after the last served 15; the other stations have none. -/
theorem witness_NoticesAreServedInTurn_jam :
    let s := raiseJam 4 .stoppage .door 0 shop
    (∀ i, (s.st i).cond.authRequest = none ∧ (s.st i).cond.authCancel = none) ∧
    (∀ k : Fin 16, k < 4 → (s.st (s.host.lastServed.jam + 1 + k)).cond.jam = none) ∧
    (s.st (s.host.lastServed.jam + 1 + 4)).cond.jam = some ⟨.stoppage, .door, 0⟩ := by decide

/-- AUTH: station 4 has a cancel, or a request alone. -/
theorem witness_NoticesAreServedInTurn_auth :
    let s := raiseAuthCancel 4 ⟨5, .timeout⟩ shop
    let u := raiseAuthRequest 4 ⟨5, 7, .initial, 1000, 9⟩ shop
    (∀ j, j ≠ 4 → (s.st j).cond.authRequest = none ∧ (s.st j).cond.authCancel = none) ∧
    (s.st 4).cond.authCancel = some ⟨5, .timeout⟩ ∧
    (∀ j, j ≠ 4 → (u.st j).cond.authRequest = none ∧ (u.st j).cond.authCancel = none) ∧
    (u.st 4).cond.authCancel = none ∧ (u.st 4).cond.authRequest = some ⟨5, 7, .initial, 1000, 9⟩ := by decide

/-- The other classes: station 4 alone has the form, or the JOURNAL flag alone is set; the level 0 and the level 3. -/
theorem witness_NoticesAreServedInTurn_others :
    let quiet := fun c : Conditions => c.authRequest = none ∧ c.authCancel = none ∧ c.jam = none ∧ c.session = false ∧
      c.lineFirst = none ∧ c.anomalies = 0
    let a := raiseSession 4 shop
    let b := raiseStation 4 (shop.upd 4 fun _ => calm)
    let d := raiseAnomaly 4 .upLong shop
    ((∀ j, j ≠ 4 → quiet (a.st j).cond) ∧ quiet { (a.st 4).cond with session := false } ∧ (a.st 4).cond.session = true) ∧
    ((∀ j, j ≠ 4 → quiet (b.st j).cond) ∧ quiet { (b.st 4).cond with lineFirst := none } ∧
      (b.st 4).cond.lineFirst = some .ready ∧ (b.st 4).cond.lineLatest = some .ready) ∧
    ((∀ j, j ≠ 4 → quiet (d.st j).cond) ∧ quiet { (d.st 4).cond with anomalies := 0 } ∧ (d.st 4).cond.anomalies ≠ 0 ∧
      (d.st 4).cond.latestAnomaly = some .upLong) ∧
    ((raiseJournal shop).host.journalFlag = true ∧ quiet ((raiseJournal shop).st 4).cond) ∧
    1 ≤ shop.host.levels.session ∧ shop.host.levels.session ≤ 3 ∧ 1 ≤ shop.host.levels.station ∧
    1 ≤ shop.host.levels.anomaly ∧ 1 ≤ shop.host.levels.journal ∧
    (⟨3, 0, 0, 0, 0⟩ : Levels).session = 0 := by
  dsimp only
  and_intros <;> decide

/-- JAM pending at level 1 at station 4, and STATION at level 3 at stations 3 and 8; station 5 has been served last in STATION. -/
def twoClasses : State :=
  raiseJam 4 .stoppage .door 0 (raiseStation 3 (raiseStation 8 { shop with host := { shop.host with
    levels := ⟨1, 2, 3, 3, 3⟩, lastServed := { shop.host.lastServed with station := 5 } } }))

/-- Two classes and two stations: JAM is pending at level 1, STATION at level 3 at stations 3 and 8, and station 5 has been served
last in it, so station 8 comes next. -/
theorem witness_NoticesAreServedInTurn_first :
    let s := twoClasses
    (1 ≤ classLevel s.host.levels .station ∧ classLevel s.host.levels .station ≤ 3) ∧
    (∀ d, d ≠ .station → ClassWaits s d → GoesFirst s.host.levels .station d) ∧ ClassWaits s .jam ∧
    (∀ k : Fin 16, k < 2 → formPending (s.st (lastServedIn s.host.lastServed .station + 1 + k)).cond .station = false) ∧
    formPending (s.st (lastServedIn s.host.lastServed .station + 1 + 2)).cond .station = true ∧
    lastServedIn s.host.lastServed .station + 1 + 2 = 8 ∧ formPending (s.st 3).cond .station = true ∧
    (raiseJournal s).host.journalFlag = true := by
  refine ⟨by decide, fun d hd hw => ?_, ⟨4, by decide⟩, by decide, by decide, by decide, by decide, by decide⟩
  cases d
  · have none : ∀ i, formPending (twoClasses.st i).cond .auth = false := by decide
    obtain ⟨i, hi⟩ := hw
    rw [none i] at hi
    cases hi
  · exact .inl (by decide)
  · exact .inl (by decide)
  · exact absurd rfl hd
  · exact .inr (by decide)
  · exact .inr (by decide)

/-- JOURNAL at level 3 goes before JAM at level 1. -/
theorem witness_NoticesAreServedInTurn_journal :
    let s := raiseJournal (raiseJam 4 .stoppage .door 0
      { shop with host := { shop.host with levels := ⟨1, 1, 1, 1, 3⟩ } })
    s.host.journalFlag = true ∧ classLevel s.host.levels .journal = 3 ∧ ClassWaits s .jam ∧
    (∀ i, (s.st i).cond.authRequest = none ∧ (s.st i).cond.authCancel = none) ∧
    ∀ d, d ≠ .journal → d ≠ .auth → GoesFirst s.host.levels .journal d := by
  refine ⟨by decide, by decide, ⟨4, by decide⟩, by decide, fun d hj ha => ?_⟩
  cases d
  · exact absurd rfl ha
  · exact .inl (by decide)
  · exact .inl (by decide)
  · exact .inl (by decide)
  · exact .inl (by decide)
  · exact absurd rfl hj

/-- Nothing holds a request back in the shop, open or closed, and whatever stands at station 3. -/
theorem witness_lineIdle (x : Station) : lineIdle shop ∧ lineIdle closedShop ∧ lineIdle (with3 x) :=
  ⟨⟨rfl, rfl⟩, ⟨rfl, rfl⟩, ⟨rfl, rfl⟩⟩

theorem witness_StartAndStopMoveTheOperatingState :
    closedShop.host.op = .stopped ∧ shop.host.op ≠ .stopped ∧
    (shop.host.op = .running ∧ ∀ i, (shop.st i).session.state = .none) ∧
    (trading.host.op = .running ∧ (trading.st 3).session.state ≠ .none) ∧ closedShop.host.op ≠ .running := by decide

/-- An account session alone on its account, with two CHARGED entries and a waiting pick; and an AUTHORIZING session with its
entry, the request unsent and sent. -/
theorem witness_HaltEndsEverySession :
    let x := { inSession .opened with
      session := { openSession with fineTotal := 1550, spent := 15, impressions := 2 }, queue := [sheet, sheet]
      request := .waiting 17 ⟨0, .mono, 1⟩ .pathFull 9
      line := { calm.line with latch := .raised 17 ⟨0, .mono, 1⟩ true } }
    let s := (with3 x).upd 4 fun _ => asking
    let u := raiseAuthRequest 4 ⟨5, 7, .initial, 1000, 9⟩ s
    lineIdle s ∧ completes .halt trading = true ∧ CloseReasonsRight s ∧ s.meanwhile = [] ∧ WaitsFor (s.st 3) ⟨0, .mono, 1⟩ ∧
    ((s.st 3).session.state = .opened ∧ (s.st 3).session.payer = some (.account 23001) ∧
      findAccount s.accounts 23001 = some account ∧ account.number = 23001 ∧
      (∀ j, j ≠ 3 → (s.st j).session.payer ≠ some (.account 23001)) ∧
      (s.st 3).session.spent = (s.st 3).session.fineTotal / 100 ∧ (s.st 3).session.creditedImpressions ≤ 16777215 ∧
      account.balance + unitsReturned (s.st 3).session (chargedPrices (s.st 3).queue) = 35 ∧
      (s.st 3).session.fineTotal - chargedPrices (s.st 3).queue = 50) ∧
    ((s.st 4).session.state = .authorizing ∧ (s.st 4).line.present = true ∧ (s.st 4).line.down.length < 4 ∧
      (s.st 4).auth = some initialEntry ∧ (s.st 4).cond.authRequest = none ∧
      (u.st 4).cond.authRequest = some ⟨5, 7, .initial, 1000, 9⟩) := by
  refine ⟨⟨rfl, rfl⟩, by decide, by unfold CloseReasonsRight; decide, rfl, ⟨17, .pathFull, 9, true, rfl, rfl⟩, ?_⟩
  decide

theorem witness_SettingsOfTimersAndLevels :
    ((3 : Byte).toNat ≤ 3 ∧ (0 : Byte).toNat ≤ 3) ∧ 3 < (4 : Byte).toNat := by decide

theorem witness_ClockIsSetAndGrows :
    shop.journal.clock < 4294967295 ∧
    ({ shop with journal := { shop.journal with clock := 4294967295 } } : State).journal.clock = 4294967295 := by decide

theorem witness_SetTariffAndSetTiersWriteTheTables :
    shop.host.op ≠ .stopped ∧ closedShop.host.op = .stopped ∧
    (7 < (8 : Byte).toNat ∧ 1 < (2 : Byte).toNat ∧ 60000 < (60001 : BitVec 16).toNat ∧
      (60001 : BitVec 16).toNat ≠ 0xFFFF) ∧
    ((7 : Byte).toNat = (7 : Fin 8).val ∧ (60000 : BitVec 16).toNat ≤ 60000 ∧ (0xFFFF : BitVec 16).toNat = 0xFFFF) ∧
    ((1 : BitVec 24).toNat = 1 ∧ 999999 < (1000000 : BitVec 24).toNat) ∧
    ((0 : BitVec 24).toNat = 0 ∧ 2 ≤ (2 : BitVec 24).toNat ∧ (2 : BitVec 24).toNat < (3 : BitVec 24).toNat ∧
      (3 : BitVec 24).toNat < (999999 : BitVec 24).toNat ∧ (999999 : BitVec 24).toNat ≤ 999999) := by decide

/-- SET RANGE: out of range, a CONFLICT of spans with entry 0 at its last number, and the floor check passed and failed. -/
theorem witness_SetRangeChecksThenStores :
    shop.host.op ≠ .stopped ∧ closedShop.host.op = .stopped ∧ 7 < (8 : Byte).toNat ∧ 1 < (2 : Byte).toNat ∧
    ((1 : Fin 8) ≠ 0 ∧ closedShop.accounts.ranges[(0 : Fin 8)] = some ⟨20000, 29999, .prepaid, 0, 0⟩ ∧
      (29999 : BitVec 24).toNat ≤ 29999 ∧ 20000 ≤ (29999 : BitVec 24).toNat ∧
      (∀ y : Fin 8, y < 0 → y ≠ 1 → (closedShop.accounts.ranges[y]).isNone)) ∧
    ((0 : Byte).toNat = 0 ∧ (∀ a ∈ closedShop.accounts.accounts,
      floorOf (closedShop.accounts.ranges.set (0 : Fin 8) none) a.number ≤ a.balance)) ∧
    (let s := { closedShop with accounts := { closedShop.accounts with accounts := [{ account with balance := -1 }] } }
     ∀ a ∈ s.accounts.accounts, a.balance < floorOf (s.accounts.ranges.set (0 : Fin 8) none) a.number) := by decide

theorem witness_AccountPutStoresARecord :
    ((0 : BitVec 24).toNat = 0 ∧ 4 < (5 : Byte).toNat ∧ (-100000 : BitVec 32).toInt < -99999 ∧
      9999999 < (10000000 : BitVec 32).toInt) ∧
    ((24000 : BitVec 24).toNat ≠ 0 ∧ (1 : Byte).toNat ≤ 1 ∧ 1 ≤ (4 : Byte).toNat ∧ (4 : Byte).toNat ≤ 4 ∧
      -99999 ≤ (-99999 : BitVec 32).toInt ∧ (9999999 : BitVec 32).toInt ≤ 9999999 ∧
      findAccount shop.accounts (24000 : BitVec 24).toNat = none ∧ shop.accounts.accounts.length < 2048 ∧
      (-1 : BitVec 32).toInt < floorOf shop.accounts.ranges (24000 : BitVec 24).toNat ∧
      floorOf shop.accounts.ranges (24000 : BitVec 24).toNat ≤ (0 : BitVec 32).toInt) ∧
    (findAccount shop.accounts (23001 : BitVec 24).toNat = some account ∧
      (-1 : BitVec 32).toInt < floorOf shop.accounts.ranges (23001 : BitVec 24).toNat ∧
      account.openSessions ≤ (1 : Byte).toNat ∧
      (1 : Byte).toNat < ({ account with openSessions := 2 } : Account).openSessions) ∧
    ((0 : Byte).toNat = 0 ∧ ({ account with frozen := true } : Account).frozen = true ∧ account.frozen = false ∧
      (1 : Byte).toNat = 1 ∧ floorOf shop.accounts.ranges (23001 : BitVec 24).toNat ≤ (0 : BitVec 32).toInt) ∧
    (((with3 (inSession .stalled)).st 3).session.payer = some (.account (23001 : BitVec 24).toNat) ∧
      ∀ i, ((with3 (inSession .stalled)).st i).session.payer = some (.account (23001 : BitVec 24).toNat) →
        ((with3 (inSession .stalled)).st i).session.state ≠ .opened) := by decide

/-- A full account table. -/
theorem witness_AccountPutStoresARecord_full :
    2048 ≤ ({ shop.accounts with accounts := List.replicate 2048 account } : AccountUnit).accounts.length ∧
    findAccount { shop.accounts with accounts := List.replicate 2048 account } 24000 = none := by
  refine ⟨(List.length_replicate (n := 2048)).ge, List.find?_eq_none.mpr fun x hx => ?_⟩
  rw [List.eq_of_mem_replicate hx]
  decide

theorem witness_AccountAdjustMovesTheBalance :
    (23001 : BitVec 24).toNat ≠ 0 ∧ findAccount shop.accounts (23001 : BitVec 24).toNat = some account ∧
    account.balance + (-21 : BitVec 32).toInt < floorOf shop.accounts.ranges (23001 : BitVec 24).toNat ∧
    9999999 < account.balance + (9999980 : BitVec 32).toInt ∧
    floorOf shop.accounts.ranges (23001 : BitVec 24).toNat ≤ account.balance + (-20 : BitVec 32).toInt ∧
    account.balance + (9999979 : BitVec 32).toInt ≤ 9999999 := by decide

theorem witness_AccountGetThawAndRemove :
    (23001 : BitVec 24).toNat ≠ 0 ∧ findAccount shop.accounts (23001 : BitVec 24).toNat = some account ∧
    0 < account.openSessions ∧ account.frozen = false ∧
    findAccount { shop.accounts with accounts := [{ account with openSessions := 0, frozen := true }] }
      (23001 : BitVec 24).toNat = some { account with openSessions := 0, frozen := true } := by decide

theorem witness_AccountFreezeReachesItsSessions :
    findAccount trading.accounts (23001 : BitVec 24).toNat = some account ∧ account.frozen = false ∧
    findAccount { shop.accounts with accounts := [{ account with frozen := true }] } (23001 : BitVec 24).toNat =
      some { account with frozen := true } ∧
    (trading.st 2).session.payer ≠ some (.account 23001) ∧ (trading.st 3).session.payer = some (.account 23001) ∧
    ((inSession .draining).session.state = .draining ∧ (inSession .stalled).session.state = .stalled) ∧
    ((trading.st 3).session.state = .opened ∧ ∀ e ∈ (trading.st 3).queue, e.kind ≠ .charged) ∧
    (∃ e ∈ ({ inSession .opened with queue := [sheet] } : Station).queue, e.kind = .charged) := by decide

/-- The only session of an account, OPEN with no CHARGED entry, and a pick that comes before the close. -/
theorem witness_AccountFreezeReachesItsSessions_pick :
    let s := { trading with meanwhile := [[.pick 3 ⟨0, .mono, 1⟩]] }
    (s.st 3).session.payer = some (.account (23001 : BitVec 24).toNat) ∧ (s.st 3).session.state = .opened ∧
    (∀ j, j ≠ 3 → (s.st j).session.payer ≠ some (.account (23001 : BitVec 24).toNat)) ∧
    (∀ e ∈ (s.st 3).queue, e.kind ≠ .charged) ∧ s.inFrame 3 = true ∧ (s.st 3).line.present = true ∧
    (s.st 3).line.latch = .idle ∧ (s.st 3).request = .idle ∧ s.meanwhile = [.pick 3 ⟨0, .mono, 1⟩] :: [] ∧
    trading.meanwhile = [] := by decide

theorem witness_CardPolicyIsReplaced :
    shop.host.op ≠ .stopped ∧ closedShop.host.op = .stopped ∧
    (1 ≤ (99 : BitVec 16).toNat ∧ (99 : BitVec 16).toNat ≤ 99 ∧ 50000 < (50001 : BitVec 16).toNat) ∧
    (100 ≤ (100 : BitVec 16).toNat ∧ (50000 : BitVec 16).toNat ≤ 50000 ∧ (10000 : BitVec 16).toNat ≤ 10000 ∧
      (100000 : BitVec 24).toNat ≤ 100000 ∧ (7 : Byte).toNat = (7 : Fin 8).val ∧ (0 : BitVec 16).toNat = 0) ∧
    ((1199 : BitVec 24).toNat < (standInShop.cards.standIn.map (·.amount)).sum ∧
      (standInShop.cards.standIn.map (·.amount)).sum ≤ (1200 : BitVec 24).toNat) := by decide

/-- AUTH RESULT: the first checks; and the entry of station 3, which alone holds reference 5, for each clause. -/
theorem witness_AuthResultIsApplied :
    ((0 : BitVec 16).toNat = 0 ∧ 2 < (3 : Byte).toNat ∧ (∀ i, (shop.st i).auth = none)) ∧
    ((5 : BitVec 16).toNat ≠ 0 ∧ (1 : Byte).toNat = 1 ∧ (2 : Byte).toNat = 2 ∧
      ((with3 asking).st 3).auth = some initialEntry ∧ initialEntry.reference = (5 : BitVec 16).toNat ∧
      (∀ j, j ≠ 3 → ((with3 asking).st j).auth = none) ∧ asking.request = .idle ∧ initialEntry.kind = .initial ∧
      asking.session.state = .authorizing ∧ asking.session.closePending = none ∧ asking.recovery.stoppage = none ∧
      asking.line.present = true ∧ asking.line.down.length < 4) ∧
    (((with3 asksMore).st 3).auth = some { initialEntry with kind := .increment } ∧
      (∀ j, j ≠ 3 → ((with3 asksMore).st j).auth = none) ∧ asksMore.request = .idle) := by decide

/-- A close pending at the approval, and the stoppage condition under each hold. -/
theorem witness_AuthResultIsApplied_opening :
    let x := { asking with session := { asking.session with closePending := some .finish } }
    x.session.closePending = some .finish ∧ x.session.payer = some (.card 9) ∧ (∀ f ∈ x.queue, f.kind ≠ .charged) ∧
    x.recovery.stoppage = none ∧ x.line.down.length < 3 ∧
    (∀ h ∈ [HoldState.none, .requested, .held, .releasing],
      let y := { asking with hold := h, recovery := ⟨some .door, none, .enabled, false⟩ }
      y.hold = h ∧ y.recovery.stoppage ≠ none ∧ y.session.state = .authorizing ∧ y.auth = some initialEntry ∧
        y.request = .idle) := by decide

/-- A card session that waits for funds with its INCREMENT entry. -/
def waitsForFunds (authority : Nat) : Station :=
  { asksMore with
    session := { asksMore.session with authority := some authority }
    auth := some { initialEntry with kind := .increment, left := 0 }
    request := .waiting 17 ⟨0, .mono, 1⟩ .funds 9, line := { calm.line with latch := .raised 17 ⟨0, .mono, 1⟩ true } }

/-- The pick of such a session, which costs 750 fine units and brings its spent from 1,996 to 2,004: an authority that covers it
and one that does not; and the increments that make 2,003 and 2,004 of one. -/
theorem witness_waitsForFunds :
    (∀ a ∈ [2003, 2004, 1000, 199001],
      WaitsFor ((with3 (waitsForFunds a)).st 3) ⟨0, .mono, 1⟩ ∧
        CardAffords (with3 (waitsForFunds a)) (waitsForFunds a) ⟨0, .mono, 1⟩ 750) ∧
    (waitsForFunds 2003).session.authority.getD 0 <
      (waitsForFunds 2003).session.spent + unitsPosted (waitsForFunds 2003).session 750 ∧
    (waitsForFunds 2004).session.spent + unitsPosted (waitsForFunds 2004).session 750 ≤
      (waitsForFunds 2004).session.authority.getD 0 ∧
    ((waitsForFunds 2003).auth = some { initialEntry with kind := .increment, left := 0 } ∧
      ({ initialEntry with kind := .increment, left := 0 } : AuthEntry).amount = 1000) ∧
    ((waitsForFunds 1003).session.authority.getD 0 + 1000 <
        (waitsForFunds 1003).session.spent + unitsPosted (waitsForFunds 1003).session 750 ∧
      (waitsForFunds 1004).session.authority.getD 0 + 1000 =
        (waitsForFunds 1004).session.spent + unitsPosted (waitsForFunds 1004).session 750) ∧
    ((waitsForFunds 1003).session.noMoreIncrements = false ∧ shop.host.linkUp = true ∧
      1003 + 1000 + standInShop.cards.policy.increment ≤ 200000 ∧
      ¬ 1003 + 1000 + (200000 : Nat) ≤ 200000) := by
  refine ⟨fun a h => ⟨⟨17, .funds, 9, true, rfl, rfl⟩, ⟨rfl, rfl, .inl rfl, Nat.zero_lt_succ 7, ⟨9, rfl⟩, ⟨0, 750, rfl, rfl, ?_⟩,
    ?_⟩⟩, by decide⟩
  · fin_cases h <;> decide
  · unfold PastLimits; fin_cases h <;> decide

theorem witness_DenyListIsChanged :
    (8 : Token) ∈ standInShop.cards.deny ∧ (9 : Token) ∉ standInShop.cards.deny ∧
    standInShop.cards.deny.length < 256 := by decide

/-- A full deny list. -/
theorem witness_DenyListIsChanged_full :
    (9 : Token) ∉ List.replicate 256 (8 : Token) ∧ 256 ≤ (List.replicate 256 (8 : Token)).length := by
  refine ⟨fun h => absurd (List.eq_of_mem_replicate h) (by decide), (List.length_replicate (n := 256)).ge⟩

theorem witness_StandinListIsReadAndCleared :
    31 < (32 : Byte).toNat ∧ (31 : Byte).toNat ≤ 31 ∧ (∀ e ∈ standInShop.cards.standIn, e.token ≠ 9) ∧
    (standInShop.cards.standIn = [] ++ ⟨7, 1200, 3, 1, true⟩ :: [] ∧
      (∀ x ∈ ([] ++ [] : List StandInEntry), x.token ≠ 7) ∧ (⟨7, 1200, 3, 1, true⟩ : StandInEntry).token = 7) ∧
    (⟨7, 1200, 3, 1, false⟩ : StandInEntry).settled = false := by decide

theorem witness_JournalReadReturnsTheOldest :
    (0 : Byte).toNat = 0 ∧ 4 < (5 : Byte).toNat ∧ 1 ≤ (1 : Byte).toNat ∧ (4 : Byte).toNat ≤ 4 := by decide

theorem witness_JournalReleaseRemovesFromTheHead :
    ((0 : BitVec 16).toNat = 0 ∧ 512 < (513 : BitVec 16).toNat ∧ 1 ≤ (1 : BitVec 16).toNat ∧
      (512 : BitVec 16).toNat ≤ 512) ∧ shop.journal.records = [] ∧
    (withRecords 1040 2).journal.records = someRecord 1040 :: [someRecord 1041] ∧
    (someRecord 1040).journalNumber = (1040 : BitVec 32).toNat ∧
    (someRecord 1040).journalNumber ≠ (1041 : BitVec 32).toNat := by decide

theorem witness_RequestsBeginWithTheirFirstChecks :
    ((.meterGet 16, 0x2E#8) ∈ [(Instr.stationGet 16, 0x28#8), (.stationEnable 16, 0x29#8), (.stationDisable 16, 0x2A#8),
       (.sessionEnd 16, 0x2B#8), (.serviceHold 16, 0x2C#8), (.serviceRelease 16, 0x2D#8), (.meterGet 16, 0x2E#8),
       (.meterClear 16, 0x2F#8)]) ∧ (if shop.host.stationsHigh then 16 else 8) ≤ (16 : Byte).toNat ∧
    ((.accountGet 1, 0x11#8) ∈ [(Instr.accountGet 1, 0x11#8), (.accountAdjust 1 0, 0x12#8), (.accountFreeze 1, 0x13#8),
       (.accountThaw 1, 0x14#8), (.accountRemove 1, 0x15#8)]) ∧ (1 : BitVec 24).toNat ≠ 0 ∧
    findAccount shop.accounts (1 : BitVec 24).toNat = none ∧ (0 : BitVec 24).toNat = 0 := by decide

theorem witness_StationGetReportsTheStation : lineIdle trading ∧ trading.inFrame 15 = true :=
  ⟨⟨rfl, rfl⟩, by decide⟩

theorem witness_StationEnableReturnsTheStation :
    shop.inFrame 3 = true ∧
    (with3 { calm with recovery := ⟨some .door, none, .enabled, false⟩ }).inFrame 3 = true ∧
    ((with3 { calm with recovery := ⟨some .door, none, .enabled, false⟩ }).st 3).recovery.stoppage ≠ none ∧
    (shop.st 3).recovery.stoppage = none ∧ (shop.st 3).recovery.availability = .enabled ∧
    (let s := with3 { calm with recovery := ⟨none, none, .outOfService, false⟩ }
     (s.st 3).recovery.stoppage = none ∧ (s.st 3).recovery.availability = .outOfService) := by decide

theorem witness_StationDisableTakesTheStationOut :
    shop.inFrame 3 = true ∧ (shop.st 3).recovery.availability = .enabled ∧ (shop.st 3).session.state = .none ∧
    (with3 { calm with recovery := ⟨none, none, .outOfService, false⟩ }).inFrame 3 = true ∧
    (∀ x ∈ [SessionState.authorizing, .stalled, .draining, .opened], ((with3 (inSession x)).st 3).session.state = x ∧
      ((with3 (inSession x)).st 3).recovery.availability = .enabled) ∧
    (∃ e ∈ ({ inSession .opened with queue := [sheet] } : Station).queue, e.kind = .charged) := by decide

theorem witness_SessionEndIsTheReasonHost :
    (shop.st 3).session.state = .none ∧
    (∀ x ∈ [SessionState.authorizing, .stalled, .draining, .opened], ((with3 (inSession x)).st 3).session.state = x ∧
      (with3 (inSession x)).inFrame 3 = true) ∧
    (∀ e ∈ (trading.st 3).queue, e.kind ≠ .charged) := by decide

theorem witness_ServiceHoldAndRelease :
    trading.inFrame 3 = true ∧ (trading.st 3).request = .idle ∧ (trading.st 3).hold = .none ∧ (trading.st 3).queue = [] ∧
    (∀ h ∈ [HoldState.requested, .held, .releasing], ((with3 { inSession .opened with
      hold := h, queue := [sheet], recovery := ⟨some .door, none, .enabled, false⟩ }).st 3).hold = h) ∧
    ([sheet] : List InFlight) ≠ [] ∧
    (∀ x ∈ [SessionState.opened, .draining], let y := { inSession x with
        hold := .held, recovery := ⟨some .door, none, .enabled, false⟩ }
      y.recovery.stoppage ≠ none ∧ y.session.state = x ∧ y.hold = .held ∧ y.queue = []) ∧
    (let y := { inSession .opened with
        request := .waiting 17 ⟨0, .mono, 2⟩ .funds 9
        line := { calm.line with latch := .raised 17 ⟨0, .mono, 2⟩ true } }
     y.request = .waiting 17 ⟨0, .mono, 2⟩ .funds 9 ∧ y.session.state = .opened ∧ y.hold = .none ∧ y.queue = [] ∧
       (2 : Fin 4) = 2 ∧ y.line.latch = .raised 17 ⟨0, .mono, 2⟩ true) := by decide

theorem witness_MetersAreReadAndCleared :
    trading.inFrame 3 = true ∧ (trading.st 3).queue = [] ∧
    ((with3 { calm with queue := [sheet] }).st 3).queue ≠ [] := by decide

/-! ### Stations -/

/-- The calm station is calm, in any state of session, hold and queue. -/
theorem witness_calm (x : SessionState) (h : HoldState) (q : List InFlight) :
    Calm { inSession x with hold := h, queue := q } :=
  ⟨rfl, rfl, rfl, rfl, rfl, rfl⟩

/-- The presence events at a present station, with a raised pick that waits, and at an ABSENT one. -/
theorem witness_PresenceIsLostAndRegained :
    (shop.st 3).line.present = false ∧
    (let s := with3 { inSession .opened with
      request := .waiting 17 ⟨0, .mono, 1⟩ .pathFull 9
      line := { calm.line with latch := .raised 17 ⟨0, .mono, 1⟩ true } }
     s.inFrame 3 = true ∧ (s.st 3).line.present = true ∧
       (s.st 3).request = .waiting 17 ⟨0, .mono, 1⟩ .pathFull 9 ∧
       (s.st 3).line.latch = .raised 17 ⟨0, .mono, 1⟩ true ∧ (s.st 3).recovery.stoppage = none ∧ (s.st 3).hold = .none) ∧
    (inSession .authorizing).session.state = .authorizing ∧ (inSession .draining).session.state = .draining ∧
    ((with3 (inSession .opened)).st 3).request = .idle := by decide

/-- Slots: in their place and out of it, the last one of a frame of 8 and of 16 and the one before; marks that agree and disagree
at counts 14 and 15, and codes of each kind. -/
theorem witness_SlotsMovePresenceAndCodes :
    trading.inFrame 3 = true ∧ trading.slot = 3 ∧ trading.meanwhile = [] ∧ shop.slot ≠ 3 ∧
    (trading.host.stationsHigh = true ∧ (14 : StationId).val + 1 < 16 ∧ (15 : StationId).val + 1 = 16 ∧
      (6 : StationId).val + 1 < 8 ∧ (7 : StationId).val + 1 = 8) ∧
    (trading.st 3).line.present = true ∧ 128 ≤ (halfOf .ready 0 0 0 0 0).b0.toNat ∧
    (14 < 15 ∧ 15 ≤ ({ calm.line with contrary := 15 } : StationLine).contrary) ∧ ¬ 128 ≤ (0 : Byte).toNat ∧
    ((trading.st 3).line.confirmed = some .ready ∧ (halfOf .ready 0 0 0 0 0).b0.toNat / 16 = 9) ∧
    ((trading.st 3).line.confirmed ≠ some (.jam 4) ∧ (trading.st 3).line.candidate ≠ some (.jam 4) ∧
      (halfOf (.jam 4) 0 0 0 0 0).b0.toNat / 16 = 14 ∧ (halfOf (.jam 4) 0 0 0 0 0).b0.toNat % 16 = (4 : Fin 16).val ∧
      (4 : Fin 16).val ≠ 0) ∧
    ({ calm.line with candidate := some (.jam 4) } : StationLine).candidate = some (.jam 4) ∧
    (0x80 : Byte).toNat / 16 = 8 ∧ (0xE0 : Byte).toNat = 224 := by decide

/-- A station whose first byte of a message of two has waited through a number of arrivals. -/
def waitingFor (n : Nat) : Station :=
  { calm with line := { calm.line with down := [.refused .funds], downWait := some n } }

theorem witness_ADownstreamMessageIsSentByteByByte :
    (trading.slot = 3 ∧ (shop.st 3).line.present = false ∧ (shop.st 3).line.up = .idle ∧ (shop.st 3).line.downWait = none ∧
      (127 : Byte).toNat < 128) ∧
    (let x := { calm with line := { calm.line with down := [.refused .funds], downTaken := 1 } }
     Calm { x with line := { x.line with down := [] } } ∧ x.line.confirmed = some .ready ∧
       x.line.down = DownMsg.refused .funds :: [] ∧ x.line.downTaken < (downBytes (.refused .funds)).length ∧
       x.line.downTaken + 1 = (downBytes (.refused .funds)).length) ∧
    (∀ n ∈ [0, 62, 63], let x := waitingFor n
     Calm { x with line := { x.line with down := [], downWait := none } } ∧ x.line.confirmed = some .ready ∧
       x.line.down = DownMsg.refused .funds :: [] ∧ x.line.downWait = some n ∧
       x.line.downTaken < (downBytes (.refused .funds)).length ∧
       x.line.downTaken + 1 ≠ (downBytes (.refused .funds)).length) ∧ 62 + 1 < 64 ∧ 64 ≤ 63 + 1 ∧
    (let x := { calm with line := { calm.line with down := [.refused .funds], downAbort := true } }
     Calm { x with line := { x.line with down := [], downAbort := false } } ∧ x.line.confirmed = some .ready ∧
       x.line.downAbort = true) := by
  refine ⟨by decide, ⟨⟨rfl, rfl, rfl, rfl, rfl, rfl⟩, rfl, rfl, by decide, by decide⟩,
    fun n _ => ⟨⟨rfl, rfl, rfl, rfl, rfl, rfl⟩, rfl, rfl, rfl, by show 0 < 2; decide, by show 0 + 1 ≠ 2; decide⟩,
    by decide, by decide,
    ⟨rfl, rfl, rfl, rfl, rfl, rfl⟩, rfl, rfl⟩

/-- Section 1.8: after 62 arrivals without an acknowledgement the 63rd leaves the byte waiting; the 64th abandons the message, and
the next half carries ABORT in place of a byte. -/
theorem test_sixty_fourth_without_acknowledgement :
    ((after (.upstreamHalf 3 (halfOf .ready 0 0 0 0 0)) (with3 (waitingFor 62))).st 3).line.downWait = some 63 ∧
    (let t := after (.upstreamHalf 3 (halfOf .ready 0 0 0 0 0)) (with3 (waitingFor 63))
     (t.st 3).line.down = [] ∧ (t.st 3).cond.latestAnomaly = some .downTimeout ∧
       ((after (.upstreamHalf 3 (halfOf .ready 0 0 0 0 0)) { t with slot := 3 }).st 3).line.sent = [0, 192, 0]) := by
  decide

/-- A message in reception and none, the 32nd byte and one more, a CARD, an ACCOUNT, a FINISH, and messages of an unknown type,
of a wrong length and of a card class that is neither. -/
theorem witness_UpstreamMessagesAreDelivered :
    trading.slot = 3 ∧
    (let x := { calm with line := { calm.line with up := .receiving [2, 0, 0x59] 3 } }
     Calm { x with line := { x.line with up := .idle } } ∧ x.line.confirmed = some .ready ∧
       x.line.up = .receiving [2, 0, 0x59] 3 ∧ [2, 0, 0x59] ++ [0xD9] = 2#8 :: beBytes 3 (23001 : BitVec 24).toNat) ∧
    (calm.line.up = .idle ∧ ([] : List Byte) ++ [3] = [3#8]) ∧
    (1#8 :: (List.replicate 15 0 ++ [9])) ++ [2] = 1#8 :: (beBytes 16 (9 : Token).toNat ++ [2#8]) ∧
    (List.replicate 32 (0 : Byte)).length = 32 ∧ (List.replicate 31 (0 : Byte)).length < 32 ∧
    (∀ held ∈ [([] : List Byte), [2, 0], 1#8 :: (List.replicate 15 0 ++ [9])], held.length < 32 ∧
      (∀ n : BitVec 24, held ++ [4] ≠ 2#8 :: beBytes 3 n.toNat) ∧ held ++ [4] ≠ [3#8] ∧
      ∀ t : Token, held ++ [4] ≠ 1#8 :: (beBytes 16 t.toNat ++ [1#8]) ∧
        held ++ [4] ≠ 1#8 :: (beBytes 16 t.toNat ++ [2#8])) := by
  refine ⟨rfl, ⟨⟨rfl, rfl, rfl, rfl, rfl, rfl⟩, rfl, rfl, by decide⟩, by decide, by decide, by decide, by decide, ?_⟩
  intro held h
  refine ⟨?_, ?_, ?_, ?_⟩
  · fin_cases h <;> decide
  · intro n h'; fin_cases h <;> simp [beBytes] at h'
  · fin_cases h <;> decide
  · intro t; constructor <;> intro h' <;> fin_cases h <;> simp [beBytes] at h'

/-- A message in reception and a byte that waits, each through a number of arrivals. -/
def bothWait (m n : Nat) : Station :=
  { calm with line := { calm.line with up := .receiving [2] m, down := [.refused .funds], downWait := some n } }

/-- Arrivals that are counted: an empty one with 14 contrary ones before it, and full ones with the latch IDLE, and with a pick that
the latch holds; both channels one arrival before their limits and at them, and each alone. -/
theorem witness_UpstreamMessagesAreDelivered_counted :
    let s := with3 (bothWait 62 63)
    s.inFrame 3 = true ∧ s.slot = 3 ∧ (s.st 3).line.present = true ∧
    ((127 : Byte).toNat < 128 ∧ (14 : Nat) < 15) ∧
    ((s.st 3).line.confirmed = some .ready ∧ (s.st 3).line.latch = .idle ∧ Latch.answeredGo ≠ .idle) ∧
    limitsReached (bothWait 62 62).line = [] ∧ limitsReached (bothWait 63 62).line = [.upTimeout] ∧
    limitsReached (bothWait 62 63).line = [.downTimeout] ∧ limitsReached (bothWait 63 63).line = [.upTimeout, .downTimeout] ∧
    (trading.st 3).line.up = .idle ∧ (trading.st 3).line.down = [] ∧ (trading.st 3).line.downWait = none := by decide

/-- Section 1.7: after 62 arrivals without a byte the 63rd, an empty one, goes on receiving; the 64th ends the message with ABORT. -/
theorem test_sixty_fourth_without_a_byte :
    ((after (.upstreamHalf 3 ⟨0, 0, 0, 0⟩) (with3 (bothWait 62 5))).st 3).line.up = .receiving [2] 63 ∧
    (let t := after (.upstreamHalf 3 ⟨0, 0, 0, 0⟩) (with3 (bothWait 63 5))
     (t.st 3).line.up = .idle ∧ (t.st 3).line.ackOwed = .abort ∧ (t.st 3).cond.latestAnomaly = some .upTimeout ∧
       (t.st 3).line.downWait = some 6) := by
  decide

/-- A pick of an account session: 15 is within the 20 of the account, and not within 5; one impression below the limit and at
it; prices that are UNSET. Of a STANDIN and a CARD session whose 4 left cover the price of 410, and of a STANDIN one whose 4 do not
cover 750; with the increment conditions met, and not (an increment of 0 and a threshold of 0). -/
theorem witness_ARaisedPickIsCharged :
    trading.inFrame 3 = true ∧ trading.slot = 3 ∧
    Calm (trading.st 3) ∧ (trading.st 3).line.confirmed = some .ready ∧ (trading.st 3).session.state = .opened ∧
    (trading.st 3).session.payer = some (.account 23001) ∧ (trading.st 3).session.tariffClass = some 0 ∧
    findAccount trading.accounts 23001 = some account ∧ account.number = 23001 ∧ (trading.st 3).hold = .none ∧
    (trading.st 3).request = .idle ∧ (trading.st 3).queue.length < 8 ∧
    (basePrice trading.charge 0 0 .mono = some 750 ∧ basePrice trading.charge 0 0 .colour = none ∧
      basePrice trading.charge 0 1 .mono = some 410) ∧
    (account.balance - 15 ≥ floorOf trading.accounts.ranges 23001 ∧
      account.balance - 22 < floorOf trading.accounts.ranges 23001) ∧
    (999999 < 999998 + (2 : Fin 4).val ∧ ¬ 999999 < 999998 + (1 : Fin 4).val) ∧ (3 : Fin 4) = 3 ∧
    (let s := { with3 atTheEdge with cards := { standInShop.cards with nextReference := 65535 } }
     let x := atTheEdge.session
     let price := costOf s 0 410 x ⟨1, .mono, 1⟩
     ¬ PastLimits x ⟨1, .mono, 1⟩ price ∧ x.payer = some (.card 9) ∧
       ({ x with payer := some (.standIn 9) } : Session).payer = some (.standIn 9) ∧
       x.spent + unitsPosted x price ≤ x.authority.getD 0 ∧
       x.authority.getD 0 < x.spent + unitsPosted x (costOf s 0 750 x ⟨0, .mono, 1⟩) ∧
       x.authority.getD 0 - (chargedSession x ⟨1, .mono, 1⟩ price).spent < s.cards.policy.threshold ∧
       x.noMoreIncrements = false ∧ s.host.linkUp = true ∧ atTheEdge.auth = none ∧
       x.authority.getD 0 + s.cards.policy.increment ≤ 200000 ∧ (∀ j, (s.st j).auth = none) ∧
       s.cards.nextReference = 65535 ∧
       ¬ x.authority.getD 0 - (chargedSession x ⟨1, .mono, 1⟩ price).spent < shop.cards.policy.threshold) := by
  refine ⟨rfl, rfl, ⟨rfl, rfl, rfl, rfl, rfl, rfl⟩, ?_⟩
  unfold PastLimits
  decide

/-- A pick by session and hold: each state and hold, a full queue, and a card session whose 4 left do not cover 8, with the
increment conditions met. Further picks, and NONE, at each latch. -/
theorem witness_PicksAreAnsweredBySessionAndHold :
    (trading.inFrame 3 = true ∧ trading.slot = 3) ∧
    (∀ x ∈ [SessionState.none, .authorizing, .stalled, .draining, .opened], ((with3 (inSession x)).st 3).session.state = x ∧
      ((with3 (inSession x)).st 3).request = .idle) ∧
    (∀ h ∈ [HoldState.none, .requested, .held, .releasing], ∀ x ∈ [SessionState.none, .authorizing, .opened],
      let full := { inSession x with hold := h, queue := List.replicate 8 serviceSheet }
      full.hold = h ∧ full.session.state = x ∧ 8 ≤ full.queue.length ∧ Calm full ∧ full.request = .idle ∧
        full.line.confirmed = some .ready) ∧ Code.ready ≠ .jam 0 ∧
    (let s := with3 { atTheEdge with session := { atTheEdge.session with authority := some 2000 } }
     (s.st 3).session.state = .opened ∧ (s.st 3).session.payer = some (.card 9) ∧
       (s.st 3).session.tariffClass = some 0 ∧ basePrice s.charge 0 0 .mono = some 750 ∧
       ¬ PastLimits (s.st 3).session ⟨0, .mono, 1⟩ (costOf s 0 750 (s.st 3).session ⟨0, .mono, 1⟩) ∧
       (s.st 3).session.authority.getD 0 <
         (s.st 3).session.spent + unitsPosted (s.st 3).session (costOf s 0 750 (s.st 3).session ⟨0, .mono, 1⟩) ∧
       (s.st 3).session.noMoreIncrements = false ∧ s.host.linkUp = true ∧ (∀ j, (s.st j).auth = none) ∧
       (s.st 3).session.authority.getD 0 + s.cards.policy.increment ≤ 200000 ∧
       (let e : AuthEntry := ⟨5, (s.st 3).session.number, .increment, 1000, 9, 40000⟩
        ((s.upd 3 fun x => { x with auth := some e }).st 3).auth = some e ∧ e.kind = .increment ∧
          e.sessionNumber = (s.st 3).session.number) ∧
       ¬ ({ (s.st 3).session with noMoreIncrements := true } : Session).noMoreIncrements = false) ∧
    (∀ l ∈ [Latch.disarmed, .answeredGo, .answeredStop .hold, .raised 17 ⟨0, .mono, 1⟩ true],
      let x := { inSession .opened with
        request := .waiting 17 ⟨0, .mono, 1⟩ .funds 9, line := { calm.line with latch := l } }
      CalmBut .ready x ∧ x.line.latch = l ∧ l ≠ .idle) := by
  unfold CalmBut Calm PastLimits
  decide

/-- A line state with messages in the downstream queue whose head has begun sending. -/
def fullLine (down : List DownMsg) : StationLine := { calm.line with down := down, downTaken := 1 }

/-- An overdue credit, an ACCOUNT where a session exists, and a close, each with four messages in the downstream queue: with two
unsent SHOWs, with one, and with none. -/
theorem witness_fullQueues :
    (∀ down ∈ [[DownMsg.showing 9 9, .showing 1 2, .showing 3 4, .opened .account 5],
        [.opened .account 5, .showing 1 2, .refused .session, .refused .session],
        [.showing 9 9, .refused .session, .refused .session, .refused .session]],
      let overdue := { inSession .opened with
        queue := [{ sheet with age := 60000 }]
        session := { openSession with fineTotal := 1500, spent := 15, impressions := 2 }, line := fullLine down }
      let x := { inSession .opened with line := fullLine down }
      (overdue.recovery.stoppage = none ∧ sheet.limit * 2000 ≤ 60000 ∧ overdue.session.state = .opened ∧ overdue.hold = .none ∧
        overdue.request = .idle ∧ overdue.line.present = true ∧ overdue.line.down.length = 4 ∧ sheet.kind = .charged ∧
        overdue.session.payer = some (.account 23001) ∧ findAccount (with3 overdue).accounts 23001 = some account ∧
        account.number = 23001) ∧
      (x.line.present = true ∧ x.line.down.length = 4 ∧ x.session.state ≠ .none ∧ x.session.state = .opened ∧
        x.request = .idle ∧ x.queue = [] ∧ x.session.payer = some (.account 23001) ∧ x.auth = none ∧
        x.recovery.disablePending = false ∧ (with3 x).inFrame 3 = true)) ∧
    (unsentOf (fullLine [.showing 9 9, .showing 1 2, .showing 3 4, .opened .account 5]) =
        [] ++ .showing 1 2 :: [.showing 3 4, .opened .account 5] ∧
      unsentOf (fullLine [.showing 9 9, .showing 1 2, .showing 3 4, .opened .account 5]) =
        [.showing 1 2] ++ .showing 3 4 :: [.opened .account 5] ∧
      ∀ z ∈ unsentOf (fullLine [.showing 9 9, .refused .session, .refused .session, .refused .session]),
        isShow z = false) := by decide

theorem witness_TimersAndLimitsOfAStationRunOut :
    let s := with3 { inSession .opened with
      request := .waiting 17 ⟨0, .mono, 1⟩ .funds 0
      line := { calm.line with
        latch := .raised 17 ⟨0, .mono, 1⟩ true, up := .receiving [1] 63, down := [.refused .funds], downWait := some 63 } }
    s.inFrame 3 = true ∧ (s.st 3).request = .waiting 17 ⟨0, .mono, 1⟩ .funds 0 ∧
    (s.st 3).line.latch = .raised 17 ⟨0, .mono, 1⟩ true ∧ (s.st 3).line.up = .receiving [1] 63 ∧
    (s.st 3).line.downWait = some 63 ∧ (s.st 3).queue = [] ∧ (s.st 3).line.confirmed ≠ some .paperOut ∧
    (trading.st 3).request = .idle ∧ (trading.st 3).line.up = .idle ∧ (trading.st 3).line.downWait = none ∧
    (∀ q w, (trading.st 3).line.latch ≠ .raised 17 q w) ∧
    ((with3 { calm with request := .waiting 17 ⟨0, .mono, 1⟩ .pathFull 1 }).st 3).request =
      .waiting 17 ⟨0, .mono, 1⟩ .pathFull 1 := by
  refine ⟨rfl, rfl, rfl, rfl, rfl, rfl, by decide, rfl, rfl, rfl, fun q w h => ?_, rfl⟩
  cases h

/-- Removals and exits: ages at the limit and one below it, the entry behind the head, and the funds returned at the top of the
balance. -/
theorem witness_SheetsLeaveThePath :
    let x := { inSession .opened with
      queue := [{ sheet with age := 60000 }, { serviceSheet with age := 59999 }]
      session := { openSession with fineTotal := 1500, spent := 15, impressions := 2 } }
    Calm ((with3 x).st 3) ∧ (with3 x).inFrame 3 = true ∧ (with3 x).slot = 3 ∧
    ((with3 x).st 3).line.confirmed = some .ready ∧ ((with3 x).st 3).session.state = .opened ∧
    ((with3 x).st 3).hold = .none ∧ ((with3 x).st 3).request = .idle ∧ ((with3 x).st 3).recovery.stoppage = none ∧
    ((with3 x).st 3).queue = { sheet with age := 60000 } :: [{ serviceSheet with age := 59999 }] ∧
    ({ sheet with age := 59999 } : InFlight).age < sheet.limit * 2000 ∧ sheet.limit * 2000 ≤ 60000 ∧
    HeadKeeps x [{ serviceSheet with age := 59999 }] ∧ HeadKeeps x [] ∧
    ((with3 x).st 3).line.present = true ∧ ((with3 x).st 3).line.down.length < 4 ∧
    ((with3 x).st 3).session.payer = some (.account 23001) ∧ sheet.kind = .charged ∧ serviceSheet.kind = .service ∧
    serviceSheet.limit * 2000 ≤ ({ serviceSheet with age := 60000 } : InFlight).age ∧
    (trading.st 3).queue = [] ∧ findAccount (with3 x).accounts 23001 = some account ∧ account.number = 23001 := by
  refine ⟨⟨rfl, rfl, rfl, rfl, rfl, rfl⟩, rfl, rfl, rfl, rfl, rfl, rfl, rfl, rfl, by decide, by decide, ?_, ?_, ?_⟩
  · intro f h; cases h; exact .inr (by decide)
  · intro f h; cases h
  · decide

/-- What follows an exit: a waiting pick under HELD and at a STANDIN session, the emptied queue under REQUESTED and RELEASING, and
a DRAINING session whose last CHARGED entry leaves, or not. -/
theorem witness_SheetsLeaveThePath_after :
    (∀ h ∈ [HoldState.held, .none], let x := { inSession .opened with
        hold := h, queue := List.replicate 8 serviceSheet, request := .waiting 17 ⟨0, .mono, 2⟩ .pathFull 9
        session := { openSession with payer := some (.standIn 9), authority := some 15 }
        line := { calm.line with latch := .raised 17 ⟨0, .mono, 2⟩ true } }
      CalmBut .ready x ∧ x.queue = serviceSheet :: List.replicate 7 serviceSheet ∧
        (List.replicate 7 serviceSheet).length < 8 ∧ x.request = .waiting 17 ⟨0, .mono, 2⟩ .pathFull 9 ∧
        x.line.latch = .raised 17 ⟨0, .mono, 2⟩ true ∧ 0 < shop.host.timers.transit ∧ x.hold = h ∧
        x.session.state = .opened ∧ x.session.payer = some (.standIn 9) ∧ x.session.tariffClass = some 0 ∧
        basePrice shop.charge 0 0 .mono = some 750 ∧
        ¬ PastLimits x.session ⟨0, .mono, 2⟩ (costOf shop 0 750 x.session ⟨0, .mono, 2⟩) ∧
        x.session.spent + unitsPosted x.session (costOf shop 0 750 x.session ⟨0, .mono, 2⟩) = x.session.authority.getD 0) ∧
    HeadKeeps calm (List.replicate 7 serviceSheet) ∧
    (∀ h ∈ [HoldState.requested, .releasing], let x := { inSession .opened with hold := h, queue := [serviceSheet] }
      CalmBut .ready x ∧ x.queue = serviceSheet :: [] ∧ x.line.latch = .idle ∧ x.request = .idle ∧ x.hold = h ∧
        x.session.state = .opened ∧ x.recovery.stoppage = none) ∧
    (let x := { inSession .draining with
        queue := [sheet, serviceSheet], session := { openSession with state := .draining, closeReason := some .finish } }
     CalmBut .ready x ∧ x.queue = sheet :: [serviceSheet] ∧ x.line.latch = .idle ∧ x.request = .idle ∧ x.hold = .none ∧
       x.session.state = .draining ∧ x.session.closeReason = some .finish ∧ x.session.payer = some (.account 23001) ∧
       sheet.kind = .charged ∧ (∃ f ∈ [sheet], f.kind = .charged) ∧ ∀ f ∈ [serviceSheet], f.kind ≠ .charged) := by
  refine ⟨?_, ?_, ?_, ?_⟩
  · unfold CalmBut Calm PastLimits; decide
  · intro f h; cases h; exact .inr (by decide)
  · unfold CalmBut Calm; decide
  · unfold CalmBut Calm; decide

/-- Exit counts of 1 to 3, which leave an entry, the last, and none: in every session state, under a hold NONE and HELD, during a
stall, and with the idle timer running where it is eligible. -/
theorem witness_SheetsLeaveThePath_counts :
    (∀ k ∈ [1, 2, 3], k = 1 ∨ k = 2 ∨ k = 3) ∧
    (∀ q ∈ [[], [sheet], [sheet, serviceSheet, { sheet with age := 59999 }, sheet]], ∀ h ∈ [HoldState.none, .held],
      ∀ x ∈ [SessionState.none, .authorizing, .opened, .stalled], ∀ c ∈ [none, some Cause.door],
      let z := { inSession x with
        queue := q, hold := h, recovery := ⟨c, none, .enabled, false⟩
        idleTimer := if x = .opened ∧ h = .none ∧ q = [] then some 7 else none }
      Calm z ∧ z.line.confirmed = some .ready ∧ z.request = .idle ∧ z.hold = h ∧ z.session.state = x ∧
        (∀ f ∈ z.queue.drop 1, f.age < f.limit * 2000) ∧ z.idleTimer.isSome = idleEligible z) ∧
    (∀ h ∈ [HoldState.requested, .releasing],
      let z := { inSession .draining with hold := h, queue := [sheet, sheet, sheet, sheet] }
      Calm z ∧ 3 < z.queue.length ∧ ∃ f ∈ z.queue.drop 3, f.kind = .charged) ∧
    (let z := { inSession .draining with
        queue := [sheet], session := { openSession with state := .draining, closeReason := some .finish } }
     Calm z ∧ z.queue = [sheet] ∧ sheet.kind = .charged ∧ z.session.state = .draining ∧
       z.session.closeReason = some .finish ∧ z.session.payer = some (.account 23001) ∧ z.hold = .none ∧ z.request = .idle ∧
       1 < 2 ∧ 1 < 3) := by
  unfold Calm
  decide

/-- Overdue heads: a CHARGED one of a CARD and of a STANDIN session, OPEN and DRAINING with another CHARGED entry behind it, at a
present and at an ABSENT station; and the last CHARGED one of a DRAINING session, with each payer, and two messages queued. -/
theorem witness_SheetsLeaveThePath_overdue :
    let old := { sheet with age := 60000 }
    (∀ p ∈ [Payer.card 9, .standIn 9], ∀ x ∈ [SessionState.opened, .draining], ∀ present ∈ [true, false],
      let z := { inSession x with
        queue := [old, sheet], session := { openSession with state := x, payer := some p, fineTotal := 1500, spent := 15 }
        line := { calm.line with present := present } }
      (z.session.state = .opened ∨ (z.session.state = .draining ∧ ∃ f ∈ [sheet], f.kind = .charged)) ∧
        z.session.payer = some p ∧ z.queue = old :: [sheet] ∧ z.recovery.stoppage = none ∧ old.limit * 2000 ≤ old.age ∧
        z.hold = .none ∧ z.request = .idle ∧ z.line.present = present ∧ z.line.down.length < 4) ∧
    HeadKeeps calm [sheet] ∧ HeadKeeps calm [serviceSheet] ∧
    (∀ p ∈ [Payer.account 23001, .card 9, .standIn 9],
      let z := { inSession .draining with
        queue := [old, serviceSheet]
        session := { openSession with
          state := .draining, closeReason := some .finish, payer := some p, fineTotal := 2250, spent := 22 }
        line := { calm.line with down := [.refused .session, .refused .session] } }
      z.session.state = .draining ∧ z.session.closeReason = some .finish ∧ z.session.payer = some p ∧ old.kind = .charged ∧
        (∀ f ∈ [serviceSheet], f.kind ≠ .charged) ∧ z.line.present = true ∧ z.line.down.length = 2) ∧
    findAccount shop.accounts 23001 = some account ∧ account.number = 23001 := by
  refine ⟨by decide, ?_, ?_, by decide, by decide⟩
  · intro f h; cases h; exact .inr (by decide)
  · intro f h; cases h; exact .inr (by decide)

/-- R36, R57 and R75: an overdue sheet of 750 is the last of a DRAINING session at 2,250; the credit of 7 leaves 1,500, and the
session closes with 15. -/
theorem test_overdue_closes_a_draining_session :
    let t := after (.overdue 3) (with3 { inSession .draining with
      queue := [{ sheet with age := 60000 }]
      session := { openSession with
        state := .draining, closeReason := some .finish, payer := some (.card 9), authority := some 100
        fineTotal := 2250, spent := 22, impressions := 3 } })
    (t.st 3).line.down = [.showing 15 85, .closed 15 .none] ∧ (t.st 3).session.state = .none ∧
      t.journal.records.map (fun r => (r.reason, r.spent, r.creditedAmount)) = [(.finish, 15, 7)] := by decide

/-- A stoppage from clear, at an OPEN and at a DRAINING session, and one that replaces a cause or finds no session to stall. -/
theorem witness_StoppageCodesStallAndReadyRecovers :
    (∀ x ∈ [SessionState.opened, .draining, .none, .authorizing], ∀ h ∈ [HoldState.none, .requested, .held, .releasing],
      ∀ c ∈ [none, some Cause.door],
      let x' := { inSession x with
        hold := h, line := { calm.line with candidate := some (.jam 4) }, recovery := ⟨c, none, .enabled, false⟩ }
      Calm x' ∧ (with3 x').inFrame 3 = true ∧ (with3 x').slot = 3 ∧ x'.request = .idle ∧
        x'.line.candidate = some (.jam 4) ∧ x'.line.confirmed ≠ some (.jam 4) ∧ x'.recovery.stoppage = c ∧
        x'.session.state = x ∧ x'.hold = h) ∧ (4 : Fin 16) ≠ 0 := by
  unfold Calm
  decide

/-- READY at a STALLED session with two CHARGED entries, with and without a close pending and with what comes between the credits;
and RUNNING with no CHARGED entry, in each other state and under each hold. -/
theorem witness_StoppageCodesStallAndReadyRecovers_recovery :
    (let x := { inSession .stalled with
       session := { openSession with state := .stalled, fineTotal := 1550, spent := 15, impressions := 2 }
       queue := [sheet, sheet]
       line := { calm.line with confirmed := some .doorOpen, candidate := some .ready }
       recovery := ⟨some .door, some 9, .enabled, false⟩ }
     let y := { x with session := { x.session with closePending := some .finish } }
     let s := { with3 x with meanwhile := [[.request (.accountAdjust 23001 1)], []] }
     let u := { with3 x with meanwhile := [[.request (.accountFreeze 23001)], []] }
     Calm x ∧ x.request = .idle ∧ x.line.candidate = some .ready ∧ x.line.confirmed ≠ some .ready ∧
       x.recovery.stoppage = some .door ∧ x.session.state = .stalled ∧ x.session.closePending = none ∧ x.hold = .none ∧
       (with3 x).meanwhile = [] ∧ y.session.closePending = some .finish ∧ y.session.spent = y.session.fineTotal / 100 ∧
       x.queue = [sheet, sheet] ∧ sheet.kind = .charged ∧ (23001 : BitVec 24).toNat ≠ 0 ∧
       x.session.payer = some (.account (23001 : BitVec 24).toNat) ∧
       findAccount s.accounts (23001 : BitVec 24).toNat = some account ∧ lineIdle s ∧ account.frozen = false ∧
       (∀ j, j ≠ 3 → (u.st j).session.payer ≠ some (.account (23001 : BitVec 24).toNat)) ∧
       s.meanwhile = [.request (.accountAdjust 23001 1)] :: [] :: [] ∧
       u.meanwhile = [.request (.accountFreeze 23001)] :: [] :: []) ∧
    (∀ x ∈ [SessionState.none, .authorizing, .opened], ∀ h ∈ [HoldState.none, .requested, .held, .releasing],
      let z := { inSession x with
        hold := h, queue := [serviceSheet], recovery := ⟨some .fault, none, .outOfService, false⟩
        line := { calm.line with candidate := some .running } }
      Calm z ∧ z.request = .idle ∧ z.line.candidate = some .running ∧ z.line.confirmed ≠ some .running ∧
        z.recovery.stoppage = some .fault ∧ chargedOf z.queue = [] ∧ z.session.state = x ∧ z.hold = h) := by
  unfold Calm lineIdle
  decide

/-- CARD: each refusal, the link UP with no entry, and the link DOWN with and without a grant (a token on the deny list). -/
theorem witness_CardsOpenSessions :
    let s := { standInShop with stations := (with3 calm).stations }
    let down := { s with host := { s.host with linkUp := false } }
    (s.inFrame 3 = true ∧ (s.st 3).session.state = .none ∧ s.host.op = .running ∧
      (s.st 3).recovery.availability = .enabled ∧ s.journal.level ≠ .must ∧
      s.journal.records.length + (allStations.filter fun j => (s.st j).session.state ≠ .none).length < 512 ∧
      s.cards.policy.initialHold ≠ 0 ∧ (s.st 3).request = .idle ∧ s.host.linkUp = true ∧ (∀ j, (s.st j).auth = none) ∧
      (s.st 3).line.present = true ∧ (s.st 3).line.down.length < 4) ∧
    (down.host.linkUp = false ∧ (down.st 3).recovery.stoppage = none ∧ grantOf down = 3000 ∧
      0 < down.cards.policy.standInLimit ∧ down.journal.level = .release ∧ (9 : Token) ∉ down.cards.deny ∧
      (8 : Token) ∈ down.cards.deny ∧ (∀ e ∈ down.cards.standIn, e.token ≠ 9) ∧ down.cards.standIn.length < 32 ∧
      down.cards.policy.standInMinimum ≤ grantOf down) ∧
    ((trading.st 3).session.state ≠ .none ∧ closedShop.host.op ≠ .running ∧ shop.cards.policy.initialHold = 0) := by decide

/-- ACCOUNT: an account that opens, and one for each refusal of the account unit. -/
theorem witness_AccountsOpenSessions :
    let s := with3 calm
    (s.inFrame 3 = true ∧ (s.st 3).session.state = .none ∧ s.host.op = .running ∧
      (s.st 3).recovery.availability = .enabled ∧
      s.journal.records.length + (allStations.filter fun j => (s.st j).session.state ≠ .none).length < 512 ∧
      (s.st 3).request = .idle ∧ (s.st 3).recovery.stoppage = none ∧ (s.st 3).line.present = true ∧
      (s.st 3).line.down.length < 4) ∧
    (∀ h ∈ [HoldState.none, .requested, .held, .releasing],
      let u := with3 { calm with hold := h, recovery := ⟨some .door, none, .enabled, false⟩ }
      (u.st 3).recovery.stoppage = some .door ∧ (u.st 3).hold = h ∧ (u.st 3).recovery.availability = .enabled ∧
        (u.st 3).session.state = .none) ∧
    (containingRange s.accounts.ranges (23001 : BitVec 24).toNat = some ⟨20000, 29999, .prepaid, 0, 0⟩ ∧
      findAccount s.accounts (23001 : BitVec 24).toNat = some account ∧ account.number = (23001 : BitVec 24).toNat ∧
      account.frozen = false ∧ account.openSessions < account.maxSessions ∧
      1 ≤ account.balance - floorOf s.accounts.ranges (23001 : BitVec 24).toNat) ∧
    containingRange s.accounts.ranges (30000 : BitVec 24).toNat = none ∧
    (({ account with balance := 0 } : Account).balance - floorOf s.accounts.ranges (23001 : BitVec 24).toNat < 1 ∧
      account.maxSessions ≤ ({ account with openSessions := 2 } : Account).openSessions) := by decide

/-- An ABSENT station, which its ACCOUNT, CARD and FINISH reach: with a session, with none and each kind of refusal, with an account
that opens, and with a session that closes. -/
theorem witness_absent :
    let away := fun x => { inSession x with line := { calm.line with present := false, confirmed := none } }
    (∀ x ∈ [SessionState.none, .opened, .stalled], let s := with3 (away x)
      s.inFrame 3 = true ∧ (s.st 3).line.present = false ∧ (s.st 3).session.state = x ∧ (s.st 3).request = .idle) ∧
    closedShop.host.op ≠ .running ∧ containingRange shop.accounts.ranges (30000 : BitVec 24).toNat = none ∧
    (let s := { with3 (away .none) with accounts := { shop.accounts with accounts := [{ account with frozen := true }] } }
     findAccount s.accounts (23001 : BitVec 24).toNat = some { account with frozen := true } ∧
       ({ account with frozen := true } : Account).number = (23001 : BitVec 24).toNat) ∧
    (let s := with3 (away .none)
     s.host.op = .running ∧ (s.st 3).recovery.availability = .enabled ∧
       s.journal.records.length + (allStations.filter fun j => (s.st j).session.state ≠ .none).length < 512 ∧
       findAccount s.accounts (23001 : BitVec 24).toNat = some account ∧ account.frozen = false ∧
       account.openSessions < account.maxSessions) ∧
    ((away .opened).queue = [] ∧ (away .opened).session.payer = some (.account 23001)) := by decide

/-- R16: for an ABSENT station REFUSED, and CLOSED, are discarded with no ANOMALY. -/
theorem test_messages_for_an_absent_station :
    let away := fun x => with3 { inSession x with line := { calm.line with present := false, confirmed := none } }
    ((after (.account 3 23001) (away .opened)).st 3).line.down = [] ∧
    ((after (.account 3 23001) (away .opened)).st 3).cond.anomalies = 0 ∧
    ((after (.finish 3) (away .opened)).st 3).line.down = [] ∧
    ((after (.finish 3) (away .opened)).st 3).session.state = .none ∧
    ((after (.finish 3) (away .opened)).st 3).cond.anomalies = 0 := by decide

/-- FINISH and the idle expiry: each session state; a CHARGED entry; carries of 49 and 50; an account that covers the cent and one
that does not; CARD and STANDIN sessions; the last session of a STOPPING part; and a pick that follows the expiry. -/
theorem witness_FinishAndIdleCloseSessions :
    let idle := { with3 { inSession .opened with idleTimer := some 0 } with meanwhile := [[.pick 3 ⟨0, .mono, 1⟩]] }
    (idle.inFrame 3 = true ∧ (idle.st 3).idleTimer = some 0 ∧ (idle.st 3).session.state = .opened ∧
      (idle.st 3).line.present = true ∧ (idle.st 3).line.latch = .idle ∧ (idle.st 3).request = .idle ∧
      idle.meanwhile = [.pick 3 ⟨0, .mono, 1⟩] :: [] ∧ trading.meanwhile = [] ∧ (trading.st 3).idleTimer ≠ some 0) ∧
    (∀ x ∈ [SessionState.none, .authorizing, .stalled, .draining, .opened],
      ((with3 (inSession x)).st 3).session.state = x) ∧
    (∃ e ∈ ({ inSession .opened with queue := [sheet] } : Station).queue, e.kind = .charged) ∧
    ((trading.st 3).request = .idle ∧ (∀ e ∈ (trading.st 3).queue, e.kind ≠ .charged) ∧
      (trading.st 3).session.payer = some (.account 23001) ∧ findAccount trading.accounts 23001 = some account ∧
      account.number = 23001 ∧ (trading.st 3).line.present = true ∧ (trading.st 3).line.down.length < 4) ∧
    (1549 % 100 < 50 ∧ 50 ≤ 1550 % 100 ∧ floorOf trading.accounts.ranges 23001 ≤ account.balance - 1 ∧
      ({ account with balance := 0 } : Account).balance - 1 < floorOf trading.accounts.ranges 23001) ∧
    (asksMore.session.payer = some (.card 9) ∧ asksMore.auth = some { initialEntry with kind := .increment } ∧
      atTheEdge.auth = none) ∧
    (standInShop.cards.standIn = [] ++ ⟨7, 1200, 3, 1, true⟩ :: [] ∧
      ∀ f ∈ ([] ++ [] : List StandInEntry), f.token ≠ 7) ∧
    (let s := { trading with host := { trading.host with op := .stopping } }
     s.host.op = .stopping ∧ ∀ j, j ≠ 3 → (s.st j).session.state = .none) ∧
    (risenLevel 255 .release, risenLevel 256 .release, risenLevel 384 .may, risenLevel 480 .need, risenLevel 256 .must) =
      (.release, .may, .need, .must, .must) := by decide

/-- A STALLED session whose timer has run out, and one whose timer has not; and at station 4 a session on the same account, with
a pick, or the exit that closes it, between two credits. -/
theorem witness_StallTimerExpiryClosesTheSession :
    (trading.st 3).recovery.stallTimer ≠ some 0 ∧
    (let u := with3 { inSession .stalled with
        queue := [sheet, sheet], recovery := ⟨some .fault, some 0, .enabled, false⟩ }
     let s := { u.upd 4 fun _ => inSession .opened with meanwhile := [[.pick 4 ⟨0, .mono, 2⟩], []] }
     let d := { u.upd 4 (fun _ => { inSession .draining with
        session := { openSession with state := .draining, closeReason := some .finish, fineTotal := 50 }
        queue := [sheet] }) with meanwhile := [[.exits 4 1], []] }
     let y := s.st 4
     let z := d.st 4
     (s.inFrame 3 = true ∧ (s.st 3).recovery.stallTimer = some 0 ∧ (s.st 3).session.state = .stalled ∧
       (s.st 3).recovery.stoppage = some .fault ∧ (s.st 3).recovery.availability = .enabled) ∧
     ((4 : StationId) ≠ 3 ∧ s.inFrame 4 = true ∧ (s.st 3).queue = [sheet, sheet] ∧ sheet.kind = .charged ∧
       (s.st 3).session.payer = some (.account 23001) ∧ findAccount s.accounts 23001 = some account ∧
       account.number = 23001 ∧ s.meanwhile = [.pick 4 ⟨0, .mono, 2⟩] :: [] :: [] ∧ y.line.present = true ∧
       y.line.latch = .idle ∧ y.session.state = .opened ∧ y.session.payer = some (.account 23001) ∧
       y.session.tariffClass = some 0 ∧ y.hold = .none ∧ y.queue.length < 8 ∧ (2 : Fin 4) = 2 ∧
       basePrice s.charge 0 0 .mono = some 750 ∧
       ¬ PastLimits y.session ⟨0, .mono, 2⟩ (costOf s 0 750 y.session ⟨0, .mono, 2⟩)) ∧
     (d.meanwhile = [.exits 4 1] :: [] :: [] ∧ d.inFrame 4 = true ∧ (d.st 3).queue = [sheet, sheet] ∧
       z.line.present = true ∧ z.session.payer = some (.account 23001) ∧ z.hold = .none ∧ z.request = .idle ∧
       z.session.state = .draining ∧ z.session.closeReason = some .finish ∧ z.queue = [sheet] ∧
       50 ≤ z.session.fineTotal % 100) ∧
     u.meanwhile = []) := by
  unfold PastLimits
  decide

/-- The last clause of the same statement: the credits of a recovery on the same account between those of the expiry. -/
theorem witness_StallTimerExpiryClosesTheSession_series :
    let s := alternating
    let x := s.st 3
    let y := s.st 4
    s.meanwhile = [.recovered 4 false, .advance 4] :: [.advance 4, .advance 4] :: [] ∧ s.inFrame 3 = true ∧
      s.inFrame 4 = true ∧ x.recovery.stallTimer = some 0 ∧ x.session.state = .stalled ∧ x.queue = [sheet, sheet] ∧
      x.session.payer = some (.account 23001) ∧ findAccount s.accounts 23001 = some account ∧ x.line.present = true ∧
      x.line.down = [] ∧ y.line.present = true ∧ y.session.payer = some (.account 23001) ∧ y.hold = .none ∧
      y.recovery.stoppage = some .fault ∧ y.line.confirmed ≠ some .ready ∧ y.session.state = .stalled ∧
      y.session.closePending = none ∧ y.request = .idle ∧ y.queue = [sheet, sheet] ∧ y.line.down = [] := by decide

/-- The timers of an INITIAL entry, with its request unsent and sent and with a grant and without one (a token on the deny
list), and of an INCREMENT entry. -/
theorem witness_AuthorizationTimeouts :
    let s := { standInShop with
      stations := (with3 { asking with auth := some { initialEntry with left := 0 } }).stations }
    let u := raiseAuthRequest 3 ⟨5, 7, .initial, 1000, 9⟩ s
    (s.inFrame 3 = true ∧ (s.st 3).auth = some { initialEntry with left := 0 } ∧ (s.st 3).request = .idle ∧ initialEntry.kind = .initial ∧
      (s.st 3).session.state = .authorizing ∧ (s.st 3).session.payer = some (.card 9) ∧
      (s.st 3).session.closePending = none ∧ (s.st 3).recovery.stoppage = none) ∧
    ((s.st 3).cond.authRequest = none ∧ (u.st 3).cond.authRequest = some ⟨5, 7, .initial, 1000, 9⟩) ∧
    (0 < s.cards.policy.standInLimit ∧ s.journal.level = .release ∧ (9 : Token) ∉ s.cards.deny ∧
      (∀ e ∈ s.cards.standIn, e.token ≠ 9) ∧ s.cards.standIn.length < 32 ∧ s.cards.policy.standInMinimum ≤ grantOf s ∧
      (8 : Token) ∈ s.cards.deny) ∧
    ((with3 { asksMore with auth := some { initialEntry with kind := .increment, left := 0 } }).st 3).auth =
      some { initialEntry with kind := .increment, left := 0 } ∧
    initialEntry.left ≠ 0 ∧ (shop.st 3).auth = none := by decide

end Sys2Proof.Tests
end

section
/-!
PROOFS. The requests that write the charge unit's tables (sections 3.2 and 3.3): the fields of a reply, the operands as they are
read, the table entries, and each request's answer case by case.
-/

namespace Sys2Proof.Machine

/-! ## The fields of a reply (R189, R190) -/

/-- A byte is sent as itself. -/
theorem beBytes_one_toNat (b : Byte) : beBytes 1 b.toNat = [b] := by
  simp [beBytes]

/-- The bytes of a list of fields are a body of exactly these fields. -/
theorem bodyIs_flatMap_beBytes (fields : List (Nat × Nat)) :
    bodyIs (fields.flatMap fun f => beBytes f.1 f.2) fields := by
  induction fields with
  | nil => exact ⟨rfl, rfl⟩
  | cons f fields ih =>
    obtain ⟨length_eq, values_eq⟩ := ih
    have width : (beBytes f.1 f.2).length = f.1 := length_beBytes f.1 f.2
    constructor
    · simp [length_eq, width]
    · simp [readFields, width, values_eq, ofBytes_beBytes]

/-! ## The operands as they are read (R46, R101, R189) -/

theorem classOf_eq_none {b : Byte} (h : 7 < b.toNat) : classOf b = none :=
  dif_neg (by omega)

theorem classOf_eq_some {b : Byte} {c : Fin 8} (h : b.toNat = c.val) : classOf b = some c := by
  rw [classOf, dif_pos (by omega)]
  exact congrArg some (Fin.ext h)

theorem colourOf_eq_none {b : Byte} (h : 1 < b.toNat) : colourOf b = none := by
  have notMono : b ≠ 0 := by rintro rfl; simp at h
  have notColour : b ≠ 1 := by rintro rfl; simp at h
  rw [colourOf, if_neg notMono, if_neg notColour]

theorem colourOf_eq_some {b : Byte} {k : Colour} (h : b.toNat = (match k with | .mono => 0 | .colour => 1)) :
    colourOf b = some k := by
  cases k with
  | mono =>
    have zero : b = 0 := BitVec.eq_of_toNat_eq h
    simp [colourOf, zero]
  | colour =>
    have one : b = 1 := BitVec.eq_of_toNat_eq h
    simp [colourOf, one]

theorem priceOf_eq_none {p : BitVec 16} (h : 60000 < p.toNat ∧ p.toNat ≠ 0xFFFF) : priceOf p = none := by
  obtain ⟨above, notUnset⟩ := h
  have h' : p ≠ 0xFFFF#16 := by rintro rfl; simp at notUnset
  rw [priceOf, if_neg h', if_neg (by omega)]

/-- A price in range is read as itself, and 0xFFFF as UNSET. -/
theorem priceOf_eq_some {p : BitVec 16} (h : p.toNat ≤ 60000 ∨ p.toNat = 0xFFFF) :
    priceOf p = some (if p.toNat = 0xFFFF then none else some p.toNat) := by
  by_cases unset : p.toNat = 0xFFFF
  · have h' : p = 0xFFFF#16 := BitVec.eq_of_toNat_eq unset
    rw [priceOf, if_pos h', if_pos unset]
  · have h' : p ≠ 0xFFFF#16 := by rintro rfl; simp at unset
    rw [priceOf, if_neg h', if_pos (by omega), if_neg unset]

/-- A price read is sent as it was carried. -/
theorem priceBytes_of_carried (n : Nat) : priceBytes (if n = 0xFFFF then none else some n) = beBytes 2 n := by
  split
  · next h => rw [h]; rfl
  · rfl

/-! ## The tariff table (R45) -/

theorem tariffIndex_injective {c m c' m' : Fin 8} {k k' : Colour} (h : tariffIndex c m k = tariffIndex c' m' k') :
    (c, m, k) = (c', m', k') := by
  have value := congrArg Fin.val h
  cases k <;> cases k' <;> simp only [tariffIndex] at value <;> simp [Fin.ext_iff] <;> omega

/-- The charge unit with one tariff entry written. -/
def ChargeUnit.setPrice (u : ChargeUnit) (c m : Fin 8) (k : Colour) (p : Option Nat) : ChargeUnit :=
  { u with tariff := u.tariff.set (tariffIndex c m k) p }

@[simp] theorem ChargeUnit.setPrice_tiers (u : ChargeUnit) (c m : Fin 8) (k : Colour) (p : Option Nat) :
    (u.setPrice c m k p).tiers = u.tiers := rfl

theorem basePrice_setPrice_same (u : ChargeUnit) (c m : Fin 8) (k : Colour) (p : Option Nat) :
    basePrice (u.setPrice c m k p) c m k = p := by
  simp [basePrice, ChargeUnit.setPrice]

theorem basePrice_setPrice_other (u : ChargeUnit) {c m c' m' : Fin 8} {k k' : Colour} (p : Option Nat)
    (h : (c', m', k') ≠ (c, m, k)) : basePrice (u.setPrice c m k p) c' m' k' = basePrice u c' m' k' := by
  have elsewhere : (tariffIndex c m k).val ≠ (tariffIndex c' m' k').val :=
    fun e => h (tariffIndex_injective (Fin.ext e)).symm
  simp [basePrice, ChargeUnit.setPrice, elsewhere]

/-! ## SET TARIFF (R46) -/

section
variable {c m k : Byte} {p : BitVec 16} {s : State}

/-- SET TARIFF that nothing holds back is answered by the charge unit, and its reply waits. -/
theorem exec_setTariff_idle (idle : lineIdle s) :
    exec (.setTariff c m k p) s = .next (bufferReply 0x08 (takeSetTariff c m k p s)) :=
  congrArg _ (submit_idle idle)

theorem takeSetTariff_notStopped (h : s.host.op ≠ .stopped) : takeSetTariff c m k p s = answerRefused .state s :=
  if_pos h

theorem takeSetTariff_outOfRange (stopped : s.host.op = .stopped)
    (bad : classOf c = none ∨ classOf m = none ∨ colourOf k = none ∨ priceOf p = none) :
    takeSetTariff c m k p s = answerRefused .range s := by
  rw [takeSetTariff, if_neg (not_not.2 stopped)]
  split
  · next hc hm hk hp => simp [hc, hm, hk, hp] at bad
  · rfl

theorem takeSetTariff_stored {c' m' : Fin 8} {k' : Colour} {p' : Option Nat} (stopped : s.host.op = .stopped)
    (hc : classOf c = some c') (hm : classOf m = some m') (hk : colourOf k = some k') (hp : priceOf p = some p') :
    takeSetTariff c m k p s =
      answerOk (c :: m :: k :: priceBytes p') { s with charge := s.charge.setPrice c' m' k' p' } := by
  rw [takeSetTariff, if_neg (not_not.2 stopped), hc, hm, hk, hp]
  rfl

end

/-! ## The checks on thresholds (R48) -/

/-- The two checks of SET TIERS on its thresholds, the range of each and their order. -/
def thresholdsPass (t1 t2 t3 : Nat) : Bool :=
  (thresholdOk t1 && thresholdOk t2 && thresholdOk t3) && tiersOrdered t1 t2 t3

theorem thresholdOk_iff (t : Nat) : thresholdOk t = true ↔ t = 0 ∨ (2 ≤ t ∧ t ≤ 999999) := by
  simp [thresholdOk]

theorem tiersOrdered_iff (t1 t2 t3 : Nat) : tiersOrdered t1 t2 t3 = true ↔
    (t2 = 0 ∨ (t1 ≠ 0 ∧ t1 < t2)) ∧ (t3 = 0 ∨ (t2 ≠ 0 ∧ t2 < t3)) := by
  simp [tiersOrdered]

/-- The thresholds pass where the used tiers come first, each threshold is 2 to 999,999 and they strictly increase. -/
theorem thresholdsPass_iff (t1 t2 t3 : Nat) : thresholdsPass t1 t2 t3 = true ↔
    (t1 = 0 ∧ t2 = 0 ∧ t3 = 0) ∨ (2 ≤ t1 ∧ t1 ≤ 999999 ∧ t2 = 0 ∧ t3 = 0) ∨
      (2 ≤ t1 ∧ t1 < t2 ∧ t2 ≤ 999999 ∧ t3 = 0) ∨ (2 ≤ t1 ∧ t1 < t2 ∧ t2 < t3 ∧ t3 ≤ 999999) := by
  simp only [thresholdsPass, Bool.and_eq_true, thresholdOk_iff, tiersOrdered_iff]
  omega

/-! ## SET TIERS (R48) -/

section
variable {c d0 d1 d2 d3 : Byte} {t1 t2 t3 : BitVec 24} {s : State}

/-- SET TIERS that nothing holds back is answered by the charge unit, and its reply waits. -/
theorem exec_setTiers_idle (idle : lineIdle s) :
    exec (.setTiers c d0 t1 d1 t2 d2 t3 d3) s =
      .next (bufferReply 0x09 (takeSetTiers c d0 t1 d1 t2 d2 t3 d3 s)) :=
  congrArg _ (submit_idle idle)

theorem takeSetTiers_notStopped (h : s.host.op ≠ .stopped) :
    takeSetTiers c d0 t1 d1 t2 d2 t3 d3 s = answerRefused .state s :=
  if_pos h

theorem takeSetTiers_noClass (stopped : s.host.op = .stopped) (h : classOf c = none) :
    takeSetTiers c d0 t1 d1 t2 d2 t3 d3 s = answerRefused .range s := by
  rw [takeSetTiers, if_neg (not_not.2 stopped), h]

theorem takeSetTiers_badThresholds (stopped : s.host.op = .stopped)
    (bad : thresholdsPass t1.toNat t2.toNat t3.toNat = false) :
    takeSetTiers c d0 t1 d1 t2 d2 t3 d3 s = answerRefused .range s := by
  rw [takeSetTiers, if_neg (not_not.2 stopped)]
  split
  · rfl
  · rw [thresholdsPass, Bool.and_eq_false_iff] at bad
    rcases bad with values | order
    · simp [values]
    · simp [order]

theorem takeSetTiers_stored {c' : Fin 8} (stopped : s.host.op = .stopped) (hc : classOf c = some c')
    (pass : thresholdsPass t1.toNat t2.toNat t3.toNat = true) :
    let v := storedTiers d0.toNat t1.toNat d1.toNat t2.toNat d2.toNat t3.toNat d3.toNat
    takeSetTiers c d0 t1 d1 t2 d2 t3 d3 s =
      answerOk (tiersBody c v) { s with charge := { s.charge with tiers := s.charge.tiers.set c' v } } := by
  rw [thresholdsPass, Bool.and_eq_true] at pass
  obtain ⟨values, order⟩ := pass
  simp only [takeSetTiers, stopped, hc, values, order]
  rfl

end

/-! ## The bodies of the replies (spec/11 section 11.3) -/

/-- The SET TARIFF reply has the fields of its layout (spec/11 section 11.3). -/
theorem bodyIs_tariffBody (c m k : Byte) (n : Nat) :
    bodyIs (c :: m :: k :: beBytes 2 n) [(1, c.toNat), (1, m.toNat), (1, k.toNat), (2, n)] := by
  have bytes := bodyIs_flatMap_beBytes [(1, c.toNat), (1, m.toNat), (1, k.toNat), (2, n)]
  simpa only [List.flatMap_cons, List.flatMap_nil, beBytes_one_toNat, List.singleton_append, List.append_nil] using bytes

/-- The SET TIERS reply has the fields of its layout (spec/11 section 11.3). -/
theorem bodyIs_tiersBody (c : Byte) (v : TierSet) :
    bodyIs (tiersBody c v) [(1, c.toNat), (1, v.discount0), (3, v.tier1.threshold), (1, v.tier1.discount),
      (3, v.tier2.threshold), (1, v.tier2.discount), (3, v.tier3.threshold), (1, v.tier3.discount)] := by
  have bytes := bodyIs_flatMap_beBytes [(1, c.toNat), (1, v.discount0), (3, v.tier1.threshold),
    (1, v.tier1.discount), (3, v.tier2.threshold), (1, v.tier2.discount), (3, v.tier3.threshold), (1, v.tier3.discount)]
  simpa only [List.flatMap_cons, List.flatMap_nil, beBytes_one_toNat, List.singleton_append, List.append_nil, tiersBody,
    List.append_assoc] using bytes

/-! ## The statement -/

/-- Settles O27: each request is answered at once, and each clause is one case of its answer. -/
theorem setTariffAndSetTiersWriteTheTables : Obligations.SetTariffAndSetTiersWriteTheTables := by
  constructor
  case left =>
    intro c m k p s idle
    rw [exec_setTariff_idle idle]
    refine ⟨fun notStopped => ?state, fun stopped bad => ?range, fun c' m' k' stopped hc hm hk hp => ?stored⟩
    case state => rw [takeSetTariff_notStopped notStopped, bufferReply_refused]
    case range =>
      have unread : classOf c = none ∨ classOf m = none ∨ colourOf k = none ∨ priceOf p = none :=
        bad.imp classOf_eq_none (Or.imp classOf_eq_none (Or.imp colourOf_eq_none priceOf_eq_none))
      rw [takeSetTariff_outOfRange stopped unread, bufferReply_refused]
    case stored =>
      rw [takeSetTariff_stored stopped (classOf_eq_some hc) (classOf_eq_some hm) (colourOf_eq_some hk)
        (priceOf_eq_some hp), bufferReply_ok, priceBytes_of_carried]
      exact ⟨_, _, rfl, bodyIs_tariffBody c m k p.toNat, ChargeUnit.setPrice_tiers .., basePrice_setPrice_same ..,
        fun _ _ _ => basePrice_setPrice_other s.charge _⟩
  case right =>
    intro c d0 d1 d2 d3 t1 t2 t3 s idle
    rw [exec_setTiers_idle idle]
    refine ⟨fun notStopped => ?state, fun stopped bad => ?range, fun c' stopped hc inOrder => ?stored⟩
    case state => rw [takeSetTiers_notStopped notStopped, bufferReply_refused]
    case range =>
      rcases bad with noClass | thresholds
      · rw [takeSetTiers_noClass stopped (classOf_eq_none noClass), bufferReply_refused]
      · have fail : thresholdsPass t1.toNat t2.toNat t3.toNat = false := by
          rw [← Bool.not_eq_true, thresholdsPass_iff]
          omega
        rw [takeSetTiers_badThresholds stopped fail, bufferReply_refused]
    case stored =>
      rw [takeSetTiers_stored stopped (classOf_eq_some hc) ((thresholdsPass_iff ..).2 inOrder), bufferReply_ok]
      exact ⟨_, _, rfl, rfl, bodyIs_tiersBody ..⟩

end Sys2Proof.Machine
end

section
/-!
PROOFS. The meter requests (section 4.7, R79): a request that names a station of the frame, the fields of the METER GET reply, and
each request's answer case by case.
-/

namespace Sys2Proof.Machine

/-! ## A request that names a station of the frame (R175) -/

/-- A station of the frame is found by the byte that names it. -/
theorem stationNamed_stationByte {i : StationId} {s : State} (inFrame : s.inFrame i = true) :
    stationNamed s (stationByte i) = some i := by
  have value : (stationByte i).toNat = i.val := by
    rw [stationByte, BitVec.toNat_ofNat]
    omega
  simp [stationNamed, value, inFrame]

/-- A request that names a station of the frame passes the third check, and its owner answers for that station. -/
theorem onStation_stationByte {i : StationId} {s : State} (inFrame : s.inFrame i = true) (f : StationId → Answered) :
    onStation (stationByte i) s f = f i := by
  rw [onStation, stationNamed_stationByte inFrame]

/-! ## The METER GET reply (R79, spec/11 section 11.3) -/

/-- The request state's value on the line (spec/11 section 11.8). -/
theorem requestStateValue_toNat (r : RequestState) :
    (requestStateValue r).toNat = match r with
      | .idle => 0
      | .waiting _ _ .pathFull _ => 1
      | .waiting _ _ .funds _ => 2 := by
  cases r with
  | idle => rfl
  | waiting serial spec cause left => cases cause <;> rfl

/-- The METER GET reply has the fields of its layout (spec/11 section 11.3). -/
theorem bodyIs_meterBody (x : Station) :
    bodyIs (meterBody x) [(4, x.meters.granted), (4, x.meters.delivered), (4, x.meters.serviceDelivered),
      (4, x.meters.writtenOff), (4, x.meters.stalls), (4, x.meters.unchargedExits), (4, x.meters.sessionsClosed),
      (1, x.queue.length), (1, (x.queue.map (·.impressions)).sum), (1, chargedCount x.queue),
      (1, (requestStateValue x.request).toNat)] := by
  have bytes := bodyIs_flatMap_beBytes [(4, x.meters.granted), (4, x.meters.delivered), (4, x.meters.serviceDelivered),
    (4, x.meters.writtenOff), (4, x.meters.stalls), (4, x.meters.unchargedExits), (4, x.meters.sessionsClosed),
    (1, x.queue.length), (1, (x.queue.map (·.impressions)).sum), (1, chargedCount x.queue),
    (1, (requestStateValue x.request).toNat)]
  simpa only [List.flatMap_cons, List.flatMap_nil, beBytes_one_toNat, List.append_nil, meterBody, List.append_assoc]
    using bytes

/-! ## METER GET and METER CLEAR (R79) -/

section
variable {i : StationId} {s : State}

/-- METER GET that nothing holds back is answered at once, and its reply waits. -/
theorem exec_meterGet_idle {b : Byte} (idle : lineIdle s) :
    exec (.meterGet b) s = .next (bufferReply 0x2E (takeMeterGet b s)) :=
  congrArg _ (submit_idle idle)

/-- METER CLEAR that nothing holds back is answered at once, and its reply waits. -/
theorem exec_meterClear_idle {b : Byte} (idle : lineIdle s) :
    exec (.meterClear b) s = .next (bufferReply 0x2F (takeMeterClear b s)) :=
  congrArg _ (submit_idle idle)

theorem takeMeterGet_inFrame (inFrame : s.inFrame i = true) :
    takeMeterGet (stationByte i) s = answerOk (meterBody (s.st i)) s :=
  onStation_stationByte inFrame _

/-- METER CLEAR at a station with sheets in flight is refused. -/
theorem takeMeterClear_inFlight (inFrame : s.inFrame i = true) (inFlight : (s.st i).queue ≠ []) :
    takeMeterClear (stationByte i) s = answerRefused .busy s := by
  rw [takeMeterClear, onStation_stationByte inFrame, if_neg (mt List.isEmpty_iff.1 inFlight)]

/-- METER CLEAR at a station with no sheet in flight clears its meters. -/
theorem takeMeterClear_empty (inFrame : s.inFrame i = true) (empty : (s.st i).queue = []) :
    takeMeterClear (stationByte i) s = answerOk [] (s.updMeters i fun _ => Meters.zero) := by
  rw [takeMeterClear, onStation_stationByte inFrame, if_pos (List.isEmpty_iff.2 empty)]

end

/-! ## The statement -/

/-- Settles O46: each request is answered at once, METER GET with the layout's fields, and METER CLEAR by the queue. -/
theorem metersAreReadAndCleared : Obligations.MetersAreReadAndCleared := by
  intro i s idle inFrame
  refine ⟨⟨meterBody (s.st i), ?answered, ?fields⟩, fun inFlight => ?busy, fun empty => ?cleared⟩
  case answered => rw [exec_meterGet_idle idle, takeMeterGet_inFrame inFrame, bufferReply_ok]
  case fields =>
    have fields := bodyIs_meterBody (s.st i)
    rw [requestStateValue_toNat] at fields
    exact fields
  case busy => rw [exec_meterClear_idle idle, takeMeterClear_inFlight inFrame inFlight, bufferReply_refused]
  case cleared =>
    rw [exec_meterClear_idle idle, takeMeterClear_empty inFrame empty, bufferReply_ok]
    rfl

end Sys2Proof.Machine
end

section
/-!
PROOFS. STATION ENABLE (section 5.6, R96): what a change of availability writes, and the request's answer case by case.
-/

namespace Sys2Proof.Machine

section
variable {i : StationId} {s : State}

/-! ## A change of availability (R93) -/

/-- An availability that is not `a` yet becomes `a`, and the STATION condition is raised with the line state held now (R93, R180). -/
theorem setAvailability_changed {a : Availability} (other : (s.st i).recovery.availability ≠ a) :
    setAvailability i a s = s.upd i fun x => { x with
      recovery := { x.recovery with availability := a }
      cond := { x.cond with
        lineFirst := some (x.cond.lineFirst.getD (lineState x.line)), lineLatest := some (lineState x.line) } } := by
  rw [setAvailability, if_neg other, raiseStation, State.updRecovery, upd_upd]

/-- After an update of its station, the reply carries availability and disable pending as the update leaves them (R96). -/
theorem availabilityAnswer_upd (f : Station → Station) :
    availabilityAnswer i (s.upd i f) = answerOk
      [availabilityValue (f (s.st i)).recovery.availability, flagByte (f (s.st i)).recovery.disablePending]
      (s.upd i f) := by
  rw [availabilityAnswer, st_upd_self]

/-! ## STATION ENABLE (R96) -/

/-- STATION ENABLE that nothing holds back is answered at once, and its reply waits. -/
theorem exec_stationEnable_idle {b : Byte} (idle : lineIdle s) :
    exec (.stationEnable b) s = .next (bufferReply 0x29 (takeStationEnable b s)) :=
  congrArg _ (submit_idle idle)

/-- STATION ENABLE at a station whose stoppage condition is set is refused, whatever the availability. -/
theorem takeStationEnable_stoppage (inFrame : s.inFrame i = true) (stopped : (s.st i).recovery.stoppage ≠ none) :
    takeStationEnable (stationByte i) s = answerRefused .state s := by
  rw [takeStationEnable, onStation_stationByte inFrame, if_pos (Option.isSome_iff_ne_none.2 stopped)]

/-- With the stoppage condition clear, STATION ENABLE returns an OUT_OF_SERVICE station to service. -/
theorem takeStationEnable_outOfService (inFrame : s.inFrame i = true) (clear : (s.st i).recovery.stoppage = none)
    (out : (s.st i).recovery.availability = .outOfService) :
    takeStationEnable (stationByte i) s = availabilityAnswer i (setAvailability i .enabled s) := by
  rw [takeStationEnable, onStation_stationByte inFrame, if_neg (by simp [clear]), out]

/-- With the stoppage condition clear, STATION ENABLE at an ENABLED station clears disable pending alone. -/
theorem takeStationEnable_enabled (inFrame : s.inFrame i = true) (clear : (s.st i).recovery.stoppage = none)
    (enabled : (s.st i).recovery.availability = .enabled) :
    takeStationEnable (stationByte i) s =
      availabilityAnswer i (s.updRecovery i fun r => { r with disablePending := false }) := by
  rw [takeStationEnable, onStation_stationByte inFrame, if_neg (by simp [clear]), enabled]

end

/-! ## The statement -/

/-- Settles O42: the request is answered at once, by the stoppage condition first and then by the availability. -/
theorem stationEnableReturnsTheStation : Obligations.StationEnableReturnsTheStation := by
  intro i s idle inFrame
  rw [exec_stationEnable_idle idle]
  refine ⟨fun stopped => ?refused, fun clear out => ?returned, fun clear enabled => ?cleared⟩
  case refused => rw [takeStationEnable_stoppage inFrame stopped, bufferReply_refused]
  case returned =>
    have changes : (s.st i).recovery.availability ≠ .enabled := by simp [out]
    rw [takeStationEnable_outOfService inFrame clear out, setAvailability_changed changes, availabilityAnswer_upd,
      bufferReply_ok]
    rfl
  case cleared =>
    rw [takeStationEnable_enabled inFrame clear enabled, State.updRecovery, availabilityAnswer_upd, bufferReply_ok,
      enabled]
    rfl

end Sys2Proof.Machine
end

section
/-!
PROOFS. The requests on the stand-in list (chapter 7, R136 and R137): the fields of an entry and of the STANDIN LIST reply, the
list without the one entry that holds a token, and each request's answer case by case.
-/

namespace Sys2Proof.Machine

/-! ## The bodies of the replies (spec/11 section 11.3) -/

/-- The fields of a stand-in entry as its layout lists them; `standInBytes_eq` ties them to the bytes sent. -/
def standInFields (e : StandInEntry) : List (Nat × Nat) :=
  [(16, e.token.toNat), (3, e.amount), (2, e.sessionNumber), (1, e.station.val), (1, if e.settled then 2 else 1)]

/-- A stand-in entry is sent as its fields, one after the other. -/
theorem standInBytes_eq (e : StandInEntry) : standInBytes e = (standInFields e).flatMap fun f => beBytes f.1 f.2 := by
  have station : beBytes 1 e.station.val = [stationByte e.station] := by simp [beBytes, stationByte]
  have state : beBytes 1 (if e.settled then 2 else 1) = [standInStateValue e.settled] := by
    cases e.settled <;> rfl
  simp only [standInFields, List.flatMap_cons, List.flatMap_nil, station, state, standInBytes, List.append_assoc,
    List.append_nil]

/-- The STANDIN CLEAR reply has the fields of the entry. -/
theorem bodyIs_standInBytes (e : StandInEntry) : bodyIs (standInBytes e) (standInFields e) := by
  rw [standInBytes_eq]
  exact bodyIs_flatMap_beBytes _

/-- The body of a STANDIN LIST reply: the three figures of the list, then the entries of the page. -/
def standInListBody (s : State) (page : List StandInEntry) : List Byte :=
  beBytes 1 s.cards.standIn.length ++ beBytes 3 (exposure s.cards) ++ beBytes 1 page.length ++ page.flatMap standInBytes

/-- The STANDIN LIST reply has the fields of its layout (spec/11 section 11.3). -/
theorem bodyIs_standInListBody (s : State) (page : List StandInEntry) :
    bodyIs (standInListBody s page)
      ([(1, s.cards.standIn.length), (3, exposure s.cards), (1, page.length)] ++ page.flatMap standInFields) := by
  have bytes := bodyIs_flatMap_beBytes
    ([(1, s.cards.standIn.length), (3, exposure s.cards), (1, page.length)] ++ page.flatMap standInFields)
  simpa only [standInListBody, List.flatMap_append, List.flatMap_cons, List.flatMap_nil, List.flatMap_assoc,
    ← standInBytes_eq, List.append_assoc, List.append_nil] using bytes

/-! ## The one entry that holds a token (R133, R135) -/

section
variable {t : Token} {before after : List StandInEntry} {e : StandInEntry}

/-- The search for a token finds the first entry that holds it. -/
theorem find_standIn (others : ∀ x ∈ before, x.token ≠ t) (holds : e.token = t) :
    (before ++ e :: after).find? (fun x => x.token == t) = some e :=
  List.find?_eq_some_iff_append.2 ⟨beq_iff_eq.2 holds, before, after, rfl, fun x hx => by simp [others x hx]⟩

/-- The removal by token takes the first entry that holds it, and the others keep their order. -/
theorem eraseP_standIn (others : ∀ x ∈ before, x.token ≠ t) (holds : e.token = t) :
    (before ++ e :: after).eraseP (fun x => x.token == t) = before ++ after := by
  rw [List.eraseP_append_right _ fun x hx => by simp [others x hx]]
  exact congrArg (before ++ ·) (List.eraseP_cons_of_pos (beq_iff_eq.2 holds))

end

/-- The exposure falls by the amount of an entry that is taken from the list (R137). -/
theorem exposure_remove {c : CardUnit} {before after : List StandInEntry} {e : StandInEntry}
    (list : c.standIn = before ++ e :: after) :
    exposure { c with standIn := before ++ after } + e.amount = exposure c := by
  simp only [exposure, list, List.map_append, List.map_cons, List.sum_append, List.sum_cons]
  omega

/-- The list does not hold a token that none of its entries holds. -/
theorem standInHolds_eq_false {c : CardUnit} {t : Token} (absent : ∀ x ∈ c.standIn, x.token ≠ t) :
    standInHolds c t = false :=
  List.any_eq_false.2 fun x hx => by simp [absent x hx]

/-! ## STANDIN LIST (R136) -/

section
variable {start : Byte} {s : State}

/-- STANDIN LIST that nothing holds back is answered at once, and its reply waits. -/
theorem exec_standinList_idle (idle : lineIdle s) :
    exec (.standinList start) s = .next (bufferReply 0x1D (takeStandinList start s)) :=
  congrArg _ (submit_idle idle)

theorem takeStandinList_beyond (h : 31 < start.toNat) : takeStandinList start s = answerRefused .range s :=
  if_pos h

theorem takeStandinList_inRange (h : start.toNat ≤ 31) :
    takeStandinList start s = answerOk (standInListBody s ((s.cards.standIn.drop start.toNat).take 8)) s :=
  if_neg (Nat.not_lt.2 h)

end

/-! ## STANDIN CLEAR (R137) -/

section
variable {t : Token} {s : State} {before after : List StandInEntry} {e : StandInEntry}

/-- STANDIN CLEAR that nothing holds back is answered at once, and its reply waits. -/
theorem exec_standinClear_idle (idle : lineIdle s) :
    exec (.standinClear t) s = .next (bufferReply 0x1E (takeStandinClear t s)) :=
  congrArg _ (submit_idle idle)

/-- STANDIN CLEAR of a token that no entry holds is refused. -/
theorem takeStandinClear_absent (absent : ∀ x ∈ s.cards.standIn, x.token ≠ t) :
    takeStandinClear t s = answerRefused .notFound s := by
  have notFound : (s.cards.standIn.find? fun x => x.token == t) = none :=
    List.find?_eq_none.2 fun x hx => by simp [absent x hx]
  rw [takeStandinClear, notFound]

/-- STANDIN CLEAR of an OPEN entry is refused. -/
theorem takeStandinClear_open (list : s.cards.standIn = before ++ e :: after) (others : ∀ x ∈ before, x.token ≠ t)
    (holds : e.token = t) (isOpen : e.settled = false) : takeStandinClear t s = answerRefused .busy s := by
  rw [takeStandinClear, list, find_standIn others holds]
  exact if_neg (Bool.eq_false_iff.1 isOpen)

/-- STANDIN CLEAR of a SETTLED entry takes it from the list and answers with it as it stood. -/
theorem takeStandinClear_settled (list : s.cards.standIn = before ++ e :: after) (others : ∀ x ∈ before, x.token ≠ t)
    (holds : e.token = t) (settled : e.settled = true) :
    takeStandinClear t s =
      answerOk (standInBytes e) (s.updCards fun c => { c with standIn := before ++ after }) := by
  rw [takeStandinClear, list, find_standIn others holds]
  simp only [settled, if_true, State.updCards, list, eraseP_standIn others holds]

end

/-! ## The statement -/

/-- Settles O37: each request is answered at once, STANDIN LIST by its start position and STANDIN CLEAR by the one entry that
holds the token. -/
theorem standinListIsReadAndCleared : Obligations.StandinListIsReadAndCleared := by
  constructor
  case left =>
    intro start s idle
    rw [exec_standinList_idle idle]
    refine ⟨fun beyond => ?range, fun inRange => ?listed⟩
    case range => rw [takeStandinList_beyond beyond, bufferReply_refused]
    case listed =>
      have fields := bodyIs_standInListBody s ((s.cards.standIn.drop start.toNat).take 8)
      rw [List.length_take, List.length_drop] at fields
      rw [takeStandinList_inRange inRange, bufferReply_ok]
      exact ⟨_, rfl, fields⟩
  case right =>
    intro t s idle
    rw [exec_standinClear_idle idle]
    refine ⟨fun absent => ?notFound, fun before e after list others holds =>
      ⟨fun isOpen => ?busy, fun settled => ?cleared⟩⟩
    case notFound => rw [takeStandinClear_absent absent, bufferReply_refused]
    all_goals have earlier : ∀ x ∈ before, x.token ≠ t := fun x hx => others x (List.mem_append_left _ hx)
    case busy => rw [takeStandinClear_open list earlier holds isOpen, bufferReply_refused]
    case cleared =>
      have fields := bodyIs_standInBytes e
      rw [standInFields, if_pos settled] at fields
      rw [takeStandinClear_settled list earlier holds settled, bufferReply_ok]
      exact ⟨_, _, rfl, rfl, exposure_remove list, standInHolds_eq_false others, fields⟩

end Sys2Proof.Machine
end

section
/-!
PROOFS. The requests on the billing journal (chapter 8, R145, R146 and R149): the fields of a record and of the replies, the level
after a release, and each request's answer case by case.
-/

namespace Sys2Proof.Machine

/-! ## A journal record on the line (spec/11 section 11.5) -/

/-- A one-byte field is sent as the byte of its value. -/
theorem beBytes_one (v : Nat) : beBytes 1 v = [BitVec.ofNat 8 v] := by
  simp [beBytes]

theorem flagByte_toNat (b : Bool) : (flagByte b).toNat = bit b := by
  cases b <;> rfl

theorem payerKindValue_toNat (p : Payer) :
    (payerKindValue (payerKind p)).toNat = match p with
      | .account _ => 1
      | .card _ => 2
      | .standIn _ => 3 := by
  cases p <;> rfl

theorem cardClassValue_toNat (c : Option CardClass) :
    (cardClassValue c).toNat = match c with
      | none => 0
      | some .credit => 1
      | some .debit => 2 := by
  cases c with
  | none => rfl
  | some c => cases c <;> rfl

theorem closeReasonValue_toNat (r : CloseReason) :
    (closeReasonValue r).toNat = match r with
      | .finish => 1
      | .idle => 2
      | .host => 3
      | .frozen => 4
      | .disabled => 5
      | .stallTimeout => 6
      | .halt => 7 := by
  cases r <;> rfl

theorem centValue_toNat (c : ClosingCent) :
    (centValue c).toNat = match c with
      | .none => 0
      | .posted => 1
      | .waived => 2 := by
  cases c <;> rfl

/-- The payer identity is one number of 16 bytes. -/
theorem payerBytes_eq (p : Payer) :
    payerBytes p = beBytes 16 (match p with | .account m => m | .card t => t.toNat | .standIn t => t.toNat) := by
  cases p <;> rfl

/-- The fields of a journal record as its layout lists them; `recordBytes_eq` ties them to the bytes sent. -/
def recordFields (r : JournalRecord) : List (Nat × Nat) :=
  [(4, r.journalNumber), (2, r.sessionNumber), (1, r.station.val * 16 + r.tariffClass.val),
    (1, (match r.payer with | .account _ => 1 | .card _ => 2 | .standIn _ => 3) * 16
      + (match r.cardClass with | none => 0 | some .credit => 1 | some .debit => 2)),
    (16, match r.payer with | .account m => m | .card t => t.toNat | .standIn t => t.toNat),
    (4, r.openTime), (4, r.closeTime),
    (1, bit r.clockUnset * 128 + (match r.reason with
      | .finish => 1 | .idle => 2 | .host => 3 | .frozen => 4 | .disabled => 5 | .stallTimeout => 6 | .halt => 7)
      * 4 + (match r.cent with | .none => 0 | .posted => 1 | .waived => 2)),
    (3, r.authority), (3, r.spent), (3, r.chargedMono), (3, r.chargedColour), (3, r.creditedImpressions),
    (3, r.creditedAmount), (2, r.stallCount), (2, r.increments), (3, r.unchargedExits), (3, r.unreturnedCredit)]

/-- A journal record is sent as its fields, one after the other. -/
theorem recordBytes_eq (r : JournalRecord) : recordBytes r = (recordFields r).flatMap fun f => beBytes f.1 f.2 := by
  simp only [recordBytes, recordFields, payerBytes_eq, flagByte_toNat, payerKindValue_toNat, cardClassValue_toNat,
    closeReasonValue_toNat, centValue_toNat, List.flatMap_cons, List.flatMap_nil, beBytes_one, List.append_assoc,
    List.append_nil, List.cons_append, List.nil_append]

/-! ## The bodies of the replies (spec/11 section 11.3) -/

/-- A level is sent as its place in the order of the levels (R141, spec/11 section 11.8). -/
theorem beBytes_urgencyRank (l : Urgency) : beBytes 1 (urgencyRank l) = [urgencyValue l] := by
  cases l <;> rfl

/-- The body of a JOURNAL READ reply: the occupancy, the level and the number of records returned, then the records. -/
def journalPageBody (j : JournalUnit) (page : List JournalRecord) : List Byte :=
  beBytes 2 j.records.length ++ [urgencyValue j.level] ++ beBytes 1 page.length ++ page.flatMap recordBytes

/-- The JOURNAL READ reply has the fields of its layout (spec/11 section 11.3). -/
theorem bodyIs_journalPageBody (j : JournalUnit) (page : List JournalRecord) :
    bodyIs (journalPageBody j page)
      ([(2, j.records.length), (1, urgencyRank j.level), (1, page.length)] ++ page.flatMap recordFields) := by
  have bytes := bodyIs_flatMap_beBytes
    ([(2, j.records.length), (1, urgencyRank j.level), (1, page.length)] ++ page.flatMap recordFields)
  simpa only [journalPageBody, List.flatMap_append, List.flatMap_cons, List.flatMap_nil, List.flatMap_assoc,
    ← recordBytes_eq, beBytes_urgencyRank, List.append_assoc, List.append_nil] using bytes

/-- The JOURNAL RELEASE reply has the fields of its layout (spec/11 section 11.3). -/
theorem bodyIs_releaseBody (removed : Nat) (j : JournalUnit) :
    bodyIs (releaseBody removed j)
      [(2, removed), (2, j.records.length), (1, urgencyRank j.level), (4, headNumber j)] := by
  have bytes := bodyIs_flatMap_beBytes
    [(2, removed), (2, j.records.length), (1, urgencyRank j.level), (4, headNumber j)]
  simpa only [List.flatMap_cons, List.flatMap_nil, beBytes_urgencyRank, releaseBody, List.append_assoc, List.append_nil]
    using bytes

/-! ## JOURNAL READ (R145) -/

section
variable {n : Byte} {s : State}

/-- JOURNAL READ that nothing holds back is answered at once, and its reply waits. -/
theorem exec_journalRead_idle (idle : lineIdle s) :
    exec (.journalRead n) s = .next (bufferReply 0x20 (takeJournalRead n s)) :=
  congrArg _ (submit_idle idle)

theorem takeJournalRead_outOfRange (h : n.toNat = 0 ∨ 4 < n.toNat) : takeJournalRead n s = answerRefused .range s :=
  if_neg (by bv_omega)

theorem takeJournalRead_inRange (one : 1 ≤ n.toNat) (four : n.toNat ≤ 4) :
    takeJournalRead n s = answerOk (journalPageBody s.journal (s.journal.records.take n.toNat)) s :=
  if_pos (by bv_omega)

end

/-- Settles O38: the request is answered at once, by its count, with the fields of the oldest records. -/
theorem journalReadReturnsTheOldest : Obligations.JournalReadReturnsTheOldest := by
  intro n s idle
  rw [exec_journalRead_idle idle]
  refine ⟨fun outOfRange => ?range, fun one four => ?read⟩
  case range => rw [takeJournalRead_outOfRange outOfRange, bufferReply_refused]
  case read =>
    have fields := bodyIs_journalPageBody s.journal (s.journal.records.take n.toNat)
    rw [List.length_take] at fields
    rw [takeJournalRead_inRange one four, bufferReply_ok]
    exact ⟨_, rfl, fields⟩

/-! ## The level after a release (R149) -/

/-- The occupancy below which a level is left (section 8.4); `exitOccupancy_fallLevel_le` and `lt_exitOccupancy_of_passed` tie it to
the model's fall. RELEASE is never left downwards. -/
def exitOccupancy : Urgency → Nat
  | .release => 0
  | .may => 224
  | .need => 352
  | .must => 448

theorem urgencyRank_fallLevel_le (occupancy : Nat) (held : Urgency) :
    urgencyRank (fallLevel occupancy held) ≤ urgencyRank held := by
  fun_cases fallLevel occupancy held <;> simp [urgencyRank]

/-- The fall ends at a level whose exit the occupancy has not gone below. -/
theorem exitOccupancy_fallLevel_le (occupancy : Nat) (held : Urgency) :
    exitOccupancy (fallLevel occupancy held) ≤ occupancy := by
  fun_cases fallLevel occupancy held <;> simp only [exitOccupancy] <;> omega

/-- The occupancy is below the exit of every level that the fall leaves. -/
theorem lt_exitOccupancy_of_passed {occupancy : Nat} {held : Urgency} (passed : Urgency)
    (above : urgencyRank (fallLevel occupancy held) < urgencyRank passed)
    (fromHeld : urgencyRank passed ≤ urgencyRank held) : occupancy < exitOccupancy passed := by
  revert above fromHeld
  fun_cases fallLevel occupancy held <;> cases passed <;> simp only [urgencyRank, exitOccupancy] <;> omega

/-! ## The removal of records (R146) -/

section
variable {j : JournalUnit} {r : JournalRecord} {rest : List JournalRecord}

theorem headNumber_nil (empty : j.records = []) : headNumber j = j.nextNumber := by
  rw [headNumber, empty]; rfl

theorem headNumber_cons (records : j.records = r :: rest) : headNumber j = r.journalNumber := by
  rw [headNumber, records]; rfl

/-- The head number by the head record, if there is one. -/
theorem headNumber_eq (j : JournalUnit) :
    headNumber j = match j.records.head? with
      | some x => x.journalNumber
      | none => j.nextNumber := by
  rw [headNumber]
  cases j.records.head? <;> rfl

end

/-- The journal unit with its `count` oldest records removed and its level judged; `releaseRecords_spec` ties it to the model. -/
def JournalUnit.released (j : JournalUnit) (count : Nat) : JournalUnit :=
  { j with
    records := j.records.drop count
    level := fallLevel (j.records.length - count) j.level }

/-- A removal of one record or more: the oldest leave, the level is judged, a change of it raises the JOURNAL condition, and nothing
else changes. -/
theorem releaseRecords_spec {count : Nat} {s : State} (one : 1 ≤ count) (occupied : s.journal.records ≠ []) :
    releaseRecords count s = { s with
      journal := s.journal.released count
      host := { s.host with
        journalFlag := s.host.journalFlag || (s.journal.released count).level != s.journal.level } } := by
  have removes : min count s.journal.records.length ≠ 0 := by
    have := List.length_pos_iff.2 occupied
    omega
  rw [releaseRecords, if_neg removes, setLevel_spec]
  simp only [updJournal_journal, List.length_drop]
  rfl

/-! ## JOURNAL RELEASE (R146) -/

section
variable {k : BitVec 16} {e : BitVec 32} {s : State}

/-- JOURNAL RELEASE that nothing holds back is answered at once, and its reply waits. -/
theorem exec_journalRelease_idle (idle : lineIdle s) :
    exec (.journalRelease k e) s = .next (bufferReply 0x21 (takeJournalRelease k e s)) :=
  congrArg _ (submit_idle idle)

theorem takeJournalRelease_outOfRange (h : k.toNat = 0 ∨ 512 < k.toNat) :
    takeJournalRelease k e s = answerRefused .range s :=
  if_pos (h.imp_left BitVec.eq_of_toNat_eq)

theorem releaseCount_inRange (one : 1 ≤ k.toNat) (top : k.toNat ≤ 512) : ¬ (k = 0 ∨ 512 < k.toNat) := by
  bv_omega

/-- JOURNAL RELEASE with the journal empty removes nothing and is answered OK. -/
theorem takeJournalRelease_empty (one : 1 ≤ k.toNat) (top : k.toNat ≤ 512) (empty : s.journal.records = []) :
    takeJournalRelease k e s = answerOk (releaseBody 0 s.journal) s := by
  rw [takeJournalRelease, if_neg (releaseCount_inRange one top), if_pos empty]

/-- JOURNAL RELEASE that expects another head number removes nothing and is refused. -/
theorem takeJournalRelease_otherHead (one : 1 ≤ k.toNat) (top : k.toNat ≤ 512) (occupied : s.journal.records ≠ [])
    (other : headNumber s.journal ≠ e.toNat) :
    takeJournalRelease k e s = ⟨.conflict, releaseBody 0 s.journal, s⟩ := by
  rw [takeJournalRelease, if_neg (releaseCount_inRange one top), if_neg occupied, if_pos other]

/-- JOURNAL RELEASE that expects the head number removes the oldest records. -/
theorem takeJournalRelease_released (one : 1 ≤ k.toNat) (top : k.toNat ≤ 512) (occupied : s.journal.records ≠ [])
    (expected : headNumber s.journal = e.toNat) :
    takeJournalRelease k e s =
      answerOk (releaseBody (min k.toNat s.journal.records.length) (s.journal.released k.toNat))
        { s with
          journal := s.journal.released k.toNat
          host := { s.host with
            journalFlag := s.host.journalFlag || (s.journal.released k.toNat).level != s.journal.level } } := by
  rw [takeJournalRelease, if_neg (releaseCount_inRange one top), if_neg occupied, if_neg (not_not.2 expected),
    releaseRecords_spec one occupied]

end

/-- Settles O39: the request is answered at once, by its count, then by the head of the journal; the level clauses say how far the
level falls. -/
theorem journalReleaseRemovesFromTheHead : Obligations.JournalReleaseRemovesFromTheHead := by
  intro k e s idle level
  have level_eq : level = urgencyRank := by
    funext u
    cases u <;> rfl
  rw [exec_journalRelease_idle idle, level_eq]
  refine ⟨fun outOfRange => ?range, fun one top empty => ?empty, fun r rest one top records other => ?conflict,
    fun r rest one top records expected => ?released⟩
  case range => rw [takeJournalRelease_outOfRange outOfRange, bufferReply_refused]
  case empty =>
    have fields := bodyIs_releaseBody 0 s.journal
    rw [headNumber_nil empty, empty] at fields
    rw [takeJournalRelease_empty one top empty, bufferReply_ok]
    exact ⟨_, rfl, fields⟩
  all_goals
    have occupied : s.journal.records ≠ [] := by simp [records]
    have head : headNumber s.journal = r.journalNumber := headNumber_cons records
  case conflict =>
    have fields := bodyIs_releaseBody 0 s.journal
    rw [head] at fields
    rw [takeJournalRelease_otherHead one top occupied (head ▸ other)]
    exact ⟨_, rfl, fields⟩
  case released =>
    have fields := bodyIs_releaseBody (min k.toNat s.journal.records.length) (s.journal.released k.toNat)
    rw [headNumber_eq, JournalUnit.released, List.length_drop] at fields
    have ends := exitOccupancy_fallLevel_le (s.journal.records.length - k.toNat) s.journal.level
    rw [takeJournalRelease_released one top occupied (head.trans expected), bufferReply_ok]
    refine ⟨fallLevel (s.journal.records.length - k.toNat) s.journal.level, _, rfl, urgencyRank_fallLevel_le ..,
      fun may => ?endsAtMay, fun need => ?endsAtNeed, fun must => ?endsAtMust,
      fun falls => lt_exitOccupancy_of_passed _ falls le_rfl, fun toRelease fromAbove => ?leftMay,
      fun toMay fromMust => ?leftNeed, fields⟩
    case endsAtMay => rwa [may] at ends
    case endsAtNeed => rwa [need] at ends
    case endsAtMust => rwa [must] at ends
    case leftMay =>
      have atLeastMay : urgencyRank .may ≤ urgencyRank s.journal.level := by
        rcases fromAbove with held | held <;> simp [held, urgencyRank]
      exact lt_exitOccupancy_of_passed .may (by simp [toRelease, urgencyRank]) atLeastMay
    case leftNeed =>
      have atLeastNeed : urgencyRank .need ≤ urgencyRank s.journal.level := by simp [fromMust, urgencyRank]
      exact lt_exitOccupancy_of_passed .need (by simp [toMay, urgencyRank]) atLeastNeed

end Sys2Proof.Machine
end

section
/-!
PROOFS. What every operation of the part keeps: one relation between the state before and after, which holds all the invariants
(sections 2.3, 2.4, 4.7 and 7.2, and the capacities), with the laws by which it is built up and taken apart.
-/

namespace Sys2Proof.Machine

/-! ## The invariants at one station -/

/-- The idle timer of a station agrees with its five conditions (R31). -/
def TimerRight (x : Station) : Prop := x.idleTimer.isSome = idleEligible x

/-- An ABSENT station has no confirmed code (R4). -/
def AbsentHasNoCode (x : Station) : Prop := x.line.present = false → x.line.confirmed = none

/-- The queues and codes of one station are within their bounds. -/
def StationBounded (x : Station) : Prop :=
  x.queue.length ≤ Config.inFlightRoom ∧ x.line.down.length ≤ Config.downQueueRoom ∧
    (∀ b q, x.line.up = .receiving b q → b.length ≤ Config.upBufferRoom) ∧
    x.line.confirmed ≠ some (.jam 0) ∧ x.line.candidate ≠ some (.jam 0)

/-- No reason that a close alone records is held by a session (R20, R39). -/
def ReasonsRight (x : Station) : Prop :=
  ∀ r ∈ [CloseReason.stallTimeout, CloseReason.halt], x.session.closeReason ≠ some r ∧ x.session.closePending ≠ some r

/-! ## The relation

Within one command two invariants stand still for a while: between the removal of an INITIAL entry and what becomes of its
session, and between a confirmed code and its report to the idle timer. A waiver names the stations where that is so. -/

/-- The stations whose pending authorization, and those whose idle timer, has not yet been judged. -/
structure Waiver where
  auth : StationId → Prop
  timer : StationId → Prop

/-- Nothing waived. -/
def Waiver.none : Waiver := ⟨fun _ => False, fun _ => False⟩

/-- The pending authorization of station `i` waived too. -/
def Waiver.andAuth (w : Waiver) (i : StationId) : Waiver := ⟨fun j => w.auth j ∨ j = i, w.timer⟩

/-- The idle timer of station `i` waived too. -/
def Waiver.andTimer (w : Waiver) (i : StationId) : Waiver := ⟨w.auth, fun j => w.timer j ∨ j = i⟩

/-- What an update of station `i` keeps, its idle timer apart. -/
structure RestKept (w : Waiver) (i : StationId) (x y : Station) : Prop where
  conserved : Conserved x → Conserved y
  absent : AbsentHasNoCode x → AbsentHasNoCode y
  bounded : StationBounded x → StationBounded y
  reasons : ReasonsRight x → ReasonsRight y
  auth : ¬ w.auth i → AuthRight x → AuthRight y

/-- What an update of station `i` keeps. -/
structure StationKept (w : Waiver) (i : StationId) (x y : Station) : Prop extends RestKept w i x y where
  timer : ¬ w.timer i → AbsentHasNoCode x → TimerRight x → TimerRight y

theorem RestKept.refl (w : Waiver) (i : StationId) (x : Station) : RestKept w i x x := ⟨id, id, id, id, fun _ => id⟩

theorem StationKept.refl (w : Waiver) (i : StationId) (x : Station) : StationKept w i x x := ⟨.refl w i x, fun _ _ => id⟩

/-- The pending authorization table is right at every station where it is not waived. -/
def AuthRightBut (w : Waiver) (s : State) : Prop := ∀ i, ¬ w.auth i → AuthRight (s.st i)

/-- The idle timer is right at every station where it is not waived. -/
def TimersRightBut (w : Waiver) (s : State) : Prop :=
  (∀ i, AbsentHasNoCode (s.st i)) ∧ ∀ i, ¬ w.timer i → TimerRight (s.st i)

/-- Every invariant that holds before holds after, the room of the journal apart, and the waiting commands stay. -/
structure KeptButRoom (w : Waiver) (s t : State) : Prop where
  conserved : ImpressionsConserved s → ImpressionsConserved t
  timers : TimersRightBut w s → TimersRightBut w t
  auth : AuthRightBut w s → AuthRightBut w t
  capacity : WithinCapacity s → WithinCapacity t
  reasons : CloseReasonsRight s → CloseReasonsRight t
  pending : t.pending = s.pending

/-- Every invariant that holds before holds after, and the waiting commands stay. -/
structure Kept (w : Waiver) (s t : State) : Prop extends KeptButRoom w s t where
  room : JournalHasRoom s → JournalHasRoom t

theorem KeptButRoom.trans {w : Waiver} {s t u : State} (h : KeptButRoom w s t) (k : KeptButRoom w t u) :
    KeptButRoom w s u where
  conserved := k.conserved ∘ h.conserved
  timers := k.timers ∘ h.timers
  auth := k.auth ∘ h.auth
  capacity := k.capacity ∘ h.capacity
  reasons := k.reasons ∘ h.reasons
  pending := k.pending.trans h.pending

theorem Kept.refl (w : Waiver) (s : State) : Kept w s s := ⟨⟨id, id, id, id, id, rfl⟩, id⟩

theorem Kept.trans {w : Waiver} {s t u : State} (h : Kept w s t) (k : Kept w t u) : Kept w s u :=
  ⟨h.toKeptButRoom.trans k.toKeptButRoom, k.room ∘ h.room⟩

/-- The pending authorization of station `i`, waived on the way, is right at the end. -/
theorem Kept.authRestored {w : Waiver} {i : StationId} {s t : State} (h : Kept (w.andAuth i) s t)
    (right : AuthRightBut w s → AuthRight (t.st i)) : Kept w s t where
  conserved := h.conserved
  timers := h.timers
  auth before j unwaived := by
    by_cases e : j = i
    · exact e ▸ right before
    · exact h.auth (fun k hk => before k fun x => hk (.inl x)) j fun x => x.elim unwaived e
  room := h.room
  capacity := h.capacity
  reasons := h.reasons
  pending := h.pending

/-- The idle timer of station `i`, waived on the way, is right at the end. -/
theorem Kept.timerRestored {w : Waiver} {i : StationId} {s t : State} (h : Kept (w.andTimer i) s t)
    (right : TimerRight (t.st i)) : Kept w s t where
  conserved := h.conserved
  timers before := by
    have after := h.timers ⟨before.1, fun k hk => before.2 k fun x => hk (.inl x)⟩
    refine ⟨after.1, fun j unwaived => ?_⟩
    by_cases e : j = i
    · exact e ▸ right
    · exact after.2 j fun x => x.elim unwaived e
  auth := h.auth
  room := h.room
  capacity := h.capacity
  reasons := h.reasons
  pending := h.pending

/-! ## The number of sessions (R20) -/

theorem sessions_eq_card (s : State) :
    s.sessions = (Finset.univ.filter fun i => sessionLive (s.st i).session = true).card := by
  have nodup : s.liveStations.Nodup := (List.nodup_finRange 16).filter _
  rw [State.sessions, ← List.toFinset_card_of_nodup nodup]
  congr 1
  ext i
  simp [State.liveStations, allStations]

/-- No session more where no station gains one. -/
theorem sessions_le {s t : State} (h : ∀ i, sessionLive (t.st i).session = true → sessionLive (s.st i).session = true) :
    t.sessions ≤ s.sessions := by
  simp only [sessions_eq_card]
  exact Finset.card_le_card fun i hi => by simp_all

/-- One session more at most where one station alone gains one. -/
theorem sessions_le_succ {s t : State} {i : StationId}
    (others : ∀ j, j ≠ i → sessionLive (t.st j).session = true → sessionLive (s.st j).session = true) :
    t.sessions ≤ s.sessions + 1 := by
  simp only [sessions_eq_card]
  refine le_trans (Finset.card_le_card fun j hj => ?_) (Finset.card_insert_le i _)
  by_cases e : j = i
  · simp [e]
  · simpa [e] using others j e (by simpa using hj)

/-- One session less where a station loses its own and no other gains one. -/
theorem sessions_lt {s t : State} {i : StationId} (before : sessionLive (s.st i).session = true)
    (after : sessionLive (t.st i).session = false)
    (others : ∀ j, j ≠ i → sessionLive (t.st j).session = true → sessionLive (s.st j).session = true) :
    t.sessions < s.sessions := by
  simp only [sessions_eq_card]
  refine Finset.card_lt_card ⟨fun j hj => ?_, fun back => ?_⟩
  · have ne : j ≠ i := by rintro rfl; simp [after] at hj
    simpa using others j ne (by simpa using hj)
  · have := back (by simpa using before : i ∈ _)
    simp [after] at this

/-! ## Updates of one station -/

/-- An update of one station keeps what it keeps of that station. -/
theorem upd_keptButRoom {i : StationId} {f : Station → Station} {s : State} (w : Waiver)
    (h : StationKept w i (s.st i) (f (s.st i))) : KeptButRoom w s (s.upd i f) where
  conserved before j := by
    rw [st_upd]; split
    · exact h.conserved (before i)
    · exact before j
  timers before := by
    refine ⟨fun j => ?_, fun j unwaived => ?_⟩ <;> rw [st_upd] <;> split
    · exact h.absent (before.1 i)
    · exact before.1 j
    · next e => exact h.timer (e ▸ unwaived) (before.1 i) (before.2 i (e ▸ unwaived))
    · exact before.2 j unwaived
  auth before j unwaived := by
    rw [st_upd]; split
    · next e => exact h.auth (e ▸ unwaived) (before i (e ▸ unwaived))
    · exact before j unwaived
  capacity before := by
    have bounded : ∀ j, StationBounded ((s.upd i f).st j) := fun j => by
      rw [st_upd]; split
      · exact h.bounded ⟨before.inFlight i, before.down i, before.upBuffer i, before.codes i⟩
      · exact ⟨before.inFlight j, before.down j, before.upBuffer j, before.codes j⟩
    exact { before with
      inFlight := fun j => (bounded j).1, down := fun j => (bounded j).2.1
      upBuffer := fun j => (bounded j).2.2.1, codes := fun j => (bounded j).2.2.2 }
  reasons before j := by
    rw [st_upd]; split
    · exact h.reasons (before i)
    · exact before j
  pending := rfl

/-- No update of one station that begins no session makes the journal's room smaller. -/
theorem upd_room {i : StationId} {f : Station → Station} {s : State}
    (live : sessionLive (f (s.st i)).session = true → sessionLive (s.st i).session = true) (before : JournalHasRoom s) :
    JournalHasRoom (s.upd i f) := by
  refine le_trans (Nat.add_le_add_left (sessions_le fun j => ?_) _) before
  rw [st_upd]; split
  · next e => exact e ▸ live
  · exact id

theorem upd_kept {i : StationId} {f : Station → Station} {s : State} (w : Waiver)
    (h : StationKept w i (s.st i) (f (s.st i)))
    (live : sessionLive (f (s.st i)).session = true → sessionLive (s.st i).session = true) : Kept w s (s.upd i f) :=
  ⟨upd_keptButRoom w h, upd_room live⟩

/-- An update of a station's conditions keeps everything. -/
theorem updCond_kept (w : Waiver) (i : StationId) (f : Conditions → Conditions) (s : State) : Kept w s (s.updCond i f) :=
  upd_kept w ⟨⟨id, id, id, id, fun _ => id⟩, fun _ _ => id⟩ id

theorem updRecovery_kept (w : Waiver) (i : StationId) (f : Recovery → Recovery) (s : State) :
    Kept w s (s.updRecovery i f) :=
  upd_kept w ⟨⟨id, id, id, id, fun _ => id⟩, fun _ _ => id⟩ id

/-- An update of a session record that leaves its state, its payer and its reasons keeps everything. -/
theorem updSession_kept (w : Waiver) (i : StationId) {f : Session → Session} (s : State)
    (state : (f (s.st i).session).state = (s.st i).session.state)
    (payer : (f (s.st i).session).payer = (s.st i).session.payer)
    (reasons : ReasonsRight (s.st i) → ReasonsRight { s.st i with session := f (s.st i).session }) :
    Kept w s (s.updSession i f) := by
  refine upd_kept w ⟨⟨id, id, id, reasons, fun _ h => ?_⟩, fun _ _ h => ?_⟩ fun h => ?_
  · simpa only [AuthRight, state, payer] using h
  · simpa only [TimerRight, idleEligible, state] using h
  · simpa only [sessionLive, state] using h

/-- An update of a station's line that leaves its presence and its confirmed code keeps everything, within the bounds. -/
theorem updLine_kept (w : Waiver) (i : StationId) {f : StationLine → StationLine} (s : State)
    (present : (f (s.st i).line).present = (s.st i).line.present)
    (confirmed : (f (s.st i).line).confirmed = (s.st i).line.confirmed)
    (bounded : StationBounded (s.st i) → StationBounded { s.st i with line := f (s.st i).line }) :
    Kept w s (s.updLine i f) := by
  refine upd_kept w ⟨⟨id, fun h => ?_, bounded, id, fun _ => id⟩, fun _ _ h => ?_⟩ id
  · simpa only [AbsentHasNoCode, present, confirmed] using h
  · simpa only [TimerRight, idleEligible, confirmed] using h

/-- Meters that count no impressions keep the conservation of impressions, and everything else. -/
theorem updMeters_kept (w : Waiver) (i : StationId) {f : Meters → Meters} (s : State)
    (conserved : Conserved (s.st i) → Conserved { s.st i with meters := f (s.st i).meters }) :
    Kept w s (s.updMeters i f) :=
  upd_kept w ⟨⟨conserved, id, id, id, fun _ => id⟩, fun _ _ => id⟩ id

/-- A station's idle timer judged (R31). -/
def judged (full : Nat) (x : Station) : Station := { x with idleTimer := idleAfter full x }

theorem timerRight_judged (full : Nat) (x : Station) : TimerRight (judged full x) := by
  unfold TimerRight judged idleAfter
  split
  · next h => exact h.symm
  · next h => exact (Bool.not_eq_true _ ▸ h : idleEligible x = false).symm

theorem RestKept.judged {w : Waiver} {i : StationId} {x y : Station} (h : RestKept w i x y) (full : Nat) :
    StationKept w i x (judged full y) :=
  ⟨⟨h.conserved, h.absent, h.bounded, h.reasons, h.auth⟩, fun _ _ _ => timerRight_judged full y⟩

theorem syncIdle_eq (i : StationId) (s : State) : syncIdle i s = s.upd i (judged (seconds s.host.timers.idle)) := rfl

/-- After a judgement the idle timer is right. -/
theorem timerRight_syncIdle (i : StationId) (s : State) : TimerRight ((syncIdle i s).st i) := by
  rw [syncIdle_eq, st_upd_self]
  exact timerRight_judged _ _

/-- An update of a station whose idle timer is judged at once need not keep the timer. -/
theorem syncIdle_upd_keptButRoom {i : StationId} {f : Station → Station} {s : State} (w : Waiver)
    (h : RestKept w i (s.st i) (f (s.st i))) : KeptButRoom w s (syncIdle i (s.upd i f)) := by
  rw [syncIdle_eq, upd_upd]
  exact upd_keptButRoom w (h.judged _)

theorem syncIdle_upd_kept {i : StationId} {f : Station → Station} {s : State} (w : Waiver)
    (h : RestKept w i (s.st i) (f (s.st i)))
    (live : sessionLive (f (s.st i)).session = true → sessionLive (s.st i).session = true) :
    Kept w s (syncIdle i (s.upd i f)) := by
  rw [syncIdle_eq, upd_upd]
  exact upd_kept w (h.judged _) live

theorem syncIdle_kept (w : Waiver) (i : StationId) (s : State) : Kept w s (syncIdle i s) := by
  rw [syncIdle_eq]
  exact upd_kept w ((RestKept.refl w i _).judged _) id

/-! ## Updates of the other blocks -/

/-- Two states that differ in no station, in no list that has a bound but the journal, and in no place of the frame keep one
another's invariants. -/
theorem keptButRoom_of_same {s t : State} (w : Waiver) (st : ∀ i, t.st i = s.st i)
    (received : t.host.received.length ≤ Config.receiveRoom ∨ t.host.received = s.host.received)
    (accounts : t.accounts.accounts = s.accounts.accounts) (deny : t.cards.deny = s.cards.deny)
    (standIn : t.cards.standIn = s.cards.standIn) (slot : t.slot = s.slot)
    (strap : t.host.stationsHigh = s.host.stationsHigh) (pending : t.pending = s.pending) : KeptButRoom w s t where
  conserved before i := by rw [st]; exact before i
  timers before := ⟨fun i => by rw [st]; exact before.1 i, fun i unwaived => by rw [st]; exact before.2 i unwaived⟩
  auth before i unwaived := by rw [st]; exact before i unwaived
  capacity before :=
    { inFlight := fun i => by rw [st]; exact before.inFlight i
      down := fun i => by rw [st]; exact before.down i
      upBuffer := fun i => by rw [st]; exact before.upBuffer i
      received := received.elim id fun e => by rw [e]; exact before.received
      accounts := by rw [accounts]; exact before.accounts
      accountOrder := by rw [accounts]; exact before.accountOrder
      deny := by rw [deny]; exact before.deny
      standIn := by rw [standIn]; exact before.standIn
      slot := by
        have := before.slot
        rwa [State.frameSize, strap, slot, ← State.frameSize]
      codes := fun i => by rw [st]; exact before.codes i }
  reasons before i := by rw [st]; exact before i
  pending := pending

theorem room_of_same {s t : State} (st : ∀ i, t.st i = s.st i) (records : t.journal.records.length ≤ s.journal.records.length)
    (before : JournalHasRoom s) : JournalHasRoom t :=
  le_trans (Nat.add_le_add records (sessions_le fun i => by rw [st]; exact id)) before

/-- An update of the host line that leaves the receive queue and the strap keeps everything. -/
theorem updHost_kept (w : Waiver) (f : HostLine → HostLine) (s : State) (received : (f s.host).received = s.host.received)
    (strap : (f s.host).stationsHigh = s.host.stationsHigh) : Kept w s (s.updHost f) :=
  ⟨keptButRoom_of_same w (fun _ => rfl) (.inr received) rfl rfl rfl rfl strap rfl, id⟩

theorem updJournal_kept (w : Waiver) (f : JournalUnit → JournalUnit) (s : State)
    (records : (f s.journal).records.length ≤ s.journal.records.length) : Kept w s (s.updJournal f) :=
  ⟨keptButRoom_of_same w (fun _ => rfl) (.inr rfl) rfl rfl rfl rfl rfl rfl, room_of_same (fun _ => rfl) records⟩

theorem updCharge_kept (w : Waiver) (f : ChargeUnit → ChargeUnit) (s : State) : Kept w s (s.updCharge f) :=
  ⟨keptButRoom_of_same w (fun _ => rfl) (.inr rfl) rfl rfl rfl rfl rfl rfl, id⟩

/-- An update of the card authorization unit keeps everything where its two lists stay within bounds. -/
theorem updCards_kept (w : Waiver) (f : CardUnit → CardUnit) (s : State)
    (deny : s.cards.deny.length ≤ Config.denyRoom → (f s.cards).deny.length ≤ Config.denyRoom)
    (standIn : s.cards.standIn.length ≤ Config.standInRoom → (f s.cards).standIn.length ≤ Config.standInRoom) :
    Kept w s (s.updCards f) :=
  ⟨⟨id, id, id, fun h => { h with deny := deny h.deny, standIn := standIn h.standIn }, id, rfl⟩, id⟩

/-- An update of the account unit keeps everything where its table stays within bounds and in order. -/
theorem updAccounts_kept (w : Waiver) (f : AccountUnit → AccountUnit) (s : State)
    (accounts : s.accounts.accounts.length ≤ Config.accountRoom →
      s.accounts.accounts.Pairwise (fun a b => a.number < b.number) →
      (f s.accounts).accounts.length ≤ Config.accountRoom ∧
        (f s.accounts).accounts.Pairwise fun a b => a.number < b.number) :
    Kept w s (s.updAccounts f) :=
  ⟨⟨id, id, id, fun h => { h with
    accounts := (accounts h.accounts h.accountOrder).1, accountOrder := (accounts h.accounts h.accountOrder).2 }, id, rfl⟩, id⟩

end Sys2Proof.Machine
end

section
/-!
PROOFS. What the shared operations keep, part by part: conditions and messages, accounts and charges, the journal, the pending
authorization table, the sheet permits, and the sessions (chapters 1 to 4 and 6 to 8).
-/

namespace Sys2Proof.Machine

/-! ## Conditions and messages -/

section
variable (w : Waiver) (i : StationId) (s : State)

theorem raiseAnomaly_kept (k : AnomalyKind) : Kept w s (raiseAnomaly i k s) := updCond_kept w i _ s

theorem raiseStation_kept : Kept w s (raiseStation i s) := upd_kept w ⟨⟨id, id, id, id, fun _ => id⟩, fun _ _ => id⟩ id

theorem raiseJam_kept (k : JamKind) (c : Cause) (n : Nat) : Kept w s (raiseJam i k c n s) := updCond_kept w i _ s

theorem raiseJournal_kept : Kept w s (raiseJournal s) := updHost_kept w _ s rfl rfl

theorem answerLine_kept (n : Nat) (v : Verdict) : Kept w s (answerLine i n v s) :=
  updLine_kept w i s rfl rfl id

end

theorem length_replaceNewestShow (m : DownMsg) (xs : List DownMsg) {ys : List DownMsg}
    (h : replaceNewestShow m xs = some ys) : ys.length = xs.length := by
  induction xs generalizing ys with
  | nil => cases h
  | cons x rest ih =>
    unfold replaceNewestShow at h
    split at h
    · next rest' e => cases h; simp [ih e]
    · split at h
      · cases h; rfl
      · cases h

theorem length_removeOldestShow (xs : List DownMsg) {ys : List DownMsg} (h : removeOldestShow xs = some ys) :
    ys.length + 1 = xs.length := by
  induction xs generalizing ys with
  | nil => cases h
  | cons x rest ih =>
    unfold removeOldestShow at h
    split at h
    · cases h; rfl
    · obtain ⟨rest', e, rfl⟩ := Option.map_eq_some_iff.1 h
      simp [ih e]

/-- A message offered to a full queue does not make it longer (R17). -/
theorem length_offerToFull {m : DownMsg} {l : StationLine} {q : List DownMsg} (h : offerToFull m l = some q) :
    q.length = l.down.length := by
  have parts := congrArg List.length (List.take_append_drop (begunCount l) l.down)
  rw [List.length_append] at parts
  simp only [offerToFull] at h
  split at h <;> obtain ⟨rest, e, rfl⟩ := Option.map_eq_some_iff.1 h
  · rw [List.length_append, length_replaceNewestShow m _ e, parts]
  · have := length_removeOldestShow _ e
    simp only [List.length_append, List.length_singleton]
    omega

/-- An update of a station's downstream queue keeps everything where it stays within its bound. -/
theorem updDown_kept (w : Waiver) (i : StationId) (f : List DownMsg → List DownMsg) (s : State)
    (bound : (s.st i).line.down.length ≤ Config.downQueueRoom →
      (f (s.st i).line.down).length ≤ Config.downQueueRoom) :
    Kept w s (s.updLine i fun l => { l with down := f l.down }) :=
  updLine_kept w i s rfl rfl fun ⟨queue, down, rest⟩ => ⟨queue, bound down, rest⟩

theorem offer_kept (w : Waiver) (i : StationId) (m : DownMsg) (s : State) : Kept w s (offer i m s) := by
  simp only [offer]
  split
  · exact .refl w s
  · split
    · next room => exact updDown_kept w i (· ++ [m]) s fun _ => by simpa using room
    · split
      · next q e => exact updDown_kept w i (fun _ => q) s fun h => by rwa [length_offerToFull e]
      · exact raiseAnomaly_kept w i s _

/-! ## Accounts and charges -/

theorem mem_putRecord {a b : Account} {xs : List Account} (h : b ∈ putRecord a xs) : b = a ∨ b ∈ xs := by
  induction xs with
  | nil => simpa [putRecord] using h
  | cons x rest ih =>
    unfold putRecord at h
    split at h
    · simpa using h
    · split at h
      · rcases List.mem_cons.1 h with e | m
        · exact .inl e
        · exact .inr (List.mem_cons_of_mem _ m)
      · rcases List.mem_cons.1 h with e | m
        · exact .inr (e ▸ List.mem_cons_self)
        · exact (ih m).imp_right (List.mem_cons_of_mem _)

/-- A record put keeps the table in rising order of the numbers (R103). -/
theorem putRecord_ordered (a : Account) {xs : List Account} (h : xs.Pairwise fun a b => a.number < b.number) :
    (putRecord a xs).Pairwise fun a b => a.number < b.number := by
  induction xs with
  | nil => simp [putRecord]
  | cons x rest ih =>
    obtain ⟨below, tail⟩ := List.pairwise_cons.1 h
    unfold putRecord
    split
    · next lt => exact List.pairwise_cons.2 ⟨fun b hb => (List.mem_cons.1 hb).elim (fun e => e ▸ lt) fun m => lt.trans (below b m), h⟩
    · split
      · next e => exact List.pairwise_cons.2 ⟨fun b hb => e ▸ below b hb, tail⟩
      · next notLt ne =>
        exact List.pairwise_cons.2 ⟨fun b hb => (mem_putRecord hb).elim (fun e => by subst e; omega) (below b), ih tail⟩

theorem length_putRecord_le (a : Account) (xs : List Account) : (putRecord a xs).length ≤ xs.length + 1 := by
  induction xs with
  | nil => simp [putRecord]
  | cons x rest ih =>
    unfold putRecord
    split
    · simp
    · split
      · simp
      · simpa using ih

/-- A record put over the stored one of its number makes the table no longer (R103). -/
theorem length_putRecord_stored {a : Account} {xs : List Account} (h : xs.Pairwise fun a b => a.number < b.number)
    (stored : ∃ b ∈ xs, b.number = a.number) : (putRecord a xs).length = xs.length := by
  induction xs with
  | nil => simp at stored
  | cons x rest ih =>
    obtain ⟨below, tail⟩ := List.pairwise_cons.1 h
    obtain ⟨b, mem, number⟩ := stored
    unfold putRecord
    split
    · next lt =>
      rcases List.mem_cons.1 mem with e | m
      · subst e; omega
      · have := below b m; omega
    · split
      · rfl
      · next notLt ne =>
        have inRest : b ∈ rest := (List.mem_cons.1 mem).resolve_left fun e => ne (by rw [← number, e])
        simp [ih tail ⟨b, inRest, number⟩]

/-- A record of a stored number, or of a new one with room in the table, can be put (R103). -/
theorem putAccount_kept (w : Waiver) (a : Account) (s : State)
    (h : (∃ b, findAccount s.accounts a.number = some b) ∨ s.accounts.accounts.length < Config.accountRoom) :
    Kept w s (putAccount a s) := by
  refine updAccounts_kept w _ s fun bound order => ⟨?_, putRecord_ordered a order⟩
  rcases h with ⟨b, found⟩ | room
  · have stored : ∃ b ∈ s.accounts.accounts, b.number = a.number :=
      ⟨b, List.mem_of_find?_eq_some found, findAccount_number found⟩
    simpa [length_putRecord_stored order stored] using bound
  · exact (length_putRecord_le a _).trans room

/-- A record changed but for its number can be put back. -/
theorem putStored_kept (w : Waiver) {n : Nat} {a b : Account} {s : State} (found : findAccount s.accounts n = some a)
    (number : b.number = a.number) : Kept w s (putAccount b s) :=
  putAccount_kept w b s (.inl ⟨a, by rw [number, findAccount_number found]; exact found⟩)

theorem debit_kept (w : Waiver) {n amount : Nat} {s t : State} (h : debit n amount s = some t) : Kept w s t := by
  obtain ⟨a, found, -, rfl⟩ := debit_spec h
  exact putStored_kept w found rfl

theorem creditAccount_kept (w : Waiver) (i : StationId) (n amount : Nat) (s : State) :
    Kept w s (creditAccount i n amount s) := by
  simp only [creditAccount]
  split
  · exact .refl w s
  · next a found =>
    split
    · exact putStored_kept w found rfl
    · exact (putStored_kept (b := { a with balance := Config.balanceTop }) w found rfl).trans
        (updSession_kept w i _ rfl rfl id)

theorem settleAccount_kept (w : Waiver) (n spent : Nat) (s : State) : Kept w s (settleAccount n spent s) := by
  simp only [settleAccount]
  split
  · exact .refl w s
  · next found => exact putStored_kept w found rfl

theorem fundsCheck_kept (w : Waiver) {x : Session} {amount : Nat} {s t : State} (h : fundsCheck x amount s = some t) :
    Kept w s t := by
  simp only [fundsCheck] at h
  split at h
  · exact debit_kept w h
  · split at h
    · cases h; exact .refl w _
    · cases h
  · split at h
    · cases h; exact .refl w _
    · cases h
  · cases h

/-- A funds check that is passed changes no station. -/
theorem fundsCheck_st {x : Session} {amount : Nat} {s t : State} (h : fundsCheck x amount s = some t) (i : StationId) :
    t.st i = s.st i := by
  simp only [fundsCheck] at h
  split at h
  · obtain ⟨a, -, -, rfl⟩ := debit_spec h
    rfl
  · split at h
    · cases h; rfl
    · cases h
  · split at h
    · cases h; rfl
    · cases h
  · cases h

theorem chargeSheet_kept (w : Waiver) (i : StationId) (p : SheetSpec) (s : State) : Kept w s (chargeSheet i p s).2 := by
  simp only [chargeSheet]
  split
  · exact .refl w s
  · exact .refl w s
  · split
    · exact .refl w s
    · next h => exact (fundsCheck_kept w h).trans (updSession_kept w i _ rfl rfl id)

theorem creditSheet_kept (w : Waiver) (i : StationId) (e : InFlight) (s : State) : Kept w s (creditSheet i e s) := by
  simp only [creditSheet]
  split
  · split
    · exact (updSession_kept w i s rfl rfl id).trans (creditAccount_kept w i _ _ _)
    · exact updSession_kept w i s rfl rfl id
  · exact .refl w s

theorem closingCent_kept (w : Waiver) (i : StationId) (s : State) : Kept w s (closingCent i s).2.2 := by
  simp only [closingCent]
  split
  · exact .refl w s
  · split
    · next h => exact fundsCheck_kept w h
    · exact .refl w s

theorem closingCent_st (i j : StationId) (s : State) : (closingCent i s).2.2.st j = s.st j := by
  simp only [closingCent]
  split
  · rfl
  · split
    · next h => exact fundsCheck_st h j
    · rfl

theorem offerShow_kept (w : Waiver) (i : StationId) (s : State) : Kept w s (offerShow i s) := offer_kept w i _ s

/-! ## The pending authorization table -/

/-- A new entry keeps everything where it agrees with the session of its station. -/
theorem makeEntry_kept (w : Waiver) (i : StationId) (k : AuthKind) (amount : Nat) (s : State)
    (agrees : AuthRight (s.st i) → ∀ e : AuthEntry, e.kind = k → AuthRight { s.st i with auth := some e }) :
    Kept w s (makeEntry i k amount s) := by
  unfold makeEntry
  refine Kept.trans (Kept.trans (updCards_kept w (fun c =>
    { c with nextReference := nextShort (freeReference s 16 s.cards.nextReference) }) s id id) ?_) (updCond_kept w i _ _)
  exact upd_kept w ⟨⟨id, id, id, id, fun _ h => agrees h _ rfl⟩, fun _ _ => id⟩ id

theorem authRight_increment {x : Station} {e : AuthEntry} (kind : e.kind = .increment)
    (state : x.session.state = .opened ∨ x.session.state = .stalled ∨ x.session.state = .draining)
    (card : ∃ t, x.session.payer = some (.card t)) : AuthRight { x with auth := some e } := by
  refine ⟨fun h => ?_, fun e' he h => ?_, fun _ _ _ => ⟨state, card⟩⟩
  · rcases state with st | st | st <;> simp [st] at h
  · cases he; rw [kind] at h; cases h

theorem authRight_initial {x : Station} {e : AuthEntry} (kind : e.kind = .initial)
    (state : x.session.state = .authorizing) : AuthRight { x with auth := some e } :=
  ⟨fun _ => ⟨e, rfl, kind⟩, fun _ _ _ => state, fun e' he h => by cases he; rw [kind] at h; cases h⟩

/-- With no entry the table is right where the session is not AUTHORIZING. -/
theorem authRight_none {x : Station} (noEntry : x.auth = none) (state : x.session.state ≠ .authorizing) : AuthRight x :=
  ⟨fun h => absurd h state, fun e he => by simp [noEntry] at he, fun e he => by simp [noEntry] at he⟩

/-- A session in NONE has no entry. -/
theorem AuthRight.noEntry {x : Station} (h : AuthRight x) (state : x.session.state = .none) : x.auth = none := by
  obtain ⟨-, initial, increment⟩ := h
  cases entry : x.auth with
  | none => rfl
  | some e =>
    cases kind : e.kind with
    | initial => rw [initial e entry kind] at state; cases state
    | increment => rcases (increment e entry kind).1 with st | st | st <;> rw [st] at state <;> cases state

/-- The entry of a station removed: what it does to the station, but for its conditions. -/
theorem removeEntry_auth (i : StationId) (c : Option CancelCause) (s : State) : ((removeEntry i c s).st i).auth = none := by
  simp only [removeEntry]
  split
  · assumption
  · split
    · simp [withdrawAuthRequest]
    · split <;> simp [raiseAuthCancel]

theorem removeEntry_session (i j : StationId) (c : Option CancelCause) (s : State) :
    ((removeEntry i c s).st j).session = (s.st j).session := by
  by_cases e : j = i
  · subst e
    simp only [removeEntry]
    split
    · rfl
    · split
      · simp [withdrawAuthRequest]
      · split <;> simp [raiseAuthCancel]
  · rw [(removeEntry_local i c s).others j e]

/-- An update of a station's entry keeps everything but the agreement of the table there. -/
theorem clearEntry_kept {w : Waiver} {i : StationId} {s : State}
    (agrees : ¬ w.auth i → AuthRight (s.st i) → AuthRight { s.st i with auth := none }) :
    Kept w s (s.upd i fun x => { x with auth := none }) :=
  upd_kept w ⟨⟨id, id, id, id, agrees⟩, fun _ _ => id⟩ id

/-- The removal of an entry keeps everything where the table agrees with the session without it. -/
theorem removeEntry_kept {w : Waiver} {i : StationId} {s : State} (c : Option CancelCause)
    (agrees : ¬ w.auth i → AuthRight (s.st i) → AuthRight { s.st i with auth := none }) :
    Kept w s (removeEntry i c s) := by
  have cleared := clearEntry_kept agrees
  simp only [removeEntry]
  split
  · exact .refl w s
  · split
    · exact cleared.trans (updCond_kept w i _ _)
    · split
      · exact cleared.trans (updCond_kept w i _ _)
      · exact cleared

/-! ## The sheet permits (chapter 4) -/

theorem activity_kept (w : Waiver) (i : StationId) (s : State) : Kept w s (activity i s) :=
  upd_kept w ⟨⟨id, id, id, id, fun _ => id⟩, fun _ _ h => by simpa [TimerRight, idleEligible] using h⟩ id

theorem setRequest_kept (w : Waiver) (i : StationId) (r : RequestState) (s : State) : Kept w s (setRequest i r s) :=
  syncIdle_upd_kept w ⟨id, id, id, id, fun _ => id⟩ id

theorem setHold_kept (w : Waiver) (i : StationId) (h : HoldState) (s : State) : Kept w s (setHold i h s) :=
  syncIdle_upd_kept w ⟨id, id, id, id, fun _ => id⟩ id

/-- The idle timer is judged by the queue and the meters do not enter. -/
theorem setQueue_updMeters (i : StationId) (q : List InFlight) (f : Meters → Meters) (s : State) :
    setQueue i q (s.updMeters i f) = syncIdle i (s.upd i fun x => { x with queue := q, meters := f x.meters }) := by
  simp only [setQueue, State.updMeters, upd_upd]

theorem updMeters_setQueue (i : StationId) (q : List InFlight) (f : Meters → Meters) (s : State) :
    (setQueue i q s).updMeters i f = syncIdle i (s.upd i fun x => { x with queue := q, meters := f x.meters }) := by
  simp only [setQueue, syncIdle, State.updMeters, upd_upd]
  rfl

/-- A queue and meters that change together keep the conservation of impressions and everything else. -/
theorem moveSheet_kept (w : Waiver) (i : StationId) {q : List InFlight} {f : Meters → Meters} {s : State}
    (conserved : Conserved (s.st i) → Conserved { s.st i with queue := q, meters := f (s.st i).meters })
    (bound : (s.st i).queue.length ≤ Config.inFlightRoom → q.length ≤ Config.inFlightRoom) :
    Kept w s (syncIdle i (s.upd i fun x => { x with queue := q, meters := f x.meters })) :=
  syncIdle_upd_kept w ⟨conserved, id, fun ⟨queue, rest⟩ => ⟨bound queue, rest⟩, id, fun _ => id⟩ id

theorem addMeter_mod (n k : Nat) : addMeter n k % Config.meterModulus = (n + k) % Config.meterModulus :=
  Nat.mod_mod _ _

theorem impressionsOf_append (q : List InFlight) (e : InFlight) :
    impressionsOf (q ++ [e]) = impressionsOf q + e.impressions := by
  simp [impressionsOf]

theorem impressionsOf_cons (e : InFlight) (q : List InFlight) : impressionsOf (e :: q) = e.impressions + impressionsOf q := by
  simp [impressionsOf]

theorem pushEntry_kept (w : Waiver) (i : StationId) (k : EntryKind) (n c : Nat) (p : SheetSpec) (s : State)
    (room : (s.st i).queue.length < Config.inFlightRoom) : Kept w s (pushEntry i k n c p s) := by
  simp only [pushEntry, updMeters_setQueue]
  refine moveSheet_kept w i (f := fun m => { m with granted := addMeter m.granted n }) (fun h => ?_) fun _ => by simpa using room
  simp only [Conserved, impressionsOf_append, addMeter_mod] at h ⊢
  rw [Nat.add_mod, h]
  simp [Nat.add_assoc]

/-- The entry that a session's increment makes agrees with the session. -/
theorem incrementEntry_kept (w : Waiver) (i : StationId) (n : Nat) (s : State)
    (opened : (s.st i).session.state = .opened) (card : incrementOpen s (s.st i).session = true) :
    Kept w s (makeEntry i .increment n s) := by
  refine makeEntry_kept w i _ _ s fun _ e kind => authRight_increment kind (.inl opened) ?_
  unfold incrementOpen at card
  split at card
  · next t payer => exact ⟨t, payer⟩
  · simp at card

theorem afterGo_kept (w : Waiver) (i : StationId) (s : State) (opened : (s.st i).session.state = .opened) :
    Kept w s (afterGo i s) := by
  simp only [afterGo]
  split
  · next h => exact incrementEntry_kept w i _ s opened h.1
  · exact .refl w s

theorem askIncrement_kept (w : Waiver) (i : StationId) (s : State) (opened : (s.st i).session.state = .opened) :
    Kept w s (askIncrement i s).2 := by
  simp only [askIncrement]
  split
  · next h =>
    split
    · exact incrementEntry_kept w i _ s opened h
    · split <;> exact .refl w s
  · exact .refl w s

/-! ### What an evaluation leaves of a session -/

/-- The session records of all stations have the state, the payer and the reasons that they had. -/
def SameSessions (s t : State) : Prop :=
  ∀ j, (t.st j).session.state = (s.st j).session.state ∧ (t.st j).session.payer = (s.st j).session.payer ∧
    (t.st j).session.closeReason = (s.st j).session.closeReason ∧
    (t.st j).session.closePending = (s.st j).session.closePending

theorem SameSessions.refl (s : State) : SameSessions s s := fun _ => ⟨rfl, rfl, rfl, rfl⟩

theorem SameSessions.trans {s t u : State} (h : SameSessions s t) (k : SameSessions t u) : SameSessions s u := fun j =>
  ⟨(k j).1.trans (h j).1, (k j).2.1.trans (h j).2.1, (k j).2.2.1.trans (h j).2.2.1, (k j).2.2.2.trans (h j).2.2.2⟩

theorem SameSessions.state {s t : State} (h : SameSessions s t) (j : StationId) :
    (t.st j).session.state = (s.st j).session.state := (h j).1

/-- An update of one station that leaves these of its session leaves them everywhere. -/
theorem upd_sameSessions {s : State} {i : StationId} {f : Station → Station}
    (h : (f (s.st i)).session.state = (s.st i).session.state ∧ (f (s.st i)).session.payer = (s.st i).session.payer ∧
      (f (s.st i)).session.closeReason = (s.st i).session.closeReason ∧
      (f (s.st i)).session.closePending = (s.st i).session.closePending) : SameSessions s (s.upd i f) := fun j => by
  rw [st_upd]
  split
  · next e => exact e ▸ h
  · exact ⟨rfl, rfl, rfl, rfl⟩

theorem sameSessions_of_st {s t : State} (h : ∀ j, t.st j = s.st j) : SameSessions s t := fun j => by simp [h j]

theorem offer_sameSessions (i : StationId) (m : DownMsg) (s : State) : SameSessions s (offer i m s) := by
  simp only [offer]
  split
  · exact .refl s
  · split
    · exact upd_sameSessions ⟨rfl, rfl, rfl, rfl⟩
    · split <;> exact upd_sameSessions ⟨rfl, rfl, rfl, rfl⟩

theorem offerShow_sameSessions (i : StationId) (s : State) : SameSessions s (offerShow i s) := offer_sameSessions i _ s

theorem makeEntry_sameSessions (i : StationId) (k : AuthKind) (n : Nat) (s : State) : SameSessions s (makeEntry i k n s) :=
  ((sameSessions_of_st fun _ => rfl : SameSessions s (s.updCards _)).trans (upd_sameSessions ⟨rfl, rfl, rfl, rfl⟩)).trans
    (upd_sameSessions ⟨rfl, rfl, rfl, rfl⟩)

theorem syncIdle_sameSessions (i : StationId) (s : State) : SameSessions s (syncIdle i s) :=
  upd_sameSessions ⟨rfl, rfl, rfl, rfl⟩

theorem setRequest_sameSessions (i : StationId) (r : RequestState) (s : State) : SameSessions s (setRequest i r s) :=
  (upd_sameSessions ⟨rfl, rfl, rfl, rfl⟩).trans (syncIdle_sameSessions i _)

theorem setQueue_sameSessions (i : StationId) (q : List InFlight) (s : State) : SameSessions s (setQueue i q s) :=
  (upd_sameSessions ⟨rfl, rfl, rfl, rfl⟩).trans (syncIdle_sameSessions i _)

theorem pushEntry_sameSessions (i : StationId) (k : EntryKind) (n c : Nat) (p : SheetSpec) (s : State) :
    SameSessions s (pushEntry i k n c p s) :=
  (setQueue_sameSessions i _ s).trans (upd_sameSessions ⟨rfl, rfl, rfl, rfl⟩)

theorem chargeSheet_sameSessions (i : StationId) (p : SheetSpec) (s : State) : SameSessions s (chargeSheet i p s).2 := by
  simp only [chargeSheet]
  split
  · exact .refl s
  · exact .refl s
  · split
    · exact .refl s
    · next h => exact (sameSessions_of_st (fundsCheck_st h)).trans (upd_sameSessions ⟨rfl, rfl, rfl, rfl⟩)

theorem afterGo_sameSessions (i : StationId) (s : State) : SameSessions s (afterGo i s) := by
  simp only [afterGo]
  split
  · exact makeEntry_sameSessions i _ _ s
  · exact .refl s

theorem askIncrement_sameSessions (i : StationId) (s : State) : SameSessions s (askIncrement i s).2 := by
  simp only [askIncrement]
  split
  · split
    · exact makeEntry_sameSessions i _ _ s
    · split <;> exact .refl s
  · exact .refl s

theorem grantCharged_sameSessions (i : StationId) (n c : Nat) (p : SheetSpec) (s : State) :
    SameSessions s (grantCharged i n c p s) := by
  have h := (pushEntry_sameSessions i .charged n c p s).trans (offerShow_sameSessions i _)
  simp only [grantCharged]
  split
  · exact h.trans (afterGo_sameSessions i _)
  · exact h

/-- What a SHORT outcome answers leaves of the state: what the increment question leaves, or the state itself (R67). -/
theorem answerShort_state (i : StationId) (s : State) : (answerShort i s).2 = (askIncrement i s).2 ∨ (answerShort i s).2 = s := by
  simp only [answerShort]
  split
  · left; split <;> rename_i e <;> rw [e]
  · exact .inr rfl

theorem evaluateCharge_sameSessions (i : StationId) (p : SheetSpec) (s : State) :
    SameSessions s (evaluateCharge i p s).2 := by
  have h := chargeSheet_sameSessions i p s
  simp only [evaluateCharge]
  split <;> rename_i e <;> rw [e] at h
  · exact h
  · exact h
  · exact h.trans (grantCharged_sameSessions i _ _ p _)
  · rcases answerShort_state i _ with a | a <;> rw [a]
    · exact h.trans (askIncrement_sameSessions i _)
    · exact h

/-- What an evaluation does to the state, said once: nothing, a service sheet with a place in the queue, or a charge at an OPEN
session with hold NONE and a place in the queue (R64). -/
theorem evaluate_cases (i : StationId) (p : SheetSpec) (s : State) :
    ((evaluate i p s).2 = s ∧ (evaluate i p s).1 ≠ .go) ∨
    ((s.st i).queue.length < Config.inFlightRoom ∧ servesFree (s.st i).hold = true ∧
      evaluate i p s = (.go, grantService i p s)) ∨
    ((s.st i).queue.length < Config.inFlightRoom ∧ (s.st i).session.state = .opened ∧ (s.st i).hold = .none ∧
      evaluate i p s = evaluateCharge i p s) := by
  simp only [evaluate]
  split
  · exact .inl ⟨rfl, by simp⟩
  · next someSession =>
    split
    · exact .inl ⟨rfl, by simp⟩
    · next notStalled =>
      split
      · exact .inl ⟨rfl, by simp⟩
      · next notDraining =>
        split
        · exact .inl ⟨rfl, by simp⟩
        · next notRequested =>
          split
          · exact .inl ⟨rfl, by simp⟩
          · split
            · exact .inl ⟨rfl, by simp⟩
            · next room =>
              split
              · next free => exact .inr (.inl ⟨Nat.lt_of_not_le room, free, rfl⟩)
              · next charged =>
                refine .inr (.inr ⟨Nat.lt_of_not_le room, ?_, ?_, rfl⟩)
                · revert someSession notStalled notDraining
                  cases (s.st i).session.state <;> simp_all [noSession]
                · revert charged notRequested
                  cases (s.st i).hold <;> simp [servesFree]

theorem evaluate_sameSessions (i : StationId) (p : SheetSpec) (s : State) : SameSessions s (evaluate i p s).2 := by
  rcases evaluate_cases i p s with ⟨e, -⟩ | ⟨-, -, e⟩ | ⟨-, -, -, e⟩ <;> rw [e]
  · exact .refl s
  · exact pushEntry_sameSessions i _ _ _ p s
  · exact evaluateCharge_sameSessions i p s

/-- What a reevaluation does to the state: nothing with no request waiting, else an evaluation whose answer goes to the request
and, where it is final, to the line (R68). -/
theorem reevaluate_cases (i : StationId) (s : State) :
    ((s.st i).request = .idle ∧ reevaluate i s = s) ∨
    ∃ n p c left, (s.st i).request = .waiting n p c left ∧
      ((∃ c', (evaluate i p s).1 = .wait c' ∧ reevaluate i s = setRequest i (.waiting n p c' left) (evaluate i p s).2) ∨
        ((∀ c', (evaluate i p s).1 ≠ .wait c') ∧
          reevaluate i s = answerLine i n (evaluate i p s).1 (setRequest i .idle (evaluate i p s).2))) := by
  simp only [reevaluate]
  split
  · next idle => exact .inl ⟨idle, rfl⟩
  · next n p c left waiting =>
    refine .inr ⟨n, p, c, left, waiting, ?_⟩
    split
    · next c' s' e => exact .inl ⟨c', by rw [e], by rw [e]⟩
    · next v s' notWait e => exact .inr ⟨fun c' h => notWait c' (by rwa [e] at h), by rw [e]⟩

theorem reevaluate_sameSessions (i : StationId) (s : State) : SameSessions s (reevaluate i s) := by
  rcases reevaluate_cases i s with ⟨-, e⟩ | ⟨n, p, c, left, -, ⟨c', -, e⟩ | ⟨-, e⟩⟩ <;> rw [e]
  · exact .refl s
  · exact (evaluate_sameSessions i p s).trans (setRequest_sameSessions i _ _)
  · exact ((evaluate_sameSessions i p s).trans (setRequest_sameSessions i _ _)).trans
      (upd_sameSessions ⟨rfl, rfl, rfl, rfl⟩)

/-! ### What an evaluation keeps -/

theorem chargeSheet_queue (i : StationId) (p : SheetSpec) (s : State) :
    ((chargeSheet i p s).2.st i).queue = (s.st i).queue := by
  simp only [chargeSheet]
  split
  · rfl
  · rfl
  · split
    · rfl
    · next h => simp [fundsCheck_st h]

theorem grantCharged_kept (w : Waiver) (i : StationId) (n c : Nat) (p : SheetSpec) (s : State)
    (room : (s.st i).queue.length < Config.inFlightRoom) (opened : (s.st i).session.state = .opened) :
    Kept w s (grantCharged i n c p s) := by
  have same := (pushEntry_sameSessions i .charged n c p s).trans (offerShow_sameSessions i _)
  have h := (pushEntry_kept w i .charged n c p s room).trans (offerShow_kept w i _)
  simp only [grantCharged]
  split
  · exact h.trans (afterGo_kept w i _ ((same.state i).trans opened))
  · exact h

theorem evaluateCharge_kept (w : Waiver) (i : StationId) (p : SheetSpec) (s : State)
    (room : (s.st i).queue.length < Config.inFlightRoom) (opened : (s.st i).session.state = .opened) :
    Kept w s (evaluateCharge i p s).2 := by
  have h := chargeSheet_kept w i p s
  have queue := chargeSheet_queue i p s
  have state := ((chargeSheet_sameSessions i p s).state i).trans opened
  simp only [evaluateCharge]
  split <;> rename_i e <;> rw [e] at h queue state
  · exact h
  · exact h
  · exact h.trans (grantCharged_kept w i _ _ p _ (queue ▸ room) state)
  · rcases answerShort_state i _ with a | a <;> rw [a]
    · exact h.trans (askIncrement_kept w i _ state)
    · exact h

theorem evaluate_kept (w : Waiver) (i : StationId) (p : SheetSpec) (s : State) : Kept w s (evaluate i p s).2 := by
  rcases evaluate_cases i p s with ⟨e, -⟩ | ⟨room, -, e⟩ | ⟨room, opened, -, e⟩ <;> rw [e]
  · exact .refl w s
  · exact pushEntry_kept w i _ _ _ p s room
  · exact evaluateCharge_kept w i p s room opened

theorem reevaluate_kept (w : Waiver) (i : StationId) (s : State) : Kept w s (reevaluate i s) := by
  rcases reevaluate_cases i s with ⟨-, e⟩ | ⟨n, p, c, left, -, ⟨c', -, e⟩ | ⟨-, e⟩⟩ <;> rw [e]
  · exact .refl w s
  · exact (evaluate_kept w i p s).trans (setRequest_kept w i _ _)
  · exact ((evaluate_kept w i p s).trans (setRequest_kept w i _ _)).trans (answerLine_kept w i _ _ _)

theorem pickRaised_kept (w : Waiver) (i : StationId) (n : Nat) (p : SheetSpec) (s : State) :
    Kept w s (pickRaised i n p s) := by
  have h := ((activity_kept w i s).trans (setRequest_kept w i .idle _)).trans (evaluate_kept w i p _)
  simp only [pickRaised]
  split <;> rename_i e <;> rw [e] at h
  · exact (h.trans (setRequest_kept w i _ _)).trans (answerLine_kept w i _ _ _)
  · exact h.trans (answerLine_kept w i _ _ _)

theorem pickWithdrawn_kept (w : Waiver) (i : StationId) (n : Nat) (s : State) : Kept w s (pickWithdrawn i n s) := by
  simp only [pickWithdrawn]
  split
  · split
    · exact setRequest_kept w i _ s
    · exact .refl w s
  · exact .refl w s

theorem pickWaitExpires_kept (w : Waiver) (i : StationId) (s : State) : Kept w s (pickWaitExpires i s) := by
  simp only [pickWaitExpires]
  split
  · exact (setRequest_kept w i _ s).trans (answerLine_kept w i _ _ _)
  · exact .refl w s
  · exact .refl w s

end Sys2Proof.Machine
end

section
/-!
PROOFS. What the session controller's and the card authorization unit's operations keep (chapters 2 and 7): changes of state, the
close step, draining, the stall, opening, and the ends of an authorization.
-/

namespace Sys2Proof.Machine

/-! ## Changes of state -/

/-- A change of the session of a station as one update, judged (R22, R31). -/
theorem setSession_eq (i : StationId) (f : Session → Session) (s : State) :
    setSession i f s =
      syncIdle i (s.upd i fun x => { x with session := f x.session, cond := { x.cond with session := true } }) := by
  simp only [setSession, raiseSession, State.updSession, State.updCond, upd_upd]

/-- A change of a session's state keeps what the station keeps, the journal's room apart. -/
theorem setSession_keptButRoom {w : Waiver} {i : StationId} {f : Session → Session} {s : State}
    (reasons : ReasonsRight (s.st i) → ReasonsRight { s.st i with session := f (s.st i).session })
    (auth : ¬ w.auth i → AuthRight (s.st i) → AuthRight { s.st i with session := f (s.st i).session }) :
    KeptButRoom w s (setSession i f s) := by
  rw [setSession_eq]
  exact syncIdle_upd_keptButRoom w ⟨id, id, id, reasons, auth⟩

theorem setSession_kept {w : Waiver} {i : StationId} {f : Session → Session} {s : State}
    (reasons : ReasonsRight (s.st i) → ReasonsRight { s.st i with session := f (s.st i).session })
    (auth : ¬ w.auth i → AuthRight (s.st i) → AuthRight { s.st i with session := f (s.st i).session })
    (live : sessionLive (f (s.st i).session) = true → sessionLive (s.st i).session = true) :
    Kept w s (setSession i f s) := by
  rw [setSession_eq]
  exact syncIdle_upd_kept w ⟨id, id, id, reasons, auth⟩ live

theorem setSession_session (i : StationId) (f : Session → Session) (s : State) :
    ((setSession i f s).st i).session = f (s.st i).session := by
  simp [setSession, syncIdle, raiseSession]

theorem setSession_auth (i : StationId) (f : Session → Session) (s : State) :
    ((setSession i f s).st i).auth = (s.st i).auth := by
  simp [setSession, syncIdle, raiseSession]

theorem holdsQueue_iff (x : SessionState) : holdsQueue x = true ↔ x = .opened ∨ x = .stalled ∨ x = .draining := by
  cases x <;> simp [holdsQueue]

/-- Among the states in which a session has opened, the pending authorization table agrees alike. -/
theorem authRight_of_holdsQueue {x : Station} {y : Session} (before : holdsQueue x.session.state = true)
    (after : holdsQueue y.state = true) (payer : y.payer = x.session.payer) (h : AuthRight x) :
    AuthRight { x with session := y } := by
  obtain ⟨-, initial, increment⟩ := h
  refine ⟨fun st => ?_, fun e he kind => ?_, fun e he kind => ⟨(holdsQueue_iff _).1 after, ?_⟩⟩
  · rw [show y.state = .authorizing from st] at after; cases after
  · rw [initial e he kind] at before; cases before
  · obtain ⟨-, card⟩ := increment e he kind
    exact payer ▸ card

/-- A change among the states in which a session has opened keeps everything. -/
theorem setSession_kept_opened {w : Waiver} {i : StationId} {f : Session → Session} {s : State}
    (before : holdsQueue (s.st i).session.state = true) (after : holdsQueue (f (s.st i).session).state = true)
    (payer : (f (s.st i).session).payer = (s.st i).session.payer)
    (reasons : ReasonsRight (s.st i) → ReasonsRight { s.st i with session := f (s.st i).session }) :
    Kept w s (setSession i f s) := by
  refine setSession_kept reasons (fun _ => authRight_of_holdsQueue before after payer) fun _ => ?_
  rcases (holdsQueue_iff _).1 before with st | st | st <;> simp [sessionLive, st]

theorem reasonsRight_ended (x : Station) (n : Nat) : ReasonsRight { x with session := Session.ended n } := by
  intro r _
  exact ⟨nofun, nofun⟩

theorem setAvailability_kept (w : Waiver) (i : StationId) (a : Availability) (s : State) :
    Kept w s (setAvailability i a s) := by
  simp only [setAvailability]
  split
  · exact .refl w s
  · exact (updRecovery_kept w i _ s).trans (raiseStation_kept w i _)

theorem sessionEnded_kept (w : Waiver) (i : StationId) (s : State) : Kept w s (sessionEnded i s) := by
  simp only [sessionEnded]
  split
  · exact ((updRecovery_kept w i _ s).trans (setAvailability_kept w i _ _)).trans (updRecovery_kept w i _ _)
  · exact updRecovery_kept w i _ s

theorem stopWhenEmpty_kept (w : Waiver) (s : State) : Kept w s (stopWhenEmpty s) := by
  simp only [stopWhenEmpty]
  split
  · exact updHost_kept w _ s rfl rfl
  · exact .refl w s

/-! ## The close step (R39) -/

theorem length_settleStandIn (t : Token) (spent : Nat) (entries : List StandInEntry) :
    (settleStandIn t spent entries).length ≤ entries.length := by
  unfold settleStandIn
  split
  · exact List.length_filter_le _ _
  · rw [List.length_map]

/-- The payer's update leaves every session as it is. -/
theorem updatePayer_session (i j : StationId) (spent : Nat) (c : CancelCause) (s : State) :
    ((updatePayer i spent c s).st j).session = (s.st j).session := by
  simp only [updatePayer]
  split
  · unfold settleAccount
    split <;> rfl
  · split
    · exact removeEntry_session i j _ s
    · rfl
  · rfl
  · rfl

/-- After the payer's update no INCREMENT entry of a CARD session is left (R40). -/
theorem updatePayer_noIncrement {i : StationId} {spent : Nat} {c : CancelCause} {s : State} {t : Token} {e : AuthEntry}
    (card : (s.st i).session.payer = some (.card t)) (entry : ((updatePayer i spent c s).st i).auth = some e) :
    e.kind ≠ .increment := by
  simp only [updatePayer, card] at entry
  split at entry
  · rw [removeEntry_auth] at entry; cases entry
  · next h => rw [entry] at h; simpa using h

theorem updatePayer_kept (w : Waiver) (i : StationId) (spent : Nat) (c : CancelCause) (s : State)
    (opened : holdsQueue (s.st i).session.state = true) : Kept w s (updatePayer i spent c s) := by
  simp only [updatePayer]
  split
  · exact settleAccount_kept w _ _ s
  · split
    · exact removeEntry_kept _ fun _ _ => authRight_none rfl fun st => by
        rw [show (s.st i).session.state = .authorizing from st] at opened; cases opened
    · exact .refl w s
  · exact updCards_kept w _ s id fun h => (length_settleStandIn _ _ _).trans h
  · exact .refl w s

theorem setLevel_kept (w : Waiver) (l : Urgency) (s : State) : Kept w s (setLevel l s) := by
  simp only [setLevel]
  split
  · exact .refl w s
  · exact (updJournal_kept w _ s le_rfl).trans (raiseJournal_kept w _)

theorem appendRecord_keptButRoom (w : Waiver) (r : JournalRecord) (s : State) : KeptButRoom w s (appendRecord r s) := by
  rw [appendRecord, setLevel_spec]
  exact keptButRoom_of_same w (fun _ => rfl) (.inr rfl) rfl rfl rfl rfl rfl rfl

theorem appendRecord_records (r : JournalRecord) (s : State) :
    (appendRecord r s).journal.records = s.journal.records ++ [r] := by
  simp [appendRecord, setLevel_spec]

theorem appendRecord_st (r : JournalRecord) (s : State) (i : StationId) : (appendRecord r s).st i = s.st i := by
  rw [appendRecord, setLevel_spec]
  rfl

theorem setSession_journal (i : StationId) (f : Session → Session) (s : State) : (setSession i f s).journal = s.journal := rfl

/-- A session's record and its end together keep everything: the record takes the session's place in the journal's room (R26,
R144). -/
theorem recordAndEnd_kept {w : Waiver} {i : StationId} (r : JournalRecord) {s : State}
    (opened : holdsQueue (s.st i).session.state = true)
    (noIncrement : ∀ t e, (s.st i).session.payer = some (.card t) → (s.st i).auth = some e → e.kind ≠ .increment) :
    Kept w s (setSession i (fun y => Session.ended y.number) (appendRecord r s)) := by
  have st := appendRecord_st r s
  refine ⟨(appendRecord_keptButRoom w r s).trans (setSession_keptButRoom (fun _ => reasonsRight_ended _ _) fun _ h => ?_), ?_⟩
  · rw [st] at h ⊢
    obtain ⟨-, initial, increment⟩ := h
    have noEntry : (s.st i).auth = none := by
      rw [Option.eq_none_iff_forall_not_mem]
      intro e entry
      cases kind : e.kind with
      | initial => rw [initial e entry kind] at opened; cases opened
      | increment =>
        obtain ⟨-, t, card⟩ := increment e entry kind
        exact absurd kind (noIncrement t e card entry)
    exact authRight_none noEntry nofun
  · intro before
    have live : sessionLive (s.st i).session = true := by
      rcases (holdsQueue_iff _).1 opened with e | e | e <;> simp [sessionLive, e]
    have fewer : (setSession i (fun y => Session.ended y.number) (appendRecord r s)).sessions < s.sessions := by
      refine sessions_lt live ?_ fun j other => ?_
      · rw [setSession_session]; rfl
      · rw [(setSession_local i _ _).others j other, st]; exact id
    have records : (setSession i (fun y => Session.ended y.number) (appendRecord r s)).journal.records.length =
        s.journal.records.length + 1 := by
      rw [setSession_journal, appendRecord_records]; simp
    unfold JournalHasRoom at before ⊢
    omega

theorem setAvailability_sameSessions (i : StationId) (a : Availability) (s : State) :
    SameSessions s (setAvailability i a s) := by
  simp only [setAvailability]
  split
  · exact .refl s
  · simp only [raiseStation, State.updRecovery, upd_upd]
    exact upd_sameSessions ⟨rfl, rfl, rfl, rfl⟩

theorem sessionEnded_sameSessions (i : StationId) (s : State) : SameSessions s (sessionEnded i s) := by
  have stopped : SameSessions s (s.updRecovery i fun r => { r with stallTimer := none }) :=
    upd_sameSessions ⟨rfl, rfl, rfl, rfl⟩
  simp only [sessionEnded]
  split
  · exact (stopped.trans (setAvailability_sameSessions i _ _)).trans (upd_sameSessions ⟨rfl, rfl, rfl, rfl⟩)
  · exact stopped

theorem stopWhenEmpty_st (s : State) (i : StationId) : (stopWhenEmpty s).st i = s.st i := by
  simp only [stopWhenEmpty]
  split <;> rfl

/-- The close step up to the return of the session to NONE (R39, parts 1 to 4). -/
def closeRecorded (i : StationId) (reason : CloseReason) (cancel : CancelCause) (s : State) : State :=
  let x := (s.st i).session
  let c := closingCent i s
  let s3 := updatePayer i c.2.1 cancel c.2.2
  setSession i (fun y => Session.ended y.number) (appendRecord
    (recordOf i x (x.payer.getD (.account 0)) (x.tariffClass.getD 0) reason c.1 c.2.1 s3.journal) s3)

theorem closeStep_eq (i : StationId) (reason : CloseReason) (cancel : CancelCause) (s : State) :
    closeStep i reason cancel s = stopWhenEmpty (sessionEnded i (offer i (.closed (closingCent i s).2.1 (closingCent i s).1)
      ((closeRecorded i reason cancel s).updMeters i fun m => { m with sessionsClosed := addMeter m.sessionsClosed 1 }))) := rfl

theorem countClosed_kept (w : Waiver) (i : StationId) (s : State) :
    Kept w s (s.updMeters i fun m => { m with sessionsClosed := addMeter m.sessionsClosed 1 }) := updMeters_kept w i s id

theorem closeRecorded_kept (w : Waiver) (i : StationId) (r : CloseReason) (c : CancelCause) (s : State)
    (opened : holdsQueue (s.st i).session.state = true) : Kept w s (closeRecorded i r c s) := by
  have st := closingCent_st i i s
  have session := updatePayer_session i i (closingCent i s).2.1 c (closingCent i s).2.2
  have paid := updatePayer_kept w i (closingCent i s).2.1 c (closingCent i s).2.2 (by rw [st]; exact opened)
  refine ((closingCent_kept w i s).trans paid).trans (recordAndEnd_kept _ ?_ fun t e card entry => ?_)
  · rw [session, st]; exact opened
  · rw [session] at card
    exact updatePayer_noIncrement card entry

theorem closeStep_kept (w : Waiver) (i : StationId) (r : CloseReason) (c : CancelCause) (s : State)
    (opened : holdsQueue (s.st i).session.state = true) : Kept w s (closeStep i r c s) := by
  rw [closeStep_eq]
  exact ((((closeRecorded_kept w i r c s opened).trans (countClosed_kept w i _)).trans (offer_kept w i _ _)).trans
    (sessionEnded_kept w i _)).trans (stopWhenEmpty_kept w _)

/-- A session that has closed is NONE (R39). -/
theorem closeStep_state (i : StationId) (r : CloseReason) (c : CancelCause) (s : State) :
    ((closeStep i r c s).st i).session.state = .none := by
  rw [closeStep_eq, stopWhenEmpty_st, (sessionEnded_sameSessions i _).state, (offer_sameSessions i _ _).state, st_updMeters,
    closeRecorded, setSession_session]
  rfl

theorem abandonAuthorizing_state (i : StationId) (r : Option RefusedReason) (s : State) :
    ((abandonAuthorizing i r s).st i).session.state = .none := by
  simp only [abandonAuthorizing]
  rw [stopWhenEmpty_st, (sessionEnded_sameSessions i _).state]
  cases r
  · rw [setSession_session]; rfl
  · rw [(offer_sameSessions i _ _).state, setSession_session]; rfl

/-! ## Draining and close reasons -/

theorem drainCheck_kept (w : Waiver) (i : StationId) (s : State) : Kept w s (drainCheck i s) := by
  simp only [drainCheck]
  split
  · next h =>
    split
    · exact (closeStep_kept w i _ _ s (by rw [h.1]; rfl)).trans (reevaluate_kept w i _)
    · exact .refl w s
  · exact .refl w s

/-- A reason that a session may hold (R20). -/
def sessionReason (r : CloseReason) : Prop := r ∉ [CloseReason.stallTimeout, CloseReason.halt]

/-- A session that holds only these reasons, or none, has its reasons right. -/
theorem reasonsRight_of {x : Station} (close : ∀ r, x.session.closeReason = some r → sessionReason r)
    (pending : ∀ r, x.session.closePending = some r → sessionReason r) : ReasonsRight x :=
  fun r hr => ⟨fun e => close r e hr, fun e => pending r e hr⟩

theorem ReasonsRight.close {x : Station} (h : ReasonsRight x) {r : CloseReason} (e : x.session.closeReason = some r) :
    sessionReason r := fun hr => (h r hr).1 e

theorem ReasonsRight.pending {x : Station} (h : ReasonsRight x) {r : CloseReason} (e : x.session.closePending = some r) :
    sessionReason r := fun hr => (h r hr).2 e

theorem startDraining_kept {w : Waiver} {i : StationId} {r : CloseReason} {s : State}
    (opened : holdsQueue (s.st i).session.state = true) (reason : ReasonsRight (s.st i) → sessionReason r) :
    Kept w s (startDraining i r s) := by
  refine (setSession_kept_opened opened rfl rfl fun h => ?_).trans (reevaluate_kept w i _)
  exact reasonsRight_of (fun _ e => Option.some.inj e ▸ reason h) nofun

theorem goDraining_kept {w : Waiver} {i : StationId} {r : CloseReason} {s : State}
    (opened : holdsQueue (s.st i).session.state = true) (reason : ReasonsRight (s.st i) → sessionReason r) :
    Kept w s (goDraining i r s) :=
  (startDraining_kept opened reason).trans (drainCheck_kept w i _)

theorem keepReason_kept (w : Waiver) (i : StationId) {r : CloseReason} (s : State) (reason : sessionReason r) :
    Kept w s (keepReason i r s) := by
  refine updSession_kept w i s rfl rfl fun h => reasonsRight_of (fun _ e => h.close e) fun r' e => ?_
  cases held : (s.st i).session.closePending with
  | none => simp only [held, Option.getD_none, Option.some.injEq] at e; exact e ▸ reason
  | some q => simp only [held, Option.getD_some, Option.some.injEq] at e; exact e ▸ h.pending held

theorem takeReason_kept (w : Waiver) (i : StationId) {r : CloseReason} (s : State) (reason : sessionReason r) :
    Kept w s (takeReason i r s) := by
  simp only [takeReason]
  split
  · exact .refl w s
  · exact keepReason_kept w i s reason
  · next st => exact goDraining_kept (by rw [st]; rfl) fun _ => reason
  · exact .refl w s
  · exact keepReason_kept w i s reason

/-! ## The stall (R84) -/

theorem canStall_holdsQueue {x : SessionState} (h : canStall x = true) : holdsQueue x = true := by
  cases x <;> simp_all [canStall, holdsQueue]

theorem stallSession_kept (w : Waiver) (i : StationId) (s : State) (opened : canStall (s.st i).session.state = true) :
    Kept w s (stallSession i s) := by
  have timed : Kept w s (s.upd i fun x =>
      { x with
        meters := { x.meters with stalls := addMeter x.meters.stalls 1 }
        recovery := { x.recovery with stallTimer := some (minutes s.host.timers.stall) } }) :=
    upd_kept w ⟨⟨id, id, id, id, fun _ => id⟩, fun _ _ => id⟩ id
  refine (timed.trans (setSession_kept_opened ?_ rfl rfl fun h => ?_)).trans (reevaluate_kept w i _)
  · rw [st_upd_self]; exact canStall_holdsQueue opened
  · refine reasonsRight_of nofun fun r e => ?_
    simp only [stalledRecord] at e
    split at e
    · exact h.close e
    · exact h.pending e

theorem stallUnlessHeld_kept (w : Waiver) (i : StationId) (s : State) : Kept w s (stallUnlessHeld i s) := by
  simp only [stallUnlessHeld]
  split
  · next h => exact stallSession_kept w i s (Bool.and_eq_true_iff.1 h).1
  · exact .refl w s

/-! ## Opening -/

/-- The report of an opening: the open time, OPENED and the waiting request (R30). -/
def openingReported (i : StationId) (k : PayerKind) (n : Nat) (s : State) : State :=
  reevaluate i (offer i (.opened k n) (s.updSession i fun x => { x with openTime := some s.journal.clock }))

/-- A session that opens where the station has stopped is stalled (R30). -/
def stalledIfStopped (i : StationId) (s : State) : State :=
  if (s.st i).recovery.stoppage.isSome then stallUnlessHeld i s else s

/-- A session that opens with a close pending takes it (R30). -/
def closedIfPending (i : StationId) (s : State) : State :=
  match (s.st i).session.state, (s.st i).session.closePending with
  | .opened, some r => goDraining i r s
  | _, _ => s

theorem openingReported_kept (w : Waiver) (i : StationId) (k : PayerKind) (n : Nat) (s : State) :
    Kept w s (openingReported i k n s) :=
  ((updSession_kept w i s rfl rfl id).trans (offer_kept w i _ _)).trans (reevaluate_kept w i _)

theorem stalledIfStopped_kept (w : Waiver) (i : StationId) (s : State) : Kept w s (stalledIfStopped i s) := by
  unfold stalledIfStopped
  split
  · exact stallUnlessHeld_kept w i s
  · exact .refl w s

theorem closedIfPending_kept (w : Waiver) (i : StationId) (s : State) : Kept w s (closedIfPending i s) := by
  unfold closedIfPending
  split
  · next r opened pending => exact goDraining_kept (by rw [opened]; rfl) fun h => h.pending pending
  · exact .refl w s

theorem sessionOpened_kept (w : Waiver) (i : StationId) (k : PayerKind) (n : Nat) (s : State) :
    Kept w s (sessionOpened i k n s) :=
  ((openingReported_kept w i k n s).trans (stalledIfStopped_kept w i _)).trans (closedIfPending_kept w i _)

/-- A session that leaves NONE keeps everything where the journal has room for one record more (R26, R144). -/
theorem leaveNone_kept {w : Waiver} {i : StationId} {f : Session → Session} {s : State}
    (reasons : ReasonsRight { s.st i with session := f (s.st i).session })
    (auth : ¬ w.auth i → AuthRight (s.st i) → AuthRight { s.st i with session := f (s.st i).session })
    (room : s.journal.records.length + s.sessions < Config.journalRoom) : Kept w s (setSession i f s) := by
  refine ⟨setSession_keptButRoom (fun _ => reasons) auth, fun _ => ?_⟩
  have more : (setSession i f s).sessions ≤ s.sessions + 1 :=
    sessions_le_succ fun j other => by rw [(setSession_local i f s).others j other]; exact id
  rw [JournalHasRoom, setSession_journal]
  omega

/-- An opening check that is passed has found room in the journal (R26). -/
theorem openingCheck_room {i : StationId} {isCard : Bool} {s : State} (h : openingCheck i isCard s = none) :
    s.journal.records.length + s.sessions < Config.journalRoom := by
  simp only [openingCheck] at h
  split_ifs at h
  omega

theorem takeNumber_kept (w : Waiver) (s : State) : Kept w s (takeNumber s).2 :=
  ⟨keptButRoom_of_same w (fun _ => rfl) (.inr rfl) rfl rfl rfl rfl rfl rfl, id⟩

theorem openAccount_kept (w : Waiver) (i : StationId) {a : Account} (r : Range) {n : Nat} {s : State}
    (none : (s.st i).session.state = .none) (found : findAccount s.accounts n = some a)
    (room : s.journal.records.length + s.sessions < Config.journalRoom) : Kept w s (openAccount i a r s) := by
  have counted : Kept w s (putAccount { a with openSessions := a.openSessions + 1 } s) := putStored_kept w found rfl
  refine ((counted.trans (takeNumber_kept w _)).trans (leaveNone_kept ?_ ?_ room)).trans (sessionOpened_kept w i _ _ _)
  · exact reasonsRight_of nofun nofun
  · exact fun _ h => authRight_none (h.noEntry none) nofun

/-- An account check that is passed has found the account (R27). -/
theorem openingAccountCheck_found {s : State} {n : Nat} {a : Account} {r : Range}
    (h : openingAccountCheck s n = .ok (a, r)) : findAccount s.accounts n = some a := by
  simp only [openingAccountCheck] at h
  split at h
  · cases h
  · split at h
    · cases h
    · next found =>
      split_ifs at h
      cases h
      exact found

theorem openByAccount_kept (w : Waiver) (i : StationId) (n : Nat) (s : State) (none : (s.st i).session.state = .none) :
    Kept w s (openByAccount i n s) := by
  simp only [openByAccount]
  split
  · exact offer_kept w i _ s
  · next check =>
    split
    · exact offer_kept w i _ s
    · next account => exact openAccount_kept w i _ none (openingAccountCheck_found account) (openingCheck_room check)

/-! ## The card authorization unit's decisions (chapter 7)

Each decision ends what a removed INITIAL entry has left open: the table, waived at the station until then, is right again. -/

/-- A session without an entry that takes another state than AUTHORIZING: the table, waived on the way, is right again. -/
theorem setSession_restores {w : Waiver} {i : StationId} {f : Session → Session} {s t : State}
    (h : Kept (w.andAuth i) s t) (noEntry : AuthRightBut w s → (t.st i).auth = none)
    (state : (f (t.st i).session).state ≠ .authorizing)
    (live : sessionLive (f (t.st i).session) = true → sessionLive (t.st i).session = true)
    (reasons : ReasonsRight (t.st i) → ReasonsRight { t.st i with session := f (t.st i).session }) :
    Kept w s (setSession i f t) := by
  refine (h.trans (setSession_kept reasons (fun waived => absurd (.inr rfl) waived) live)).authRestored fun before => ?_
  refine authRight_none ?_ ?_
  · rw [setSession_auth]; exact noEntry before
  · rw [setSession_session]; exact state

theorem abandon_restores {w : Waiver} {i : StationId} {s t : State} (r : Option RefusedReason) (h : Kept (w.andAuth i) s t)
    (noEntry : AuthRightBut w s → (t.st i).auth = none) : Kept w s (abandonAuthorizing i r t) := by
  have ended : Kept w s (setSession i (fun x => Session.ended x.number) t) :=
    setSession_restores h noEntry (by nofun) (by nofun) fun _ => reasonsRight_ended _ _
  simp only [abandonAuthorizing]
  refine Kept.trans (Kept.trans ?_ (sessionEnded_kept w i _)) (stopWhenEmpty_kept w _)
  cases r
  · exact ended
  · exact ended.trans (offer_kept w i _ _)

/-- With no decision to make, the table is right where no entry is left. -/
theorem undecided_restores {w : Waiver} {i : StationId} {s t : State} (h : Kept (w.andAuth i) s t)
    (noEntry : AuthRightBut w s → (t.st i).auth = none) (state : (t.st i).session.state ≠ .authorizing) : Kept w s t :=
  h.authRestored fun before => authRight_none (noEntry before) state

/-- The room that stand-in has for an entry (R133). -/
theorem standInAllowed_room {s : State} {t : Token} (h : standInAllowed s t = true) :
    s.cards.standIn.length < Config.standInRoom := by
  simp only [standInAllowed, Bool.and_eq_true, decide_eq_true_eq] at h
  obtain ⟨⟨-, room⟩, -⟩ := h
  exact room

theorem decideStandIn_restores {w : Waiver} {i : StationId} {s t : State} (h : Kept (w.andAuth i) s t)
    (noEntry : AuthRightBut w s → (t.st i).auth = none) : Kept w s (decideStandIn i t) := by
  simp only [decideStandIn]
  split
  · next authorizing =>
    split
    · next allowed =>
      have listed : Kept (w.andAuth i) t (t.updCards fun c => { c with standIn := c.standIn ++
          [⟨payerToken (t.st i).session.payer, standInGrant t.cards, (t.st i).session.number, i, false⟩] }) :=
        updCards_kept _ _ t id fun _ => by simpa using standInAllowed_room allowed
      refine (setSession_restores (h.trans listed) noEntry (by nofun) (fun _ => ?_) id).trans (sessionOpened_kept w i _ _ _)
      simp [sessionLive, authorizing]
    · exact (abandon_restores _ h noEntry).trans (reevaluate_kept w i _)
  · next state => exact undecided_restores h noEntry state

theorem declineInitial_restores {w : Waiver} {i : StationId} {s t : State} (h : Kept (w.andAuth i) s t)
    (noEntry : AuthRightBut w s → (t.st i).auth = none) : Kept w s (declineInitial i t) := by
  simp only [declineInitial]
  split
  · exact (abandon_restores _ h noEntry).trans (reevaluate_kept w i _)
  · next state => exact undecided_restores h noEntry state

theorem approveInitial_restores {w : Waiver} {i : StationId} (n : Nat) {s t : State} (h : Kept (w.andAuth i) s t)
    (noEntry : AuthRightBut w s → (t.st i).auth = none) : Kept w s (approveInitial i n t) := by
  simp only [approveInitial]
  split
  · next authorizing =>
    refine (setSession_restores h noEntry (by nofun) (fun _ => ?_) id).trans (sessionOpened_kept w i _ _ _)
    simp [sessionLive, authorizing]
  · next state => exact undecided_restores h noEntry state

theorem removeEntry_waived (w : Waiver) (i : StationId) (c : Option CancelCause) (s : State) :
    Kept (w.andAuth i) s (removeEntry i c s) :=
  removeEntry_kept c fun waived => absurd (.inr rfl) waived

theorem endIncrements_kept (w : Waiver) (i : StationId) (s : State) : Kept w s (endIncrements i s) :=
  (updSession_kept w i s rfl rfl id).trans (reevaluate_kept w i _)

theorem approveIncrement_kept (w : Waiver) (i : StationId) (n : Nat) (s : State) : Kept w s (approveIncrement i n s) :=
  (updSession_kept w i s rfl rfl id).trans (reevaluate_kept w i _)

/-- The removal of an INCREMENT entry leaves the table right. -/
theorem removeIncrement_kept {w : Waiver} {i : StationId} (c : Option CancelCause) {s : State} {e : AuthEntry}
    (entry : (s.st i).auth = some e) (kind : e.kind = .increment) : Kept w s (removeEntry i c s) := by
  refine removeEntry_kept c fun _ ⟨_, _, increment⟩ => authRight_none rfl fun st => ?_
  obtain ⟨state, -⟩ := increment e entry kind
  rw [show (s.st i).session.state = .authorizing from st] at state
  simp at state

theorem endEntry_kept (w : Waiver) (i : StationId) (c : CancelCause) (s : State) : Kept w s (endEntry i c s) := by
  simp only [endEntry]
  split
  · exact .refl w s
  · next e entry =>
    split
    · exact decideStandIn_restores (removeEntry_waived w i _ s) fun _ => removeEntry_auth i _ s
    · next kind => exact (removeIncrement_kept _ entry kind).trans (endIncrements_kept w i _)

theorem resultApplied_kept (w : Waiver) (i : StationId) (n : Nat) (s : State) {e : AuthEntry} (entry : (s.st i).auth = some e) :
    Kept w s (applyResult i e.kind n (removeEntry i none s)) := by
  have noEntry := removeEntry_auth i none s
  cases kind : e.kind <;> simp only [applyResult] <;> split
  · exact declineInitial_restores (removeEntry_waived w i _ s) fun _ => noEntry
  · exact approveInitial_restores n (removeEntry_waived w i _ s) fun _ => noEntry
  · exact (removeIncrement_kept _ entry kind).trans (endIncrements_kept w i _)
  · exact (removeIncrement_kept _ entry kind).trans (approveIncrement_kept w i n _)

theorem authTimesOut_kept (w : Waiver) (i : StationId) (k : AuthKind) (s : State) : Kept w s (authTimesOut i k s) := by
  simp only [authTimesOut]
  split
  · exact endEntry_kept w i _ s
  · exact .refl w s

theorem choose_kept (w : Waiver) (s : State) : Kept w s s.choose.2 := by
  unfold State.choose
  split <;> exact ⟨keptButRoom_of_same w (fun _ => rfl) (.inr rfl) rfl rfl rfl rfl rfl rfl, id⟩

theorem inOpenOrder_kept {α : Type} (w : Waiver) (xs : List α) (s : State) : Kept w s (inOpenOrder xs s).2 := by
  unfold inOpenOrder
  split
  · exact .refl w s
  · exact choose_kept w s

/-- Operations taken one after another keep what each keeps. -/
theorem foldl_kept {α : Type} (w : Waiver) {f : State → α → State} (step : ∀ s a, Kept w s (f s a)) (xs : List α)
    (s : State) : Kept w s (xs.foldl f s) := by
  induction xs generalizing s with
  | nil => exact .refl w s
  | cons x rest ih => exact (step s x).trans (ih _)

theorem silenceExpires_kept (w : Waiver) (s : State) : Kept w s (silenceExpires s) := by
  simp only [silenceExpires, emptyTable]
  split
  · exact ((updHost_kept w _ s rfl rfl).trans (inOpenOrder_kept w _ _)).trans
      (foldl_kept w (fun s i => endEntry_kept w i _ s) _ _)
  · exact .refl w s

/-! ### Opening by card (R28, R124) -/

/-- An evaluation at a station whose session is AUTHORIZING or NONE leaves the pending authorization (R64). -/
theorem evaluate_auth {i : StationId} (p : SheetSpec) {s : State} (unopened : (s.st i).session.state ≠ .opened) :
    ((evaluate i p s).2.st i).auth = (s.st i).auth := by
  rcases evaluate_cases i p s with ⟨e, -⟩ | ⟨-, -, e⟩ | ⟨-, opened, -, -⟩
  · rw [e]
  · rw [e]; simp [grantService, pushEntry, setQueue, syncIdle]
  · exact absurd opened unopened

theorem reevaluate_auth {i : StationId} {s : State} (unopened : (s.st i).session.state ≠ .opened) :
    ((reevaluate i s).st i).auth = (s.st i).auth := by
  rcases reevaluate_cases i s with ⟨-, e⟩ | ⟨n, p, c, left, -, ⟨c', -, e⟩ | ⟨-, e⟩⟩ <;> rw [e]
  · rw [← evaluate_auth p unopened]; simp [setRequest, syncIdle]
  · rw [← evaluate_auth p unopened]; simp [setRequest, syncIdle, answerLine]

/-- The record of a session that has just become AUTHORIZING (R28). -/
def authorizingRecord (n : Nat) (t : Token) (c : CardClass) (k : Fin 8) : Session :=
  { Session.ended n with state := .authorizing, payer := some (.card t), cardClass := some c, tariffClass := some k }

/-- A CARD that has passed its checks: the session is AUTHORIZING, and the entry or the decision is still to come (R28). -/
def cardTaken (i : StationId) (t : Token) (c : CardClass) (s : State) : State :=
  reevaluate i (setSession i (fun _ => authorizingRecord s.nextSession t c s.cards.policy.tariffClass) (takeNumber s).2)

theorem startAuthorizing_eq (i : StationId) (t : Token) (c : CardClass) (s : State) :
    startAuthorizing i t c s =
      if (cardTaken i t c s).host.linkUp then
        makeEntry i .initial (cardTaken i t c s).cards.policy.initialHold (cardTaken i t c s)
      else decideStandIn i (cardTaken i t c s) := rfl

theorem cardTaken_state (i : StationId) (t : Token) (c : CardClass) (s : State) :
    ((cardTaken i t c s).st i).session.state = .authorizing := by
  rw [cardTaken, (reevaluate_sameSessions i _).state, setSession_session]
  rfl

theorem cardTaken_auth (i : StationId) (t : Token) (c : CardClass) (s : State) :
    ((cardTaken i t c s).st i).auth = (s.st i).auth := by
  rw [cardTaken, reevaluate_auth, setSession_auth]
  · rfl
  · rw [setSession_session]; nofun

theorem cardTaken_kept (w : Waiver) (i : StationId) (t : Token) (c : CardClass) (s : State)
    (room : s.journal.records.length + s.sessions < Config.journalRoom) : Kept (w.andAuth i) s (cardTaken i t c s) := by
  have left : Kept (w.andAuth i) (takeNumber s).2
      (setSession i (fun _ => authorizingRecord s.nextSession t c s.cards.policy.tariffClass) (takeNumber s).2) :=
    leaveNone_kept (reasonsRight_of nofun nofun) (fun waived => absurd (.inr rfl) waived) room
  exact ((takeNumber_kept _ s).trans left).trans (reevaluate_kept _ i _)

theorem makeEntry_auth (i : StationId) (k : AuthKind) (n : Nat) (s : State) :
    ∃ e, ((makeEntry i k n s).st i).auth = some e ∧ e.kind = k := by
  simp [makeEntry, raiseAuthRequest]

theorem startAuthorizing_kept (w : Waiver) (i : StationId) (t : Token) (c : CardClass) (s : State)
    (unwaived : ¬ w.auth i) (none : (s.st i).session.state = .none)
    (room : s.journal.records.length + s.sessions < Config.journalRoom) : Kept w s (startAuthorizing i t c s) := by
  have taken := cardTaken_kept w i t c s room
  have state := cardTaken_state i t c s
  rw [startAuthorizing_eq]
  split
  · refine (taken.trans (makeEntry_kept _ i _ _ _ fun _ e kind => authRight_initial kind state)).authRestored fun _ => ?_
    obtain ⟨e, entry, kind⟩ := makeEntry_auth i .initial (cardTaken i t c s).cards.policy.initialHold (cardTaken i t c s)
    have stays := ((makeEntry_sameSessions i .initial (cardTaken i t c s).cards.policy.initialHold _).state i).trans state
    exact ⟨fun _ => ⟨e, entry, kind⟩, fun _ _ _ => stays, fun e' entry' h => by
      rw [entry] at entry'; cases entry'; rw [kind] at h; cases h⟩
  · exact decideStandIn_restores taken fun before => (cardTaken_auth i t c s).trans ((before i unwaived).noEntry none)

theorem openByCard_kept (w : Waiver) (i : StationId) (t : Token) (c : CardClass) (s : State)
    (unwaived : ¬ w.auth i) (none : (s.st i).session.state = .none) : Kept w s (openByCard i t c s) := by
  simp only [openByCard]
  split
  · exact offer_kept w i _ s
  · next check => exact startAuthorizing_kept w i t c s unwaived none (openingCheck_room check)

theorem deliver_kept (w : Waiver) (i : StationId) (m : UpMessage) (s : State) (unwaived : ¬ w.auth i) :
    Kept w s (deliver i m s) := by
  have active := activity_kept w i s
  have state : ((activity i s).st i).session.state = (s.st i).session.state := by simp [activity]
  have ended : ¬ sessionLive (s.st i).session = true → ((activity i s).st i).session.state = .none := fun h => by
    rw [state]; simpa [sessionLive] using h
  cases m <;> simp only [deliver]
  · split
    · exact active.trans (offer_kept w i _ _)
    · next h => exact active.trans (openByCard_kept w i _ _ _ unwaived (ended h))
  · split
    · exact active.trans (offer_kept w i _ _)
    · next h => exact active.trans (openByAccount_kept w i _ _ (ended h))
  · exact active.trans (takeReason_kept w i _ (by simp [sessionReason]))

end Sys2Proof.Machine
end

section
/-!
PROOFS. What the paper path, the gaps at a station, the recovery unit and a removal series keep (chapters 4, 5 and 9).
-/

namespace Sys2Proof.Machine

/-! ## The paper path -/

section
variable (w : Waiver) (i : StationId) (s : State)

theorem changeHold_kept (b : Bool) (h : HoldState) : Kept w s (changeHold b i h s) := by
  simp only [changeHold]
  split
  · exact ((setHold_kept w i h s).trans (stallUnlessHeld_kept w i _)).trans (reevaluate_kept w i _)
  · exact (setHold_kept w i h s).trans (reevaluate_kept w i _)

theorem holdWhenEmpty_kept (b : Bool) : Kept w s (holdWhenEmpty b i s) := by
  simp only [holdWhenEmpty]
  split
  · split
    · exact changeHold_kept w i s b _
    · exact changeHold_kept w i s b _
    · exact .refl w s
    · exact .refl w s
  · exact .refl w s

theorem afterRemoval_kept (b c : Bool) : Kept w s (afterRemoval b c i s) := by
  simp only [afterRemoval]
  split
  · exact ((drainCheck_kept w i s).trans (holdWhenEmpty_kept w i _ b)).trans (reevaluate_kept w i _)
  · exact (holdWhenEmpty_kept w i s b).trans (reevaluate_kept w i _)

theorem unchargedExit_kept : Kept w s (unchargedExit i s) := by
  have state : ∀ x : Session,
      (if sessionLive x then { x with unchargedExits := addUpTo Config.countTop x.unchargedExits 1 } else x) =
        { x with unchargedExits :=
          if sessionLive x then addUpTo Config.countTop x.unchargedExits 1 else x.unchargedExits } := fun x => by
    split <;> rfl
  simp only [unchargedExit, state]
  exact (upd_kept w ⟨⟨id, id, id, id, fun _ => id⟩, fun _ _ => id⟩ id).trans (raiseAnomaly_kept w i _ _)

/-- The head entry delivered keeps the conservation of impressions (R72, R78). -/
theorem conserved_deliver {x : Station} {e : InFlight} {rest : List InFlight} (queue : x.queue = e :: rest)
    (h : Conserved x) : Conserved { x with queue := rest, meters := deliverMeter e x.meters } := by
  simp only [Conserved, queue, impressionsOf_cons, Config.meterModulus] at h ⊢
  unfold deliverMeter
  split <;> simp only [addMeter, Config.meterModulus] <;> omega

/-- An entry taken back keeps the conservation of impressions (R76, R78). -/
theorem conserved_writeOff {x : Station} {e : InFlight} {rest : List InFlight} (queue : x.queue = e :: rest)
    (h : Conserved x) :
    Conserved { x with
      queue := rest, meters := { x.meters with writtenOff := addMeter x.meters.writtenOff e.impressions } } := by
  simp only [Conserved, queue, impressionsOf_cons, addMeter, Config.meterModulus] at h ⊢
  omega

variable {e : InFlight} {rest : List InFlight} {s}

theorem exitOne_kept (s : State) : Kept w s (exitOne i s) := by
  simp only [exitOne]
  split
  · exact unchargedExit_kept w i s
  · next e rest queue =>
    refine Kept.trans ?_ (afterRemoval_kept w i _ _ _)
    rw [setQueue_updMeters]
    exact moveSheet_kept w i (f := deliverMeter e) (conserved_deliver queue) fun h => by rw [queue] at h; exact Nat.le_of_succ_le h

theorem takeBack_kept (queue : (s.st i).queue = e :: rest) : Kept w s (takeBack i e rest s) := by
  have off : Kept w s (setQueue i rest (s.updMeters i fun m => { m with writtenOff := addMeter m.writtenOff e.impressions })) := by
    rw [setQueue_updMeters]
    exact moveSheet_kept w i (f := fun m => { m with writtenOff := addMeter m.writtenOff e.impressions })
      (conserved_writeOff queue) fun h => by rw [queue] at h; exact Nat.le_of_succ_le h
  simp only [takeBack]
  split
  · exact (off.trans (creditSheet_kept w i e _)).trans (offerShow_kept w i _)
  · exact off

theorem overdueOne_kept (s : State) : Kept w s (overdueOne i s) := by
  simp only [overdueOne]
  split
  · exact .refl w s
  · next queue => exact ((takeBack_kept w i queue).trans (raiseAnomaly_kept w i _ _)).trans (afterRemoval_kept w i _ _ _)

theorem judgeHeads_kept (b : Bool) (n : Nat) (s : State) : Kept w s (judgeHeads b i n s) := by
  induction n generalizing s with
  | zero => exact .refl w s
  | succ n ih =>
    have chosen : Kept w s (removalFirst b s).2 := by
      cases b
      · exact .refl w s
      · exact choose_kept w s
    simp only [judgeHeads]
    split
    · split
      · exact (chosen.trans (overdueOne_kept w i _)).trans (ih _)
      · exact chosen
    · exact .refl w s

theorem headExpires_kept (s : State) : Kept w s (headExpires i s) := judgeHeads_kept w i false _ s

theorem exits_kept (n : Nat) (s : State) : Kept w s (exits i n s) := by
  induction n generalizing s with
  | zero => exact .refl w s
  | succ n ih => exact ((exitOne_kept w i s).trans (judgeHeads_kept w i _ _ _)).trans (ih _)

theorem exitsEvent_kept (n : Nat) (s : State) : Kept w s (exitsEvent i n s) := by
  unfold exitsEvent
  split
  · exact .refl w s
  · exact (activity_kept w i s).trans (exits_kept w i n _)

/-! ## Picks and drops -/

theorem pickAt_kept (p : SheetSpec) (s : State) : Kept w s (pickAt i p s) := by
  simp only [pickAt]
  split
  · exact (updLine_kept w i s rfl rfl id).trans (pickRaised_kept w i _ _ _)
  · exact .refl w s

theorem withdrawRaised_kept (l : Latch) (s : State) : Kept w s (withdrawRaised i l s) := by
  simp only [withdrawRaised]
  split
  · exact pickWithdrawn_kept w i _ s
  · exact .refl w s

theorem dropAt_kept (s : State) : Kept w s (dropAt i s) := by
  simp only [dropAt]
  split
  · exact (updLine_kept w i s rfl rfl id).trans (withdrawRaised_kept w i _ _)
  · exact .refl w s

end

/-! ## The gaps at a station -/

theorem popMeanwhile_kept (w : Waiver) (s : State) : Kept w s s.popMeanwhile.2 := by
  unfold State.popMeanwhile
  split
  · exact .refl w s
  · exact ⟨keptButRoom_of_same w (fun _ => rfl) (.inr rfl) rfl rfl rfl rfl rfl rfl, id⟩

theorem atStation_kept {w : Waiver} {i : StationId} {f : State → State} (h : ∀ s, Kept w s (f s)) (s : State) :
    Kept w s (atStation i f s) := by
  unfold atStation
  split
  · exact h s
  · exact .refl w s

section
variable {w : Waiver} (unwaived : ∀ i, ¬ w.auth i)
include unwaived

theorem takeActivity_kept (e : Meanwhile) (s : State) : Kept w s (takeActivity e s) := by
  cases e with
  | pick i p => exact atStation_kept (pickAt_kept w i p) s
  | dropped i => exact atStation_kept (dropAt_kept w i) s
  | exits i n =>
    show Kept w s (atStation i (fun t => if (t.st i).line.present then exitsEvent i n.val t else t) s)
    refine atStation_kept (fun t => ?_) s
    split
    · exact exitsEvent_kept w i _ t
    · exact .refl w t
  | message i m => exact atStation_kept (fun t => deliver_kept w i m t (unwaived i)) s
  | _ => exact .refl w s

theorem takeGap_kept (admits : Meanwhile → Bool) (s : State) : Kept w s (takeGap admits takeActivity s) :=
  (popMeanwhile_kept w s).trans (foldl_kept w (fun t e => takeActivity_kept unwaived e t) _ _)

theorem drainAmidActivity_kept {i : StationId} {r : CloseReason} {s : State}
    (opened : holdsQueue (s.st i).session.state = true) (reason : sessionReason r) :
    Kept w s (drainAmidActivity i r s) :=
  ((startDraining_kept opened fun _ => reason).trans (takeGap_kept unwaived _ _)).trans (drainCheck_kept w i _)

theorem idleExpires_kept (i : StationId) (s : State) : Kept w s (idleExpires i s) := by
  simp only [idleExpires]
  split
  · next h => exact drainAmidActivity_kept unwaived (by rw [h.2]; rfl) (by simp [sessionReason])
  · exact .refl w s

theorem takeFrozen_kept (i : StationId) (s : State) : Kept w s (takeFrozen i s) := by
  simp only [takeFrozen]
  split
  · next h => exact drainAmidActivity_kept unwaived (by rw [h.1]; rfl) (by simp [sessionReason])
  · exact takeReason_kept w i s (by simp [sessionReason])

theorem freezeSessions_kept (n : Nat) (s : State) : Kept w s (freezeSessions n s) :=
  (inOpenOrder_kept w _ s).trans (foldl_kept w (fun t i => takeFrozen_kept unwaived i t) _ _)

end

/-! ## The removal series (R76) -/

theorem takeBack_queue (i : StationId) (e : InFlight) (rest : List InFlight) (s : State) :
    ((takeBack i e rest s).st i).queue = rest := by
  have off : ((setQueue i rest (s.updMeters i fun m => { m with writtenOff := addMeter m.writtenOff e.impressions })).st i).queue
      = rest := by simp [setQueue, syncIdle]
  have offered : ∀ (m : DownMsg) (t : State), ((offer i m t).st i).queue = (t.st i).queue := fun m t => by
    simp only [offer, raiseAnomaly]
    split
    · rfl
    · split
      · simp
      · split <;> simp
  have credited : ∀ t, ((creditSheet i e t).st i).queue = (t.st i).queue := fun t => by
    simp only [creditSheet, creditAccount, putAccount]
    split
    · split
      · split
        · simp
        · split <;> simp
      · simp
    · rfl
  simp only [takeBack]
  split
  · rw [offerShow, offered, credited, off]
  · exact off

theorem creditSheet_sameSessions (i : StationId) (e : InFlight) (s : State) : SameSessions s (creditSheet i e s) := by
  have taken : SameSessions s (s.updSession i (creditRecord e.impressions e.price)) := upd_sameSessions ⟨rfl, rfl, rfl, rfl⟩
  have put : ∀ a t, SameSessions t (putAccount a t) := fun _ _ => sameSessions_of_st fun _ => rfl
  simp only [creditSheet]
  split
  · split
    · refine taken.trans ?_
      simp only [creditAccount]
      split
      · exact .refl _
      · split
        · exact put _ _
        · exact (put _ _).trans (upd_sameSessions ⟨rfl, rfl, rfl, rfl⟩)
    · exact taken
  · exact .refl s

theorem takeBack_sameSessions (i : StationId) (e : InFlight) (rest : List InFlight) (s : State) :
    SameSessions s (takeBack i e rest s) := by
  have off : SameSessions s
      (setQueue i rest (s.updMeters i fun m => { m with writtenOff := addMeter m.writtenOff e.impressions })) :=
    (upd_sameSessions ⟨rfl, rfl, rfl, rfl⟩).trans (setQueue_sameSessions i rest _)
  simp only [takeBack]
  split
  · exact (off.trans (creditSheet_sameSessions i e _)).trans (offerShow_sameSessions i _)
  · exact off

theorem creditNext_kept (w : Waiver) (i : StationId) (q : List InFlight) {s : State} (queue : (s.st i).queue = q) :
    Kept w s (creditNext i q s).2 := by
  induction q generalizing s with
  | nil => exact .refl w s
  | cons e rest ih =>
    simp only [creditNext]
    split
    · exact takeBack_kept w i queue
    · exact (takeBack_kept w i queue).trans (ih (takeBack_queue i e rest s))

theorem creditNext_sameSessions (i : StationId) (q : List InFlight) (s : State) : SameSessions s (creditNext i q s).2 := by
  induction q generalizing s with
  | nil => exact .refl s
  | cons e rest ih =>
    simp only [creditNext]
    split
    · exact takeBack_sameSessions i e rest s
    · exact (takeBack_sameSessions i e rest s).trans (ih _)

theorem creditNext_local (i : StationId) (q : List InFlight) (s : State) : LocalTo i s (creditNext i q s).2 := by
  induction q generalizing s with
  | nil => exact .refl i s
  | cons e rest ih =>
    simp only [creditNext]
    split
    · exact takeBack_local i e rest s
    · exact (takeBack_local i e rest s).trans (ih _)

theorem removeAll_kept (w : Waiver) (i : StationId) (q : List InFlight) {s : State} (queue : (s.st i).queue = q) :
    Kept w s (removeAll i q s) := by
  induction q generalizing s with
  | nil => exact .refl w s
  | cons e rest ih => exact (takeBack_kept w i queue).trans (ih (takeBack_queue i e rest s))

theorem removeAll_sameSessions (i : StationId) (q : List InFlight) (s : State) : SameSessions s (removeAll i q s) := by
  induction q generalizing s with
  | nil => exact .refl s
  | cons e rest ih => exact (takeBack_sameSessions i e rest s).trans (ih _)

/-! ## Stoppages and recovery -/

theorem stoppage_kept (w : Waiver) (i : StationId) (c : Cause) (s : State) : Kept w s (stoppage i c s) := by
  have h := (updRecovery_kept w i (fun r => { r with stoppage := some c }) s).trans (raiseJam_kept w i _ .stoppage c 0)
  simp only [stoppage]
  split
  · exact h.trans (stallUnlessHeld_kept w i _)
  · exact h

theorem reopenSession_kept (w : Waiver) (i : StationId) (s : State) : Kept w s (reopenSession i s) := by
  simp only [reopenSession]
  split
  · next stalled =>
    have holds : holdsQueue (s.st i).session.state = true := by rw [stalled]; rfl
    split
    · exact (setSession_kept_opened holds rfl rfl id).trans (reevaluate_kept w i _)
    · next r pending => exact goDraining_kept holds fun h => h.pending pending
  · exact .refl w s

theorem stopStallTimer_kept (w : Waiver) (i : StationId) (s : State) : Kept w s (stopStallTimer i s) :=
  updRecovery_kept w i _ s

theorem recoveryEnds_kept (w : Waiver) (i : StationId) (c : Cause) (n : Nat) (s : State) :
    Kept w s (recoveryEnds i c n s) :=
  (((afterRemoval_kept w i s true (n != 0)).trans (reopenSession_kept w i _)).trans (updRecovery_kept w i _ _)).trans
    (raiseJam_kept w i _ _ _ _)

theorem takeCode_kept (w : Waiver) (i : StationId) (c : Code) (s : State) : Kept w s (takeCode i c s) := by
  cases c with
  | jam l => exact stoppage_kept w i _ s
  | doorOpen => exact stoppage_kept w i _ s
  | fault => exact stoppage_kept w i _ s
  | _ => exact .refl w s

/-- A reported code has the idle timer judged (R7). -/
theorem codeReported_kept (w : Waiver) (i : StationId) (s : State) : Kept w s (codeReported i s) :=
  (syncIdle_kept w i s).trans (raiseStation_kept w i _)

theorem timerRight_codeReported (i : StationId) (s : State) : TimerRight ((codeReported i s).st i) := by
  have right := timerRight_syncIdle i s
  rw [codeReported, raiseStation, st_upd_self]
  exact right

/-- A removal reported within a recovery leaves a session that is not DRAINING as it is (R71). -/
theorem afterRemoval_sameSessions {i : StationId} (c : Bool) {s : State} (undrained : (s.st i).session.state ≠ .draining) :
    SameSessions s (afterRemoval true c i s) := by
  have drained : (if c then drainCheck i s else s) = s := by simp [drainCheck, undrained]
  have changed : ∀ h, SameSessions s (changeHold true i h s) := fun h => by
    simp only [changeHold, Bool.not_true, Bool.false_eq_true, and_false, if_false]
    exact ((upd_sameSessions ⟨rfl, rfl, rfl, rfl⟩).trans (syncIdle_sameSessions i _)).trans (reevaluate_sameSessions i _)
  rw [afterRemoval, drained]
  refine SameSessions.trans ?_ (reevaluate_sameSessions i _)
  simp only [holdWhenEmpty]
  split
  · split
    · exact changed _
    · exact changed _
    · exact .refl s
    · exact .refl s
  · exact .refl s

theorem stallTimeoutEnds_kept (w : Waiver) (i : StationId) (c : Option Cause) (n : Nat) (s : State)
    (stalled : (s.st i).session.state = .stalled) : Kept w s (stallTimeoutEnds i c n s) := by
  have still := ((afterRemoval_sameSessions (n != 0) (by rw [stalled]; nofun)).state i).trans stalled
  have closed := (afterRemoval_kept w i s true (n != 0)).trans
    (closeStep_kept w i .stallTimeout .closed _ (by rw [still]; rfl))
  have out := ((closed.trans (reevaluate_kept w i _)).trans (setAvailability_kept w i .outOfService _)).trans
    (updRecovery_kept w i (fun r => { r with disablePending := false }) _)
  cases c
  · exact out
  · exact out.trans (raiseJam_kept w i _ _ _ _)

/-! ## HALT at a station (R42, R43) -/

theorem haltEnds_kept (w : Waiver) (i : StationId) (s : State) (ended : (s.st i).session.state = .none) :
    Kept w s (haltEnds i s) := by
  have removed : Kept w s (removeEntry i (some .halt) s) :=
    removeEntry_kept _ fun _ _ => authRight_none rfl fun st => by
      rw [show (s.st i).session.state = .authorizing from st] at ended; cases ended
  simp only [haltEnds]
  split
  · exact removed.trans (reevaluate_kept w i _)
  · exact (removed.trans (setHold_kept w i _ _)).trans (reevaluate_kept w i _)

/-- HALT at a station whose session holds no queue is taken at once (R42). -/
theorem haltTaken_kept (w : Waiver) (i : StationId) (s : State) :
    Kept w s (haltEnds i (abandonAuthorizing i (some .stopped) (removeEntry i (some .halt) s))) :=
  (abandon_restores _ (removeEntry_waived w i _ s) fun _ => removeEntry_auth i _ s).trans
    (haltEnds_kept w i _ (abandonAuthorizing_state i _ _))

/-- The session of a series that will close it can be closed (R43, R91). -/
def SeriesStands (r : Series) (x : Station) : Prop :=
  match r.occasion with
  | .recovery _ _ => True
  | .stallTimeout _ _ => x.session.state = .stalled
  | .halt => holdsQueue x.session.state = true

theorem endSeries_kept (w : Waiver) {r : Series} {s : State} (stands : SeriesStands r (s.st r.station)) :
    Kept w s (endSeries r s) := by
  unfold SeriesStands at stands
  unfold endSeries
  split <;> rename_i occasion <;> rw [occasion] at stands
  · exact (recoveryEnds_kept w _ _ _ s).trans (codeReported_kept w _ _)
  · exact stallTimeoutEnds_kept w _ _ _ s stands
  · exact (closeStep_kept w _ _ _ s stands).trans (haltEnds_kept w _ _ (closeStep_state _ _ _ s))

end Sys2Proof.Machine
end

section
/-!
PROOFS. What the requests at the host line and the host line's own operations keep (chapters 6 to 10), HALT apart; and that no
request but HALT ends a stall.
-/

namespace Sys2Proof.Machine

/-! ## Sessions that stay STALLED -/

/-- A STALLED session stays STALLED. -/
def StalledStay (s t : State) : Prop := ∀ j, (s.st j).session.state = .stalled → (t.st j).session.state = .stalled

theorem StalledStay.trans {s t u : State} (h : StalledStay s t) (k : StalledStay t u) : StalledStay s u :=
  fun j st => k j (h j st)

theorem SameSessions.stalledStay {s t : State} (h : SameSessions s t) : StalledStay s t := fun j st => (h.state j).trans st

/-- What an operation at one station leaves of the sessions of the others. -/
theorem stalledStay_at {i : StationId} {s t : State} (others : ∀ j, j ≠ i → t.st j = s.st j)
    (here : (s.st i).session.state = .stalled → (t.st i).session.state = .stalled) : StalledStay s t := fun j st => by
  by_cases e : j = i
  · subst e; exact here st
  · rw [others j e]; exact st

theorem keepReason_state (i : StationId) (r : CloseReason) (s : State) :
    ((keepReason i r s).st i).session.state = (s.st i).session.state := by simp [keepReason]

theorem takeReason_stalledStay (i : StationId) (r : CloseReason) (s : State) : StalledStay s (takeReason i r s) :=
  stalledStay_at (takeReason_local i r s).others fun st => by
    simp only [takeReason, st]
    rw [keepReason_state, st]

theorem stallUnlessHeld_of_stalled {i : StationId} {s : State} (st : (s.st i).session.state = .stalled) :
    stallUnlessHeld i s = s := by simp [stallUnlessHeld, st, canStall]

theorem changeHold_stalledStay (b : Bool) (i : StationId) (h : HoldState) (s : State) : StalledStay s (changeHold b i h s) :=
  stalledStay_at (changeHold_local b i h s).others fun st => by
    have held : ((setHold i h s).st i).session.state = .stalled := by simp [setHold, syncIdle, st]
    simp only [changeHold, stallUnlessHeld_of_stalled held, ite_self]
    exact ((reevaluate_sameSessions i _).state i).trans held

theorem resultApplied_stalledStay (i : StationId) (k : AuthKind) (n : Nat) (s : State) :
    StalledStay s (applyResult i k n (removeEntry i none s)) :=
  stalledStay_at ((removeEntry_local i none s).trans (applyResult_local i k n _)).others fun st => by
    have removed : ((removeEntry i none s).st i).session.state = .stalled := by rw [removeEntry_session, st]
    have marked : ∀ f : Session → Session, (f ((removeEntry i none s).st i).session).state = .stalled →
        ((reevaluate i ((removeEntry i none s).updSession i f)).st i).session.state = .stalled := fun f h => by
      rw [(reevaluate_sameSessions i _).state, st_updSession]; exact h
    cases k <;> simp only [applyResult] <;> split
    · simp only [declineInitial, removed, reduceCtorEq, if_false]
    · simp only [approveInitial, removed, reduceCtorEq, if_false]
    · exact marked _ removed
    · exact marked _ removed

theorem takeFrozen_stalledStay (i : StationId) {s : State} (st : (s.st i).session.state = .stalled) :
    StalledStay s (takeFrozen i s) := by
  simp only [takeFrozen, st, reduceCtorEq, false_and, if_false]
  exact takeReason_stalledStay i _ s

/-! ### What reaches one station alone, whatever the tape of the gaps holds -/

/-- No station but `i` is touched. -/
def OnlyAt (i : StationId) (s t : State) : Prop := ∀ j, j ≠ i → t.st j = s.st j

theorem OnlyAt.refl (i : StationId) (s : State) : OnlyAt i s s := fun _ _ => rfl

theorem OnlyAt.trans {i : StationId} {s t u : State} (h : OnlyAt i s t) (k : OnlyAt i t u) : OnlyAt i s u :=
  fun j ne => (k j ne).trans (h j ne)

theorem LocalTo.onlyAt {i : StationId} {s t : State} (h : LocalTo i s t) : OnlyAt i s t := h.others

theorem atStation_onlyAt {i : StationId} {f : State → State} (h : ∀ s, OnlyAt i s (f s)) (s : State) :
    OnlyAt i s (atStation i f s) := by
  unfold atStation
  split
  · exact h s
  · exact .refl i s

/-- Activity at a station touches that station alone. -/
theorem takeActivity_onlyAt {i : StationId} {e : Meanwhile} (at_i : activityAt i e = true) (s : State) :
    OnlyAt i s (takeActivity e s) := by
  cases e with
  | pick j p => cases eq_of_beq at_i; exact atStation_onlyAt (fun t => (pickAt_local _ p t).onlyAt) s
  | dropped j => cases eq_of_beq at_i; exact atStation_onlyAt (fun t => (dropAt_local _ t).onlyAt) s
  | exits j n =>
    cases eq_of_beq at_i
    show OnlyAt _ s (atStation _ (fun t => if (t.st _).line.present then exitsEvent _ n.val t else t) s)
    refine atStation_onlyAt (fun t => ?_) s
    split
    · exact (exitsEvent_local _ _ t).onlyAt
    · exact .refl _ t
  | message j m => cases eq_of_beq at_i; exact atStation_onlyAt (fun t => (deliver_local _ m t).onlyAt) s
  | _ => exact .refl i s

theorem popMeanwhile_st (s : State) (i : StationId) : s.popMeanwhile.2.st i = s.st i := by
  unfold State.popMeanwhile
  split <;> rfl

theorem takeGap_onlyAt (i : StationId) (s : State) : OnlyAt i s (takeGap (activityAt i) takeActivity s) := by
  have each : ∀ (es : List Meanwhile) (t : State), (∀ e ∈ es, activityAt i e = true) →
      OnlyAt i t (es.foldl (fun t e => takeActivity e t) t) := by
    intro es
    induction es with
    | nil => exact fun t _ => .refl i t
    | cons e rest ih =>
      exact fun t all => (takeActivity_onlyAt (all e List.mem_cons_self) t).trans
        (ih _ fun x hx => all x (List.mem_cons_of_mem _ hx))
  have popped : OnlyAt i s s.popMeanwhile.2 := fun j _ => popMeanwhile_st s j
  exact popped.trans (each _ _ fun e he => (List.mem_filter.1 he).2)

theorem drainAmidActivity_onlyAt (i : StationId) (r : CloseReason) (s : State) : OnlyAt i s (drainAmidActivity i r s) :=
  ((startDraining_local i r s).onlyAt.trans (takeGap_onlyAt i _)).trans (drainCheck_local i _).onlyAt

theorem idleExpires_onlyAt (i : StationId) (s : State) : OnlyAt i s (idleExpires i s) := by
  simp only [idleExpires]
  split
  · exact drainAmidActivity_onlyAt i _ s
  · exact .refl i s

theorem takeFrozen_onlyAt (i : StationId) (s : State) : OnlyAt i s (takeFrozen i s) := by
  simp only [takeFrozen]
  split
  · exact drainAmidActivity_onlyAt i _ s
  · exact (takeReason_local i _ s).onlyAt

theorem takeFrozen_keepsStalled (i : StationId) (s : State) : StalledStay s (takeFrozen i s) :=
  stalledStay_at (takeFrozen_onlyAt i s) fun st => takeFrozen_stalledStay i st i st

theorem choose_st (s : State) (i : StationId) : s.choose.2.st i = s.st i := by
  unfold State.choose
  split <;> rfl

theorem inOpenOrder_st {α : Type} (xs : List α) (s : State) (i : StationId) : (inOpenOrder xs s).2.st i = s.st i := by
  unfold inOpenOrder
  split
  · rfl
  · exact choose_st s i

theorem freezeSessions_stalledStay (n : Nat) (s : State) : StalledStay s (freezeSessions n s) := by
  have each : ∀ (is : List StationId) (t : State), StalledStay t (is.foldl (fun t i => takeFrozen i t) t) := by
    intro is
    induction is with
    | nil => exact fun _ _ => id
    | cons i rest ih => exact fun t => (takeFrozen_keepsStalled i t).trans (ih _)
  have ordered : SameSessions s (inOpenOrder (payingStations s n) s).2 := sameSessions_of_st (inOpenOrder_st _ s)
  exact ordered.stalledStay.trans (each _ _)

/-! ## Requests -/

/-- What an owner's answer keeps: every invariant, and every stall. -/
structure AnswerKept (w : Waiver) (s : State) (a : Answered) : Prop where
  kept : Kept w s a.state
  stalled : StalledStay s a.state

theorem AnswerKept.same {w : Waiver} {s : State} {a : Answered} (h : a.state = s) : AnswerKept w s a := by
  rw [← h]
  exact ⟨.refl w _, fun _ => id⟩

theorem AnswerKept.ok {w : Waiver} {s t : State} {body : List Byte} (kept : Kept w s t) (stalled : StalledStay s t) :
    AnswerKept w s (answerOk body t) := ⟨kept, stalled⟩

/-- An answer that touches no station. -/
theorem AnswerKept.ofSt {w : Waiver} {s t : State} {body : List Byte} (kept : Kept w s t) (st : ∀ j, t.st j = s.st j) :
    AnswerKept w s (answerOk body t) := .ok kept (sameSessions_of_st st).stalledStay

theorem AnswerKept.onStation {w : Waiver} {s : State} {b : Byte} {f : StationId → Answered}
    (h : ∀ i, AnswerKept w s (f i)) : AnswerKept w s (onStation b s f) := by
  unfold Machine.onStation
  split
  · exact .same rfl
  · exact h _

theorem AnswerKept.onStored {w : Waiver} {s : State} {n : BitVec 24} {f : Account → Answered}
    (h : ∀ a, findAccount s.accounts n.toNat = some a → AnswerKept w s (f a)) : AnswerKept w s (onStored n s f) := by
  unfold Machine.onStored
  split
  · exact .same rfl
  · split
    · exact .same rfl
    · next a found => exact h a found

section
variable {w : Waiver} (unwaived : ∀ i, ¬ w.auth i) (s : State)

/-! ### The part as a whole, and the tables -/

omit unwaived in
theorem takeStart_kept : AnswerKept w s (takeStart s) := by
  unfold takeStart
  split
  · exact .ofSt (updHost_kept w _ s rfl rfl) fun _ => rfl
  · exact .same rfl

theorem takeStop_kept : AnswerKept w s (takeStop s) := by
  unfold takeStop
  split
  · exact .ofSt ((updHost_kept w (fun h => { h with op := .stopping }) s rfl rfl).trans (stopWhenEmpty_kept w _))
      fun j => stopWhenEmpty_st _ j
  · exact .same rfl

theorem takeSetLevels_kept (a b c d e : Byte) : AnswerKept w s (takeSetLevels a b c d e s) := by
  unfold takeSetLevels
  split
  · exact .ofSt (updHost_kept w _ s rfl rfl) fun _ => rfl
  · exact .same rfl

theorem takeSetTariff_kept (c m k : Byte) (p : BitVec 16) : AnswerKept w s (takeSetTariff c m k p s) := by
  unfold takeSetTariff
  split
  · exact .same rfl
  · split
    · exact .ofSt (updCharge_kept w _ s) fun _ => rfl
    · exact .same rfl

theorem takeSetTiers_kept (c d0 : Byte) (t1 : BitVec 24) (d1 : Byte) (t2 : BitVec 24) (d2 : Byte) (t3 : BitVec 24) (d3 : Byte) :
    AnswerKept w s (takeSetTiers c d0 t1 d1 t2 d2 t3 d3 s) := by
  unfold takeSetTiers
  split
  · exact .same rfl
  · split
    · exact .same rfl
    · split
      · exact .same rfl
      · split
        · exact .same rfl
        · exact .ofSt (updCharge_kept w _ s) fun _ => rfl

theorem writeRange_kept (e : Fin 8) (r : Option Range) : AnswerKept w s (writeRange e r s) := by
  unfold writeRange
  split
  · exact .same rfl
  · split
    · exact .same rfl
    · exact .ofSt (updAccounts_kept w _ s fun bound order => ⟨bound, order⟩) fun _ => rfl

theorem takeSetRange_kept (e o : Byte) (l h : BitVec 24) (k c : Byte) (v : BitVec 24) :
    AnswerKept w s (takeSetRange e o l h k c v s) := by
  unfold takeSetRange
  split
  · exact .same rfl
  · split
    · exact .same rfl
    · split
      · exact writeRange_kept s _ _
      · split
        · split
          · exact .same rfl
          · exact writeRange_kept s _ _
        · exact .same rfl

theorem takeSetCardPolicy_kept (h i t : BitVec 16) (c : Byte) (l m : BitVec 16) (p : BitVec 24) :
    AnswerKept w s (takeSetCardPolicy h i t c l m p s) := by
  unfold takeSetCardPolicy
  split
  · exact .same rfl
  · split
    · exact .same rfl
    · split
      · exact .same rfl
      · exact .ofSt (updCards_kept w _ s id id) fun _ => rfl

/-! ### Accounts -/

include unwaived in
theorem putFreezing_kept {n k : Nat} {a b : Account} (frozen : Bool) (found : findAccount s.accounts n = some a)
    (number : b.number = a.number) : AnswerKept w s (answerAccount k (putFreezing frozen b s)) := by
  have put : Kept w s (putAccount b s) := putStored_kept w found number
  have same : SameSessions s (putAccount b s) := sameSessions_of_st fun _ => rfl
  unfold putFreezing
  split
  · exact .ok (put.trans (freezeSessions_kept unwaived _ _)) (same.stalledStay.trans (freezeSessions_stalledStay _ _))
  · exact .ok put same.stalledStay

include unwaived in
theorem takeAccountPut_kept (n : BitVec 24) (b : BitVec 32) (st m : Byte) : AnswerKept w s (takeAccountPut n b st m s) := by
  unfold takeAccountPut putChecked
  split
  · exact .same rfl
  · split
    · exact .same rfl
    · split
      · split
        · split
          · exact .same rfl
          · next room =>
            split
            · exact .same rfl
            · exact .ofSt (putAccount_kept w _ s (.inr (Nat.lt_of_not_le room))) fun _ => rfl
        · next a found =>
          split
          · exact .same rfl
          · split
            · exact .same rfl
            · exact putFreezing_kept unwaived s _ found rfl
      · exact .same rfl

theorem takeAccountAdjust_kept (n : BitVec 24) (b : BitVec 32) : AnswerKept w s (takeAccountAdjust n b s) :=
  .onStored fun a found => by
    dsimp only
    split
    · exact .same rfl
    · exact .ofSt (putStored_kept w found rfl) fun _ => rfl

include unwaived in
theorem takeAccountFreeze_kept (n : BitVec 24) : AnswerKept w s (takeAccountFreeze n s) :=
  .onStored fun a found => by
    split
    · exact .same rfl
    · exact putFreezing_kept unwaived s _ found rfl

theorem takeAccountThaw_kept (n : BitVec 24) : AnswerKept w s (takeAccountThaw n s) :=
  .onStored fun a found => by
    split
    · exact .ofSt (putStored_kept w found rfl) fun _ => rfl
    · exact .same rfl

theorem takeAccountRemove_kept (n : BitVec 24) : AnswerKept w s (takeAccountRemove n s) :=
  .onStored fun a _ => by
    split
    · exact .same rfl
    · exact .ofSt (updAccounts_kept w _ s fun bound order =>
        ⟨(List.length_filter_le _ _).trans bound, order.filter _⟩) fun _ => rfl

/-! ### Cards and the journal -/

theorem takeAuthResult_kept (n : BitVec 16) (o : Byte) (a : BitVec 24) : AnswerKept w s (takeAuthResult n o a s) := by
  unfold takeAuthResult
  split
  · exact .same rfl
  · split
    · exact .same rfl
    · split
      · exact .same rfl
      · next entry => exact ⟨resultApplied_kept w _ _ s entry, resultApplied_stalledStay _ _ _ s⟩

theorem takeDenyAdd_kept (t : Token) : AnswerKept w s (takeDenyAdd t s) := by
  unfold takeDenyAdd
  split
  · exact .same rfl
  · split
    · exact .same rfl
    · next room => exact .ofSt (updCards_kept w _ s (fun _ => by simpa using Nat.lt_of_not_le room) id) fun _ => rfl

theorem takeDenyRemove_kept (t : Token) : AnswerKept w s (takeDenyRemove t s) := by
  unfold takeDenyRemove
  split
  · exact .ofSt (updCards_kept w _ s (fun h => (List.length_filter_le _ _).trans h) id) fun _ => rfl
  · exact .same rfl

theorem takeDenyClear_kept : AnswerKept w s (takeDenyClear s) :=
  .ofSt (updCards_kept w _ s (fun _ => Nat.zero_le _) id) fun _ => rfl

theorem takeStandinList_kept (b : Byte) : AnswerKept w s (takeStandinList b s) := by
  unfold takeStandinList
  split <;> exact .same rfl

theorem takeStandinClear_kept (t : Token) : AnswerKept w s (takeStandinClear t s) := by
  unfold takeStandinClear
  split
  · exact .same rfl
  · split
    · exact .ofSt (updCards_kept w _ s id fun h => (List.length_eraseP_le).trans h) fun _ => rfl
    · exact .same rfl

theorem takeJournalRead_kept (n : Byte) : AnswerKept w s (takeJournalRead n s) := by
  unfold takeJournalRead
  split <;> exact .same rfl

theorem setLevel_st (l : Urgency) (s : State) (i : StationId) : (setLevel l s).st i = s.st i := by
  rw [setLevel_spec]; rfl

theorem releaseRecords_kept (n : Nat) : Kept w s (releaseRecords n s) := by
  unfold releaseRecords
  split
  · exact .refl w s
  · exact (updJournal_kept w (fun j => { j with records := j.records.drop n }) s
      (by simp)).trans (setLevel_kept w _ _)

theorem releaseRecords_st (n : Nat) (j : StationId) : (releaseRecords n s).st j = s.st j := by
  unfold releaseRecords
  split
  · rfl
  · exact setLevel_st _ _ j

theorem takeJournalRelease_kept (n : BitVec 16) (e : BitVec 32) : AnswerKept w s (takeJournalRelease n e s) := by
  unfold takeJournalRelease
  split
  · exact .same rfl
  · split
    · exact .same rfl
    · split
      · exact .same rfl
      · exact .ofSt (releaseRecords_kept s _) (releaseRecords_st s _)

/-! ### Stations -/

theorem takeStationEnable_kept (b : Byte) : AnswerKept w s (takeStationEnable b s) :=
  .onStation fun i => by
    split
    · exact .same rfl
    · split
      · exact ⟨setAvailability_kept w i _ s, (setAvailability_sameSessions i _ s).stalledStay⟩
      · exact .ok (updRecovery_kept w i _ s) (upd_sameSessions (s := s) ⟨rfl, rfl, rfl, rfl⟩).stalledStay

theorem takeStationDisable_kept (b : Byte) : AnswerKept w s (takeStationDisable b s) :=
  .onStation fun i => by
    have marked : SameSessions s (s.updRecovery i fun r => { r with disablePending := true }) :=
      upd_sameSessions ⟨rfl, rfl, rfl, rfl⟩
    split
    · exact .same rfl
    · split
      · exact .ok ((updRecovery_kept w i _ s).trans (takeReason_kept w i _ (by simp [sessionReason])))
          (marked.stalledStay.trans (takeReason_stalledStay i _ _))
      · exact ⟨setAvailability_kept w i _ s, (setAvailability_sameSessions i _ s).stalledStay⟩

theorem takeSessionEnd_kept (b : Byte) : AnswerKept w s (takeSessionEnd b s) :=
  .onStation fun i => by
    split
    · exact ⟨takeReason_kept w i s (by simp [sessionReason]), takeReason_stalledStay i _ s⟩
    · exact .same rfl

theorem takeServiceHold_kept (b : Byte) : AnswerKept w s (takeServiceHold b s) :=
  .onStation fun i => by
    split
    · exact ⟨changeHold_kept w i s false _, changeHold_stalledStay false i _ s⟩
    all_goals exact .same rfl

theorem takeServiceRelease_kept (b : Byte) : AnswerKept w s (takeServiceRelease b s) :=
  .onStation fun i => by
    split
    · exact ⟨changeHold_kept w i s false _, changeHold_stalledStay false i _ s⟩
    · exact ⟨changeHold_kept w i s false _, changeHold_stalledStay false i _ s⟩
    all_goals exact .same rfl

theorem takeMeterClear_kept (b : Byte) : AnswerKept w s (takeMeterClear b s) :=
  .onStation fun i => by
    split
    · next empty =>
      refine .ok (updMeters_kept w i s fun _ => ?_) (upd_sameSessions (s := s) ⟨rfl, rfl, rfl, rfl⟩).stalledStay
      simp [Conserved, Meters.zero, impressionsOf, List.isEmpty_iff.1 empty]
    · exact .same rfl

/-- Every owner's answer keeps every invariant and every stall. -/
theorem ownerAnswer_kept (unwaived : ∀ i, ¬ w.auth i) {r : Request} {a : Answered} (h : ownerAnswer r s = some a) :
    AnswerKept w s a := by
  cases r <;> cases h
  case status => exact .same rfl
  case start => exact takeStart_kept s
  case stop => exact takeStop_kept s
  case setTimers => exact .ofSt (updHost_kept w _ s rfl rfl) fun _ => rfl
  case setLevels => exact takeSetLevels_kept s ..
  case setClock => exact .ofSt (updJournal_kept w _ s le_rfl) fun _ => rfl
  case setTariff => exact takeSetTariff_kept s ..
  case setTiers => exact takeSetTiers_kept s ..
  case setRange => exact takeSetRange_kept s ..
  case setCardPolicy => exact takeSetCardPolicy_kept s ..
  case cardPolicyGet => exact .same rfl
  case accountPut => exact takeAccountPut_kept unwaived s ..
  case accountGet => exact .onStored fun _ _ => .same rfl
  case accountAdjust => exact takeAccountAdjust_kept s ..
  case accountFreeze => exact takeAccountFreeze_kept unwaived s _
  case accountThaw => exact takeAccountThaw_kept s _
  case accountRemove => exact takeAccountRemove_kept s _
  case authResult => exact takeAuthResult_kept s ..
  case authPending => exact .ofSt (inOpenOrder_kept w _ s) (inOpenOrder_st _ s)
  case denyAdd => exact takeDenyAdd_kept s _
  case denyRemove => exact takeDenyRemove_kept s _
  case denyClear => exact takeDenyClear_kept s
  case standinList => exact takeStandinList_kept s _
  case standinClear => exact takeStandinClear_kept s _
  case journalRead => exact takeJournalRead_kept s _
  case journalRelease => exact takeJournalRelease_kept s ..
  case stationGet => exact .onStation fun _ => .same rfl
  case stationEnable => exact takeStationEnable_kept s _
  case stationDisable => exact takeStationDisable_kept s _
  case sessionEnd => exact takeSessionEnd_kept s _
  case serviceHold => exact takeServiceHold_kept s _
  case serviceRelease => exact takeServiceRelease_kept s _
  case meterGet => exact .onStation fun _ => .same rfl
  case meterClear => exact takeMeterClear_kept s _

end

/-! ## The host line -/

section
variable (w : Waiver) (s : State)

theorem bufferReply_kept (k : Byte) (a : Answered) : Kept w a.state (bufferReply k a) := updHost_kept w _ _ rfl rfl

theorem enqueue_kept (f : HostFrame) : Kept w s (enqueue f s) := by
  rcases enqueue_cases f s with ⟨room, e⟩ | ⟨-, e⟩ <;> rw [e]
  · exact ⟨keptButRoom_of_same w (fun _ => rfl) (.inl (by simpa [Config.receiveRoom] using room)) rfl rfl rfl rfl rfl rfl, id⟩
  · exact ⟨keptButRoom_of_same w (fun _ => rfl) (.inr rfl) rfl rfl rfl rfl rfl rfl, id⟩

theorem enqueue_st (f : HostFrame) (j : StationId) : (enqueue f s).st j = s.st j := rfl

/-- The receive queue without some of its requests keeps everything. -/
theorem dequeue_kept {rest : List HostFrame} (shorter : rest.length ≤ s.host.received.length) :
    Kept w s (s.updHost fun h => { h with received := rest }) :=
  ⟨⟨id, id, id, fun h => { h with received := shorter.trans h.received }, id, rfl⟩, id⟩

theorem htxEnds_kept : Kept w s (htxEnds s).2 := by
  unfold htxEnds
  split
  · exact .refl w s
  · exact updHost_kept w (fun h => { h with htx := .free, reply := .empty }) s rfl rfl
  · exact updHost_kept w (fun h => { h with htx := .free }) s rfl rfl

theorem htxEnds_st (j : StationId) : (htxEnds s).2.st j = s.st j := by
  unfold htxEnds
  split <;> rfl

/-- The build of a notice changes a station's conditions and the host line, if anything. -/
theorem buildNotice_cases : buildNotice s = s ∨ (∃ n served f i, buildNotice s = sendNotice n served (s.updCond i f)) ∨
    buildNotice s = buildJournal s := by
  have auth : ∀ i, buildAuth i s = s ∨ ∃ n served f, buildAuth i s = sendNotice n served (s.updCond i f) := fun i => by
    unfold buildAuth
    split
    · exact .inr ⟨_, _, _, rfl⟩
    · exact .inr ⟨_, _, _, rfl⟩
    · exact .inl rfl
  have jam : ∀ i, buildJam i s = s ∨ ∃ n served f, buildJam i s = sendNotice n served (s.updCond i f) := fun i => by
    unfold buildJam
    split
    · exact .inr ⟨_, _, _, rfl⟩
    · exact .inl rfl
  have station : ∀ i, buildStation i s = s ∨ ∃ n served f, buildStation i s = sendNotice n served (s.updCond i f) := fun i => by
    unfold buildStation
    split
    · exact .inr ⟨_, _, _, rfl⟩
    · exact .inr ⟨_, _, _, rfl⟩
    · exact .inl rfl
  unfold buildNotice
  split
  · split
    · next c _ =>
      unfold buildClass
      split
      · exact .inr (.inr rfl)
      · split
        · next i _ =>
          cases c with
          | auth => exact (auth i).imp_right fun ⟨n, f, g, e⟩ => .inl ⟨n, f, g, i, e⟩
          | jam => exact (jam i).imp_right fun ⟨n, f, g, e⟩ => .inl ⟨n, f, g, i, e⟩
          | session => exact .inr (.inl ⟨.session i (s.st i).session.state (s.st i).session.number,
              fun l => { l with session := i }, fun x => { x with session := false }, i, rfl⟩)
          | station => exact (station i).imp_right fun ⟨n, f, g, e⟩ => .inl ⟨n, f, g, i, e⟩
          | anomaly => exact .inr (.inl ⟨.anomaly i (s.st i).cond.anomalies (s.st i).cond.latestAnomaly,
              fun l => { l with anomaly := i }, fun x => { x with anomalies := 0 }, i, rfl⟩)
          | journal => exact .inr (.inr rfl)
        · exact .inl rfl
    · exact .inl rfl
  · exact .inl rfl

theorem arbitrate_kept : Kept w s (arbitrate s) ∧ SameSessions s (arbitrate s) := by
  unfold arbitrate
  split
  · split
    · exact ⟨updHost_kept w _ s rfl rfl, sameSessions_of_st fun _ => rfl⟩
    · rcases buildNotice_cases s with e | ⟨n, served, f, i, e⟩ | e <;> rw [e]
      · exact ⟨.refl w s, .refl s⟩
      · have read : SameSessions s (s.updCond i f) := upd_sameSessions ⟨rfl, rfl, rfl, rfl⟩
        exact ⟨(updCond_kept w i f s).trans (updHost_kept w _ _ rfl rfl), read.trans (sameSessions_of_st fun _ => rfl)⟩
      · unfold buildJournal sendNotice
        exact ⟨(updHost_kept w _ s rfl rfl).trans (updHost_kept w _ _ rfl rfl), sameSessions_of_st fun _ => rfl⟩
    · exact ⟨.refl w s, .refl s⟩
  · exact ⟨.refl w s, .refl s⟩

end

end Sys2Proof.Machine
end

section
/-!
PROOFS. What the jobs of a command and the gaps between them keep (log entry 20): an invariant of the jobs that are left, kept by
every event that a gap admits, from which the end of the last job keeps everything.
-/

namespace Sys2Proof.Machine

/-! ## From the beginning of a command

A code that is confirmed waits for its report to the idle timer, through a recovery that it may begin. -/

/-- The idle timers of some stations waived. -/
def Waiver.timers (p : StationId → Prop) : Waiver := ⟨fun _ => False, p⟩

/-- What has been kept since nothing was waived, the idle timers of some stations apart. -/
structure KeptTo (p : StationId → Prop) (s t : State) : Prop where
  conserved : ImpressionsConserved s → ImpressionsConserved t
  timers : TimersRightBut .none s → TimersRightBut (.timers p) t
  auth : AuthTableRight s → AuthTableRight t
  room : JournalHasRoom s → JournalHasRoom t
  capacity : WithinCapacity s → WithinCapacity t
  reasons : CloseReasonsRight s → CloseReasonsRight t
  pending : t.pending = s.pending

theorem KeptTo.andThen {p : StationId → Prop} {s t u : State} (h : KeptTo p s t) (k : Kept (.timers p) t u) : KeptTo p s u where
  conserved := k.conserved ∘ h.conserved
  timers := k.timers ∘ h.timers
  auth before i := k.auth (fun j _ => h.auth before j) i id
  room := k.room ∘ h.room
  capacity := k.capacity ∘ h.capacity
  reasons := k.reasons ∘ h.reasons
  pending := k.pending.trans h.pending

/-- The waived stations may change where the timers of those that are waived no more are right. -/
theorem KeptTo.rewaive {p q : StationId → Prop} {s t : State} (h : KeptTo p s t)
    (right : ∀ i, p i → q i ∨ TimerRight (t.st i)) : KeptTo q s t where
  conserved := h.conserved
  timers before := by
    obtain ⟨absent, timer⟩ := h.timers before
    refine ⟨absent, fun i unwaived => ?_⟩
    by_cases waived : p i
    · exact (right i waived).resolve_left unwaived
    · exact timer i waived
  auth := h.auth
  room := h.room
  capacity := h.capacity
  reasons := h.reasons
  pending := h.pending

theorem KeptTo.of_kept {p : StationId → Prop} {s t : State} (h : Kept (.timers p) s t) : KeptTo p s t where
  conserved := h.conserved
  timers before := h.timers ⟨before.1, fun i _ => before.2 i id⟩
  auth before i := h.auth (fun j _ => before j) i id
  room := h.room
  capacity := h.capacity
  reasons := h.reasons
  pending := h.pending

theorem Kept.of_keptTo {s t : State} (h : KeptTo (fun _ => False) s t) : Kept .none s t where
  conserved := h.conserved
  timers := h.timers
  auth before i _ := h.auth (fun j => before j id) i
  room := h.room
  capacity := h.capacity
  reasons := h.reasons
  pending := h.pending

/-! ## The jobs that are left -/

/-- A removal series under way. -/
def Job.isSeries : Job → Bool
  | .series _ => true
  | _ => false

/-- HALT at a station that it has yet to take, or is taking. -/
def Job.isHaltPart : Job → Bool
  | .halt _ => true
  | .series r => r.occasion == .halt
  | _ => false

/-- A job that ends in a report of station `i` to its idle timer. -/
def Job.reports (i : StationId) : Job → Prop
  | .event k (.codeConfirmed _) => k = i
  | .series ⟨k, .recovery _ _⟩ => k = i
  | _ => False

/-- The stations whose report is still to come. -/
def reporting (jobs : List Job) (i : StationId) : Prop := ∃ j ∈ jobs, j.reports i

theorem reporting_cons (j : Job) (jobs : List Job) (i : StationId) :
    reporting (j :: jobs) i ↔ j.reports i ∨ reporting jobs i := by simp [reporting]

theorem reporting_append (xs ys : List Job) (i : StationId) :
    reporting (xs ++ ys) i ↔ reporting xs i ∨ reporting ys i := by simp [reporting, or_and_right, exists_or]

/-- What holds of the jobs of a command at every gap: a series comes first among the jobs of its station; while HALT takes a station,
and after its first record, no event of an arrival is left; and HALT has its end among the jobs. -/
structure JobsRight (jobs : List Job) : Prop where
  noExpiry : ∀ i, Job.stallExpiry i ∉ jobs
  first : jobs.Pairwise fun j k => k.isSeries = true → j.station ≠ k.station
  arrivalsOver : (∃ j ∈ jobs, j.isHaltSeries = true) ∨ haltRecorded jobs = true → ∀ j ∈ jobs, j.isEvent = false
  halting : ∀ j ∈ jobs, j.isHaltPart = true → halting jobs = true

/-- The session of every series that will close it can be closed. -/
def AllStand (jobs : List Job) (s : State) : Prop := ∀ r, Job.series r ∈ jobs → SeriesStands r (s.st r.station)

/-- The invariant of the jobs that are left and the state they have come to. -/
structure WorkRight (s : State) (w : Work) : Prop where
  kept : KeptTo (reporting w.jobs) s w.state
  jobs : JobsRight w.jobs
  stand : AllStand w.jobs w.state

theorem seriesStands_of_state {r : Series} {x y : Station} (h : y.session.state = x.session.state) (k : SeriesStands r x) :
    SeriesStands r y := by
  unfold SeriesStands at *
  split at k
  · trivial
  · exact h.trans k
  · rw [h]; exact k

theorem isHaltSeries_series (r : Series) : (Job.series r).isHaltSeries = true ↔ r.occasion = .halt := by
  simp [Job.isHaltSeries]

theorem isHaltPart_of_isHaltSeries {j : Job} (h : j.isHaltSeries = true) : j.isHaltPart = true := by
  cases j <;> first | exact h | cases h

/-- Two series are not of one station. -/
theorem JobsRight.series_ne {pre rest : List Job} {r q : Series} (h : JobsRight (pre ++ .series r :: rest))
    (other : Job.series q ∈ pre ++ rest) : q.station ≠ r.station := by
  obtain ⟨-, tail, before⟩ := List.pairwise_append.1 h.first
  rcases List.mem_append.1 other with m | m
  · intro e
    exact before _ m (.series r) List.mem_cons_self rfl (congrArg some e)
  · intro e
    exact (List.pairwise_cons.1 tail).1 _ m rfl (congrArg some e.symm)

theorem halting_append (xs ys : List Job) : halting (xs ++ ys) = (halting xs || halting ys) := by simp [halting]

theorem haltRecorded_append (xs ys : List Job) : haltRecorded (xs ++ ys) = (haltRecorded xs || haltRecorded ys) := by
  simp [haltRecorded]

/-- Without one job that is not HALT's end, the jobs are right. -/
theorem JobsRight.remove {pre rest : List Job} {j : Job} (h : JobsRight (pre ++ j :: rest)) (notEnd : j.isHalted = false) :
    JobsRight (pre ++ rest) := by
  have sub : (pre ++ rest).Sublist (pre ++ j :: rest) := (List.Sublist.refl pre).append (List.sublist_cons_self j rest)
  have same : Machine.halting (pre ++ j :: rest) = Machine.halting (pre ++ rest) := by simp [Machine.halting, notEnd]
  refine ⟨fun i m => h.noExpiry i (sub.subset m), h.first.sublist sub, fun noEvents k m => h.arrivalsOver ?_ k (sub.subset m),
    fun k m part => same ▸ h.halting k (sub.subset m) part⟩
  refine noEvents.imp (fun ⟨k, m, series⟩ => ⟨k, sub.subset m, series⟩) fun recorded => ?_
  rw [haltRecorded_append] at recorded ⊢
  simp only [haltRecorded, List.any_cons, Bool.or_eq_true] at recorded ⊢
  tauto

/-- A series put before all jobs of its station leaves the jobs right. -/
theorem JobsRight.insert {pre rest : List Job} {r : Series} (h : JobsRight (pre ++ rest))
    (before : ∀ x ∈ pre, x.station ≠ some r.station) (behind : ∀ x ∈ rest, x.isSeries = true → some r.station ≠ x.station)
    (noEvents : r.occasion = .halt → ∀ x ∈ pre ++ rest, x.isEvent = false)
    (halts : r.occasion = .halt → Machine.halting (pre ++ rest) = true) : JobsRight (pre ++ .series r :: rest) := by
  obtain ⟨preFirst, restFirst, between⟩ := List.pairwise_append.1 h.first
  have member : ∀ x, x ∈ pre ++ Job.series r :: rest ↔ x = .series r ∨ x ∈ pre ++ rest := fun x => by
    simp only [List.mem_append, List.mem_cons]; tauto
  have same : Machine.halting (pre ++ .series r :: rest) = Machine.halting (pre ++ rest) := by
    simp [Machine.halting, Job.isHalted]
  have sameRecorded : haltRecorded (pre ++ .series r :: rest) = haltRecorded (pre ++ rest) := by simp [haltRecorded]
  refine ⟨fun i m => ?_, List.pairwise_append.2 ⟨preFirst, List.pairwise_cons.2 ⟨behind, restFirst⟩, fun x m y my s => ?_⟩,
    fun found x m => ?_, fun x m part => ?_⟩
  · exact h.noExpiry i (((member _).1 m).resolve_left nofun)
  · rcases List.mem_cons.1 my with rfl | my
    · exact before x m
    · exact between x m y my s
  · have others : ∀ y ∈ pre ++ rest, y.isEvent = false := by
      rcases found with ⟨y, my, hs⟩ | recorded
      · rcases (member y).1 my with rfl | my
        · exact noEvents ((isHaltSeries_series r).1 hs)
        · exact h.arrivalsOver (.inl ⟨y, my, hs⟩)
      · exact h.arrivalsOver (.inr (sameRecorded ▸ recorded))
    rcases (member x).1 m with rfl | m
    · rfl
    · exact others x m
  · rw [same]
    rcases (member x).1 m with rfl | m
    · exact halts ((isHaltSeries_series r).1 part)
    · exact h.halting x m part

/-- A series in the place of another job of its station, before all the others of that station. -/
theorem JobsRight.replace {pre rest : List Job} {j : Job} {r : Series} (h : JobsRight (pre ++ j :: rest))
    (station : j.station = some r.station) (first : ∀ x ∈ pre, x.station ≠ some r.station) (notEnd : j.isHalted = false)
    (part : r.occasion = .halt → j.isHaltPart = true ∧ ∀ x ∈ pre ++ rest, x.isEvent = false) :
    JobsRight (pre ++ .series r :: rest) := by
  obtain ⟨-, tail, -⟩ := List.pairwise_append.1 h.first
  refine (h.remove notEnd).insert first (fun x m series => ?_) (fun halt => (part halt).2) fun halt => ?_
  · rw [← station]
    exact (List.pairwise_cons.1 tail).1 x m series
  · simpa [Machine.halting, notEnd] using h.halting j (by simp) (part halt).1

/-! ### The marks of HALT's records -/

/-- A job as it stands once HALT has made a record. -/
def Job.recorded : Job → Job
  | .halted replies _ => .halted replies true
  | j => j

theorem markRecorded_eq (jobs : List Job) : markRecorded jobs = jobs.map Job.recorded := by
  unfold markRecorded
  congr 1

theorem Job.recorded_station (j : Job) : j.recorded.station = j.station := by cases j <;> rfl
theorem Job.recorded_isSeries (j : Job) : j.recorded.isSeries = j.isSeries := by cases j <;> rfl
theorem Job.recorded_isHaltPart (j : Job) : j.recorded.isHaltPart = j.isHaltPart := by cases j <;> rfl
theorem Job.recorded_isEvent (j : Job) : j.recorded.isEvent = j.isEvent := by cases j <;> rfl
theorem Job.recorded_isHalted (j : Job) : j.recorded.isHalted = j.isHalted := by cases j <;> rfl

theorem Job.recorded_eq_series {j : Job} {r : Series} : j.recorded = .series r ↔ j = .series r := by
  cases j <;> simp [Job.recorded]

theorem Job.recorded_reports (j : Job) (i : StationId) : j.recorded.reports i ↔ j.reports i := by cases j <;> rfl

theorem reporting_markRecorded (jobs : List Job) (i : StationId) : reporting (markRecorded jobs) i ↔ reporting jobs i := by
  simp [markRecorded_eq, reporting, Job.recorded_reports]

/-- With no event of an arrival left, the mark leaves the jobs right. -/
theorem JobsRight.markRecorded {pre rest : List Job} (h : JobsRight (pre ++ rest))
    (noEvents : ∀ j ∈ pre ++ rest, j.isEvent = false) : JobsRight (pre ++ Machine.markRecorded rest) := by
  rw [markRecorded_eq]
  obtain ⟨preFirst, restFirst, between⟩ := List.pairwise_append.1 h.first
  have same : Machine.halting (pre ++ rest.map Job.recorded) = Machine.halting (pre ++ rest) := by
    simp [Machine.halting, Function.comp_def, Job.recorded_isHalted]
  refine ⟨fun i m => ?_, List.pairwise_append.2 ⟨preFirst, ?_, ?_⟩, fun _ j m => ?_, fun j m part => ?_⟩
  · rcases List.mem_append.1 m with m | m
    · exact h.noExpiry i (List.mem_append_left _ m)
    · obtain ⟨j, mj, e⟩ := List.mem_map.1 m
      cases j <;> cases e
      exact h.noExpiry i (List.mem_append_right _ mj)
  · rw [List.pairwise_map]
    simpa only [Job.recorded_isSeries, Job.recorded_station] using restFirst
  · intro j mj k mk
    obtain ⟨k', mk', rfl⟩ := List.mem_map.1 mk
    simpa only [Job.recorded_isSeries, Job.recorded_station] using between j mj k' mk'
  · rcases List.mem_append.1 m with m | m
    · exact noEvents j (List.mem_append_left _ m)
    · obtain ⟨j', mj, rfl⟩ := List.mem_map.1 m
      rw [Job.recorded_isEvent]; exact noEvents j' (List.mem_append_right _ mj)
  · rw [same]
    rcases List.mem_append.1 m with m | m
    · exact h.halting j (List.mem_append_left _ m) part
    · obtain ⟨j', mj, rfl⟩ := List.mem_map.1 m
      rw [Job.recorded_isHaltPart] at part
      exact h.halting j' (List.mem_append_right _ mj) part

/-! ## A series that goes on, and its end -/

/-- What a recovery's end leaves: its station's timer is right. -/
theorem timerRight_endSeries {r : Series} {i : StationId} (reports : (Job.series r).reports i) (s : State) :
    TimerRight ((endSeries r s).st i) := by
  obtain ⟨k, o⟩ := r
  cases o with
  | recovery c n =>
    have station : k = i := reports
    rw [← station]
    show TimerRight ((codeReported k (recoveryEnds k c n s)).st k)
    exact timerRight_codeReported k _
  | stallTimeout c n => cases reports
  | halt => cases reports

/-- A series with the credits that it has made: nothing else has moved. -/
structure Credited (r : Series) (s t : State) : Prop where
  kept : ∀ w, Kept w s t
  sessions : SameSessions s t
  only : OnlyAt r.station s t

theorem WorkRight.credited {s : State} {jobs : List Job} {t u : State} {r : Series} (h : WorkRight s ⟨jobs, t⟩)
    (c : Credited r t u) : WorkRight s ⟨jobs, u⟩ :=
  ⟨h.kept.andThen (c.kept _), h.jobs, fun q m => seriesStands_of_state (c.sessions.state _) (h.stand q m)⟩

/-- The end of a series: the jobs without it are right. -/
theorem WorkRight.ended {s : State} {pre rest : List Job} {t : State} {r : Series}
    (h : WorkRight s ⟨pre ++ .series r :: rest, t⟩) : WorkRight s ⟨pre ++ rest, endSeries r t⟩ := by
  have stands := h.stand r (by simp)
  refine ⟨(h.kept.andThen (endSeries_kept _ stands)).rewaive fun i waived => ?_, h.jobs.remove rfl, fun q m => ?_⟩
  · simp only [reporting_append, reporting_cons] at waived ⊢
    rcases waived with w | w | w
    · exact .inl (.inl w)
    · exact .inr (timerRight_endSeries w _)
    · exact .inl (.inr w)
  · have other := h.jobs.series_ne m
    rw [(endSeries_local r t).others _ other]
    refine h.stand q ?_
    simp only [List.mem_append, List.mem_cons] at m ⊢
    tauto

theorem creditNext_credited (r : Series) (s : State) :
    Credited r s (creditNext r.station (s.st r.station).queue s).2 :=
  ⟨fun w => creditNext_kept w _ _ rfl, creditNext_sameSessions _ _ s, (creditNext_local _ _ s).onlyAt⟩

theorem removeAll_credited (r : Series) (s : State) :
    Credited r s (removeAll r.station (s.st r.station).queue s) :=
  ⟨fun w => removeAll_kept w _ _ rfl, removeAll_sameSessions _ _ s, (removeAll_local _ _ s).onlyAt⟩

/-- A series that goes on leaves the jobs right. -/
theorem WorkRight.seriesOn {s : State} {pre rest : List Job} {t : State} {r : Series}
    (h : WorkRight s ⟨pre ++ .series r :: rest, t⟩) :
    WorkRight s ⟨pre ++ (Machine.seriesOn r rest t).jobs, (Machine.seriesOn r rest t).state⟩ := by
  have credited := h.credited (creditNext_credited r t)
  unfold Machine.seriesOn
  dsimp only
  split
  · exact credited
  · have ended := credited.ended
    split
    · next halt =>
      have noEvents : ∀ j ∈ pre ++ rest, j.isEvent = false := fun j m => by
        refine h.jobs.arrivalsOver (.inl ⟨.series r, by simp, (isHaltSeries_series r).2 halt⟩) j ?_
        simp only [List.mem_append, List.mem_cons] at m ⊢
        tauto
      refine ⟨ended.kept.rewaive fun i waived => .inl ?_, ended.jobs.markRecorded noEvents, fun q m => ended.stand q ?_⟩
      · simpa only [reporting_append, reporting_markRecorded] using waived
      · simpa only [markRecorded_eq, List.mem_append, List.mem_map, Job.recorded_eq_series, exists_eq_right] using m
    · exact ended

/-! ## HALT that takes a station -/

/-- A job done at a station that no series holds leaves the others right. -/
theorem WorkRight.done {s : State} {pre rest : List Job} {t u : State} {j : Job} {i : StationId}
    (h : WorkRight s ⟨pre ++ j :: rest, t⟩) (notEnd : j.isHalted = false)
    (kept : Kept (.timers (reporting (pre ++ j :: rest))) t u) (only : OnlyAt i t u)
    (free : ∀ r, Job.series r ∈ pre ++ rest → r.station ≠ i)
    (right : ∀ k, j.reports k → TimerRight (u.st k)) : WorkRight s ⟨pre ++ rest, u⟩ := by
  refine ⟨(h.kept.andThen kept).rewaive fun k waived => ?_, h.jobs.remove notEnd, fun q m => ?_⟩
  · simp only [reporting_append, reporting_cons] at waived ⊢
    rcases waived with w | w | w
    · exact .inl (.inl w)
    · exact .inr (right k w)
    · exact .inl (.inr w)
  · rw [only _ (free q m)]
    refine h.stand q ?_
    simp only [List.mem_append, List.mem_cons] at m ⊢
    tauto

theorem haltStation_kept (w : Waiver) (i : StationId) (s : State) : Kept w s (haltStation i s).2 := by
  unfold haltStation
  dsimp only
  split
  · exact .refl w s
  split
  · dsimp only
    exact haltTaken_kept w i s
  · next unheld state =>
    dsimp only
    refine haltEnds_kept w i s ?_
    revert unheld state
    cases (s.st i).session.state <;> simp [holdsQueue]

/-- HALT at a station begins a series where its session can be closed. -/
theorem haltStation_series {i : StationId} {s : State} {r : Series} (h : (haltStation i s).1 = some r) :
    r = ⟨i, .halt⟩ ∧ (haltStation i s).2 = s ∧ SeriesStands r (s.st i) := by
  by_cases holds : holdsQueue (s.st i).session.state = true
  · have begun : haltStation i s = (some ⟨i, .halt⟩, s) := if_pos holds
    rw [begun] at h ⊢
    obtain rfl := Option.some.inj h.symm
    exact ⟨rfl, rfl, holds⟩
  · have none : (haltStation i s).1 = .none := by
      unfold haltStation
      dsimp only
      rw [if_neg holds]
      split <;> rfl
    rw [none] at h
    exact nomatch h

/-- The jobs with what has begun at the first of them: its series, or nothing. -/
def begunJobs (b : Begun) (rest : List Job) : List Job :=
  match b.1 with
  | none => rest
  | some r => .series r :: rest

/-- What has begun goes on at once. -/
theorem WorkRight.begun {s : State} {pre rest : List Job} {b : Begun} (h : WorkRight s ⟨pre ++ begunJobs b rest, b.2⟩) :
    WorkRight s ⟨pre ++ (begunOn b rest).jobs, (begunOn b rest).state⟩ := by
  obtain ⟨begun, t⟩ := b
  cases begun with
  | none => exact h
  | some r => exact WorkRight.seriesOn h

/-- What has begun is taken whole. -/
theorem WorkRight.begunWhole {s : State} {pre rest : List Job} {b : Begun} (h : WorkRight s ⟨pre ++ begunJobs b rest, b.2⟩) :
    WorkRight s ⟨pre ++ rest, takenWhole b⟩ := by
  obtain ⟨begun, t⟩ := b
  cases begun with
  | none => exact h
  | some r => exact (WorkRight.credited h (removeAll_credited r t)).ended

/-- HALT goes on to a station, with no event of an arrival left. -/
theorem WorkRight.haltOn {s : State} {pre rest : List Job} {t : State} {i : StationId}
    (h : WorkRight s ⟨pre ++ .halt i :: rest, t⟩) (first : ∀ x ∈ pre, x.station ≠ some i)
    (noEvents : ∀ x ∈ pre ++ rest, x.isEvent = false) :
    WorkRight s ⟨pre ++ begunJobs (haltStation i t) rest, (haltStation i t).2⟩ := by
  have free : ∀ r, Job.series r ∈ pre ++ rest → r.station ≠ i := fun r m e => by
    obtain ⟨-, tail, -⟩ := List.pairwise_append.1 h.jobs.first
    rcases List.mem_append.1 m with m | m
    · exact first _ m (congrArg some e)
    · exact (List.pairwise_cons.1 tail).1 _ m rfl (congrArg some e.symm)
  unfold begunJobs
  split
  · exact h.done rfl (haltStation_kept _ i t) (haltStation_begun i t).frame.onlyAt free fun k reports => by cases reports
  · next r begun =>
    obtain ⟨rfl, state, stands⟩ := haltStation_series begun
    rw [state]
    refine ⟨h.kept.rewaive fun k waived => .inl ?_, ?_, fun q m => ?_⟩
    · simp only [reporting_append, reporting_cons] at waived ⊢
      exact waived.imp id fun w => .inr (w.resolve_left id)
    · exact h.jobs.replace rfl first rfl fun _ => ⟨rfl, noEvents⟩
    · simp only [List.mem_append, List.mem_cons] at m
      rcases m with m | m | m
      · exact h.stand q (by simp [m])
      · cases m; exact stands
      · exact h.stand q (by simp [m])

end Sys2Proof.Machine
end

section
/-!
PROOFS. The jobs of a command worked off keep everything (log entry 20): the turn in which they are taken, the events of the gaps, and
the two together.
-/

namespace Sys2Proof.Machine

/-! ## The turn -/

/-- HALT at a station that it has yet to take. -/
def Job.isHaltAtStation : Job → Bool
  | .halt _ => true
  | _ => false

/-- What holds of the order in which the jobs are taken: HALT's end comes after its stations, and these after the events of an
arrival. -/
def TurnRight (jobs : List Job) : Prop :=
  jobs.Pairwise fun j k => (j.isHalted = true → k.isHaltPart = false) ∧ (j.isHaltAtStation = true → k.isEvent = false)

/-- A list put in the order of ranks: pairs of one rank keep their order, and of two pairs of other ranks the lower goes first. -/
theorem pairwise_byRank {α : Type} {R : α → α → Prop} {rank : α → Nat} {xs : List α}
    (same : xs.Pairwise fun x y => rank x = rank y → R x y) (lower : ∀ x ∈ xs, ∀ y ∈ xs, rank x < rank y → R x y)
    {ks : List Nat} (sorted : ks.Pairwise (· < ·)) : (ks.flatMap fun k => xs.filter fun x => rank x == k).Pairwise R := by
  refine List.pairwise_flatMap.2 ⟨fun k _ => ?_, sorted.imp fun less x mx y my => ?_⟩
  · refine (same.filter _).imp_of_mem fun mx my r => r ?_
    have hx := (List.mem_filter.1 mx).2
    have hy := (List.mem_filter.1 my).2
    simp only [beq_iff_eq] at hx hy
    omega
  · obtain ⟨mx, hx⟩ := List.mem_filter.1 mx
    obtain ⟨my, hy⟩ := List.mem_filter.1 my
    simp only [beq_iff_eq] at hx hy
    exact lower x mx y my (by omega)

/-- A station whose series closes its session is put off once HALT has made a record (R143). -/
def putOff (w : Work) (i : Option StationId) : Bool :=
  haltRecorded w.jobs && (w.jobs.filterMap (closingSeries w.state)).any fun k => i == some k

theorem haltRank_eq (w : Work) (j : Job) : haltRank w j =
    if j.isHalted then 4 else if putOff w j.station then 3 else if j.isHaltSeries then 1 else if j.isHaltAtStation then 2 else 0 := by
  cases j <;> rfl

theorem haltRank_le (w : Work) (j : Job) : haltRank w j ≤ 4 := by
  rw [haltRank_eq]
  split_ifs <;> omega

theorem mem_inTurn (w : Work) (j : Job) : j ∈ w.inTurn ↔ j ∈ w.jobs := by
  unfold Work.inTurn
  split
  · have := haltRank_le w j
    simp only [List.flatMap_cons, List.flatMap_nil, List.append_nil, List.mem_append, List.mem_filter, beq_iff_eq,
      ← and_or_left, and_iff_left_iff_imp]
    omega
  · rfl

theorem haltRank_event {w : Work} (right : JobsRight w.jobs) {j : Job} (m : j ∈ w.jobs) (event : j.isEvent = true) :
    haltRank w j = 0 := by
  have unrecorded : haltRecorded w.jobs = false := by
    by_contra recorded
    rw [right.arrivalsOver (.inr (by simpa using recorded)) j m] at event
    cases event
  rw [haltRank_eq, putOff, unrecorded]
  cases j <;> first | rfl | cases event

theorem haltRank_halted {w : Work} {j : Job} (h : j.isHalted = true) : haltRank w j = 4 := by rw [haltRank_eq, if_pos h]

theorem isHalted_of_haltRank {w : Work} {j : Job} (h : haltRank w j = 4) : j.isHalted = true := by
  rw [haltRank_eq] at h
  split_ifs at h with ended
  · exact ended
  all_goals cases h

theorem haltRank_halt {w : Work} {j : Job} (h : j.isHaltAtStation = true) : 2 ≤ haltRank w j := by
  obtain ⟨i, rfl⟩ : ∃ i, j = .halt i := by cases j <;> first | exact ⟨_, rfl⟩ | cases h
  rw [haltRank_eq]
  simp only [Job.isHalted, Job.isHaltSeries, Job.isHaltAtStation]
  split_ifs <;> simp_all

/-- A job of a series' station that goes before it is a series too. -/
theorem isSeries_of_haltRank_lt {w : Work} (right : JobsRight w.jobs) {j k : Job} (mj : j ∈ w.jobs) (mk : k ∈ w.jobs)
    (series : k.isSeries = true) (station : j.station = k.station) (lower : haltRank w j < haltRank w k) : j.isSeries = true := by
  obtain ⟨r, rfl⟩ : ∃ r, k = .series r := by cases k <;> first | exact ⟨_, rfl⟩ | cases series
  have halt : Job.isHaltSeries (.series r) = true ∧ j.isHaltAtStation = false ∧ j.isHalted = false := by
    have ranks : ∀ ended off halt atStation series : Bool,
        (if ended then 4 else if off then 3 else if halt then 1 else if atStation then 2 else 0) <
          (if off then 3 else if series then 1 else 0) → series = true ∧ atStation = false ∧ ended = false := by decide
    rw [haltRank_eq, haltRank_eq, station] at lower
    exact ranks _ _ _ _ _ lower
  cases j with
  | series q => rfl
  | halted a b => exact nomatch halt.2.2
  | stallExpiry i => exact absurd mj (right.noExpiry i)
  | event i e => exact nomatch right.arrivalsOver (.inl ⟨_, mk, halt.1⟩) _ mj
  | halt i => exact nomatch halt.2.1

theorem any_inTurn (w : Work) (p : Job → Bool) : w.inTurn.any p = w.jobs.any p := by
  rw [Bool.eq_iff_iff, List.any_eq_true, List.any_eq_true]
  simp only [mem_inTurn]

theorem ranks_ordered : [0, 1, 2, 3, 4].Pairwise (· < ·) := by decide

/-- The jobs in their turn are right. -/
theorem JobsRight.inTurn {w : Work} (h : JobsRight w.jobs) : JobsRight w.inTurn := by
  refine ⟨fun i m => h.noExpiry i ((mem_inTurn w _).1 m), ?_, fun found j m => ?_, fun j m part => ?_⟩
  · unfold Work.inTurn
    split
    · have same : w.jobs.Pairwise fun x y => haltRank w x = haltRank w y → (y.isSeries = true → x.station ≠ y.station) := by
        refine h.first.imp ?_
        exact fun apart _ => apart
      refine pairwise_byRank same (fun j mj k mk lower series station => ?_) ranks_ordered
      have both := isSeries_of_haltRank_lt h mj mk series station lower
      have apart : w.jobs.Pairwise fun x y => x.isSeries = true ∧ y.isSeries = true → x.station ≠ y.station :=
        h.first.imp fun r b => r b.2
      have symmetric : Std.Symm fun x y : Job => x.isSeries = true ∧ y.isSeries = true → x.station ≠ y.station :=
        ⟨fun x y r b => (r b.symm).symm⟩
      exact apart.forall mj mk (by rintro rfl; omega) ⟨both, series⟩ station
    · exact h.first
  · refine h.arrivalsOver (found.imp (fun ⟨k, at_k, hk⟩ => ⟨k, (mem_inTurn w k).1 at_k, hk⟩) fun r => ?_) j ((mem_inTurn w j).1 m)
    rwa [haltRecorded, any_inTurn] at r
  · rw [Machine.halting, any_inTurn]
    exact h.halting j ((mem_inTurn w j).1 m) part

theorem isHaltPart_of_isHaltAtStation {j : Job} (h : j.isHaltAtStation = true) : j.isHaltPart = true := by
  cases j <;> first | rfl | cases h

/-- The turn of right jobs is right. -/
theorem JobsRight.turnRight {w : Work} (h : JobsRight w.jobs) : TurnRight w.inTurn := by
  have order : ∀ j ∈ w.jobs, ∀ k ∈ w.jobs, haltRank w j ≤ haltRank w k →
      (j.isHalted = true → k.isHaltPart = false) ∧ (j.isHaltAtStation = true → k.isEvent = false) := by
    intro j mj k mk le
    refine ⟨fun ended => ?_, fun halt => ?_⟩
    · have last := isHalted_of_haltRank (le_antisymm (haltRank_le w k) (haltRank_halted (w := w) ended ▸ le))
      cases k <;> first | rfl | cases last
    · by_contra event
      have first := haltRank_event h mk (by simpa using event)
      have later := haltRank_halt (w := w) halt
      omega
  unfold Work.inTurn TurnRight
  split
  · exact pairwise_byRank (List.pairwise_of_forall_mem_list fun j mj k mk same => order j mj k mk same.le)
      (fun j mj k mk lower => order j mj k mk lower.le) ranks_ordered
  · next idle =>
    have noHalt : ∀ j ∈ w.jobs, j.isHaltPart = false := fun j m => by
      by_contra part
      exact idle (h.halting j m (by simpa using part))
    refine List.pairwise_of_forall_mem_list fun j mj k mk => ⟨fun _ => noHalt k mk, fun halt => ?_⟩
    exact nomatch (noHalt j mj).symm.trans (isHaltPart_of_isHaltAtStation halt)

/-- The jobs in their turn are right, in the state that they have come to. -/
theorem WorkRight.inTurn {s : State} {w : Work} (h : WorkRight s w) : WorkRight s ⟨w.inTurn, w.state⟩ :=
  ⟨h.kept.rewaive fun _ ⟨j, m, reports⟩ => .inl ⟨j, (mem_inTurn w j).2 m, reports⟩, h.jobs.inTurn,
    fun r m => h.stand r ((mem_inTurn w _).1 m)⟩

/-! ## A job that begins -/

/-- A series at the head joins where its job stood. -/
theorem WorkRight.seriesBegins {s : State} {rest : List Job} {t u : State} {j : Job} {r : Series}
    (h : WorkRight s ⟨j :: rest, t⟩) (notEnd : j.isHalted = false) (station : j.station = some r.station)
    (other : r.occasion ≠ .halt) (kept : ∀ w, Kept w t u) (sessions : SameSessions t u) (stands : SeriesStands r (u.st r.station))
    (reports : ∀ i, j.reports i → (Job.series r).reports i) : WorkRight s ⟨.series r :: rest, u⟩ := by
  refine ⟨(h.kept.andThen (kept _)).rewaive fun i waived => .inl ?_, ?_, fun q m => ?_⟩
  · simp only [reporting_cons] at waived ⊢
    exact waived.imp (reports i) id
  · exact JobsRight.replace (pre := []) h.jobs station (by simp) notEnd fun halt => absurd halt other
  · rcases List.mem_cons.1 m with e | m
    · cases e; exact stands
    · exact seriesStands_of_state (sessions.state _) (h.stand q (List.mem_cons_of_mem _ m))

/-- The station of the first job holds no series behind it. -/
theorem JobsRight.headFree {j : Job} {rest : List Job} (h : JobsRight (j :: rest)) {i : StationId} (station : j.station = some i) :
    ∀ r, Job.series r ∈ [] ++ rest → r.station ≠ i := fun _ m e =>
  (List.pairwise_cons.1 h.first).1 _ m rfl (station.trans (congrArg some e.symm))

theorem WorkRight.codeConfirmed {s : State} {rest : List Job} {t : State} {i : StationId} {c : Code}
    (h : WorkRight s ⟨.event i (.codeConfirmed c) :: rest, t⟩) :
    WorkRight s ⟨begunJobs (Machine.codeConfirmed i c t) rest, (Machine.codeConfirmed i c t).2⟩ := by
  have frame := (codeConfirmed_begun i c t).frame.onlyAt
  unfold Machine.codeConfirmed at frame ⊢
  split
  · refine h.seriesBegins rfl rfl (by nofun) (fun w => stopStallTimer_kept w i t) (upd_sameSessions ⟨rfl, rfl, rfl, rfl⟩) trivial
      fun k reports => reports
  · next none =>
    rw [none] at frame
    refine WorkRight.done (pre := []) h rfl ((takeCode_kept _ i c t).trans (codeReported_kept _ i _)) frame (h.jobs.headFree rfl)
      fun k reports => ?_
    have station : i = k := reports
    rw [← station]
    exact timerRight_codeReported i _

/-- An event of an arrival, taken by the blocks that it is for. -/
theorem WorkRight.event {s : State} {rest : List Job} {t : State} {i : StationId} {e : LineEvent}
    (h : WorkRight s ⟨.event i e :: rest, t⟩) :
    WorkRight s ⟨begunJobs (takeEvent i e t) rest, (takeEvent i e t).2⟩ := by
  have frame := (takeEvent_begun i e t).frame.onlyAt
  have free := h.jobs.headFree (i := i) rfl
  cases e with
  | codeConfirmed c => exact h.codeConfirmed
  | pickRaised n p => exact WorkRight.done (pre := []) h rfl (pickRaised_kept _ i n p t) frame free nofun
  | pickWithdrawn n => exact WorkRight.done (pre := []) h rfl (pickWithdrawn_kept _ i n t) frame free nofun
  | exits n => exact WorkRight.done (pre := []) h rfl (exitsEvent_kept _ i n t) frame free nofun
  | message m => exact WorkRight.done (pre := []) h rfl (deliver_kept _ i m t id) frame free nofun
  | anomaly k => exact WorkRight.done (pre := []) h rfl (raiseAnomaly_kept _ i t k) frame free nofun

theorem haltDone_kept (w : Waiver) (replies : Bool) (s : State) : Kept w s (haltDone replies s) := by
  have stopped : Kept w s (s.updHost fun h => { h with op := .stopped }) := updHost_kept w _ s rfl rfl
  unfold haltDone
  dsimp only
  split
  · exact stopped.trans (bufferReply_kept w (requestKind .halt) (answerOk [] (s.updHost fun h => { h with op := .stopped })))
  · exact stopped

theorem haltDone_st (replies : Bool) (s : State) (i : StationId) : (haltDone replies s).st i = s.st i := by
  unfold haltDone
  dsimp only
  split <;> rfl

/-- HALT's end, with none of its stations left. -/
theorem WorkRight.halted {s : State} {rest : List Job} {t : State} {replies recorded : Bool}
    (h : WorkRight s ⟨.halted replies recorded :: rest, t⟩) (last : ∀ j ∈ rest, j.isHaltPart = false) :
    WorkRight s ⟨rest, haltDone replies t⟩ := by
  have sub : ∀ j ∈ rest, j ∈ Job.halted replies recorded :: rest := fun j m => List.mem_cons_of_mem _ m
  refine ⟨(h.kept.andThen (haltDone_kept _ replies t)).rewaive fun i waived => .inl ?_, ?_, fun q m => ?_⟩
  · exact ((reporting_cons _ _ _).1 waived).resolve_left id
  · refine ⟨fun i m => h.jobs.noExpiry i (sub _ m), (List.pairwise_cons.1 h.jobs.first).2, fun found j m => ?_, fun j m part => ?_⟩
    · refine h.jobs.arrivalsOver (found.imp (fun ⟨k, at_k, hk⟩ => ⟨k, sub k at_k, hk⟩) fun r => ?_) j (sub j m)
      exact (Bool.or_eq_true _ _).mpr (.inr r)
    · exact nomatch (last j m).symm.trans part
  · rw [haltDone_st]
    exact h.stand q (sub _ m)

/-- The first job in its turn begins. -/
theorem WorkRight.starts {s : State} {rest : List Job} {t : State} {j : Job} (h : WorkRight s ⟨j :: rest, t⟩)
    (turn : TurnRight (j :: rest)) : WorkRight s ⟨begunJobs (startJob j t) rest, (startJob j t).2⟩ := by
  cases j with
  | event i e => exact h.event
  | stallExpiry i => exact absurd List.mem_cons_self (h.jobs.noExpiry i)
  | halt i =>
    exact WorkRight.haltOn (pre := []) h (by simp) fun x m => ((List.pairwise_cons.1 turn).1 x m).2 rfl
  | series r => exact h
  | halted replies recorded => exact h.halted fun x m => ((List.pairwise_cons.1 turn).1 x m).1 rfl

/-! ## The jobs taken in their turn -/

theorem TurnRight.tail {j : Job} {jobs : List Job} (h : TurnRight (j :: jobs)) : TurnRight jobs := (List.pairwise_cons.1 h).2

/-- The jobs taken up to the next gap leave the others right. -/
theorem workToGap_right {s : State} (jobs : List Job) : ∀ t, WorkRight s ⟨jobs, t⟩ → TurnRight jobs →
    WorkRight s (workToGap jobs t) := by
  induction jobs with
  | nil => exact fun t h _ => h
  | cons j rest ih =>
    intro t h turn
    have started := h.starts turn
    unfold workToGap
    unfold begunJobs at started
    dsimp only
    split <;> rename_i begun <;> rw [begun] at started
    · exact ih _ started turn.tail
    · exact WorkRight.seriesOn (pre := []) started

/-- The jobs taken whole leave none, and everything kept. -/
theorem takenInTurn_kept {s : State} (jobs : List Job) : ∀ t, WorkRight s ⟨jobs, t⟩ → TurnRight jobs →
    Kept .none s (jobs.foldl (fun u j => takenWhole (startJob j u)) t) := by
  induction jobs with
  | nil => exact fun t h _ => Kept.of_keptTo (h.kept.rewaive fun i => by simp [reporting])
  | cons j rest ih => exact fun t h turn => ih _ (WorkRight.begunWhole (pre := []) (h.starts turn)) turn.tail

end Sys2Proof.Machine
end

section
/-!
PROOFS. The events of a gap leave the jobs that are left right (log entry 20), and so the jobs of a command worked off keep
everything.
-/

namespace Sys2Proof.Machine

/-! ## Events at a station that no job holds -/

theorem mem_held_of_series {jobs : List Job} {r : Series} (m : Job.series r ∈ jobs) : r.station ∈ jobs.filterMap Job.heldStation :=
  List.mem_filterMap.2 ⟨_, m, rfl⟩

/-- What touches only a station that no job holds leaves the jobs right. -/
theorem WorkRight.elsewhere {s : State} {jobs : List Job} {t u : State} {i : StationId} (h : WorkRight s ⟨jobs, t⟩)
    (free : i ∉ jobs.filterMap Job.heldStation) (kept : Kept (.timers (reporting jobs)) t u) (only : OnlyAt i t u) :
    WorkRight s ⟨jobs, u⟩ := by
  refine ⟨h.kept.andThen kept, h.jobs, fun r m => ?_⟩
  rw [only _ fun e => free (e ▸ mem_held_of_series m)]
  exact h.stand r m

/-- The jobs before which a series joins, and the others. -/
theorem joinJobs_eq (r : Series) (jobs : List Job) : ∃ pre rest, jobs = pre ++ rest ∧ joinJobs r jobs = pre ++ .series r :: rest ∧
    ∀ x ∈ pre, x.station ≠ some r.station := by
  obtain ⟨rest, split⟩ := List.takeWhile_prefix (l := jobs) fun j : Job => j.station != some r.station
  have before : ∀ x ∈ jobs.takeWhile fun j => j.station != some r.station, x.station ≠ some r.station := fun x m => by
    simpa using List.mem_takeWhile_imp m
  unfold joinJobs
  generalize jobs.takeWhile (fun j => j.station != some r.station) = pre at split before ⊢
  subst split
  exact ⟨pre, rest, rfl, by simp, before⟩

/-- A series that begins at a station that no job holds leaves the jobs right, joined or taken whole. -/
theorem WorkRight.seriesJoins {s : State} {jobs : List Job} {t u : State} {r : Series} (h : WorkRight s ⟨jobs, t⟩)
    (free : r.station ∉ jobs.filterMap Job.heldStation) (other : r.occasion ≠ .halt)
    (kept : Kept (.timers (reporting (.series r :: jobs))) t u) (only : OnlyAt r.station t u)
    (stands : SeriesStands r (u.st r.station)) : WorkRight s (Work.joined ⟨jobs, t⟩ (some r, u)) := by
  obtain ⟨pre, rest, split, joined, before⟩ := joinJobs_eq r jobs
  have notSeries : ∀ q, Job.series q ∈ jobs → q.station ≠ r.station := fun q m e => free (e ▸ mem_held_of_series m)
  have right : WorkRight s ⟨pre ++ .series r :: rest, u⟩ := by
    subst split
    refine ⟨(KeptTo.andThen (h.kept.rewaive fun i waived => .inl ?_) kept).rewaive fun i waived => .inl ?_, ?_, fun q m => ?_⟩
    · exact (reporting_cons _ _ _).2 (.inr waived)
    · simp only [reporting_append, reporting_cons] at waived ⊢
      tauto
    · refine h.jobs.insert before (fun x m series e => ?_) (fun halt => absurd halt other) fun halt => absurd halt other
      obtain ⟨q, rfl⟩ : ∃ q, x = .series q := by cases x <;> first | exact ⟨_, rfl⟩ | cases series
      exact notSeries q (List.mem_append_right _ m) (Option.some.inj e).symm
    · by_cases e : Job.series q = .series r
      · cases e; exact stands
      · have m : Job.series q ∈ pre ++ rest := by
          simp only [List.mem_append, List.mem_cons] at m ⊢
          tauto
        rw [only _ (notSeries q m)]
        exact h.stand q m
  unfold Work.joined
  dsimp only
  split
  · rw [joined]; exact right
  · have whole := WorkRight.begunWhole (b := (some r, u)) right
    rw [← split] at whole
    exact whole

theorem stallExpires_cases (i : StationId) (s : State) : stallExpires i s = (none, s) ∨
    (s.st i).session.state = .stalled ∧ ∃ c n, stallExpires i s = (some ⟨i, .stallTimeout c n⟩, stopStallTimer i s) := by
  unfold stallExpires
  dsimp only
  split
  · next h => exact .inr ⟨h.2, _, _, rfl⟩
  · exact .inl rfl

theorem WorkRight.stallExpires {s : State} {w : Work} {i : StationId} (h : WorkRight s w) (free : i ∉ w.held) :
    WorkRight s (w.joined (Machine.stallExpires i w.state)) := by
  rcases stallExpires_cases i w.state with e | ⟨stalled, c, n, e⟩ <;> rw [e]
  · exact h
  · refine WorkRight.seriesJoins h free (by nofun) (stopStallTimer_kept _ i _) ((upd_local i _ _).onlyAt) ?_
    show (((stopStallTimer i w.state).st i).session.state = .stalled)
    rw [stopStallTimer, State.updRecovery, st_upd_self]
    exact stalled

/-- A confirmed code, its report to the idle timer still to come. -/
theorem confirmCode_kept {w : Waiver} {i : StationId} {c : Code} {s : State} (waived : w.timer i)
    (present : (s.st i).line.present = true) (code : c ≠ .jam 0) :
    Kept w s (s.updLine i fun l => { l with confirmed := some c, candidate := none }) := by
  refine upd_kept w ⟨⟨id, fun _ absent => ?_, fun ⟨a, b, c, _, _⟩ => ⟨a, b, c, fun e => code (Option.some.inj e), nofun⟩, id,
    fun _ => id⟩, fun unwaived => absurd waived unwaived⟩ id
  exact nomatch present.symm.trans absent

theorem codeConfirmed_cases (i : StationId) (c : Code) (s : State) :
    codeConfirmed i c s = (none, codeReported i (takeCode i c s)) ∨
      ∃ cause n, codeConfirmed i c s = (some ⟨i, .recovery cause n⟩, stopStallTimer i s) := by
  unfold codeConfirmed
  split
  · exact .inr ⟨_, _, rfl⟩
  · exact .inl rfl

/-- A code at a station that no job holds, its report to the idle timer still to come, is taken or begins a recovery. -/
theorem WorkRight.codeJoins {s : State} {w : Work} {t : State} {i : StationId} {c : Code} (h : WorkRight s w) (free : i ∉ w.held)
    (kept : ∀ v : Waiver, v.timer i → Kept v w.state t) (only : OnlyAt i w.state t) :
    WorkRight s (w.joined (Machine.codeConfirmed i c t)) := by
  have frame := only.trans (codeConfirmed_begun i c t).frame.onlyAt
  rcases codeConfirmed_cases i c t with e | ⟨cause, n, e⟩ <;> rw [e] at frame ⊢
  · have reported : Kept (.timers fun k => reporting w.jobs k ∨ k = i) t (codeReported i (takeCode i c t)) :=
      (takeCode_kept _ i c t).trans (codeReported_kept _ i _)
    refine ⟨((h.kept.rewaive fun k waived => .inl (.inl waived)).andThen ((kept _ (Or.inr rfl)).trans reported)).rewaive
      fun k waived => waived.imp id fun e => ?_, h.jobs, fun r m => ?_⟩
    · rw [e]; exact timerRight_codeReported i _
    · have same := frame _ fun e => free (e ▸ mem_held_of_series m)
      exact same.symm ▸ h.stand r m
  · have reports : reporting (.series ⟨i, .recovery cause n⟩ :: w.jobs) i := (reporting_cons _ _ _).2 (.inl (Eq.refl i))
    exact WorkRight.seriesJoins h free (by nofun) ((kept _ reports).trans (stopStallTimer_kept _ i _)) frame trivial

theorem WorkRight.codeAt {s : State} {w : Work} {i : StationId} {c : Code} (h : WorkRight s w) (free : i ∉ w.held) :
    WorkRight s (w.joined (Machine.codeAt i c w.state)) := by
  unfold Machine.codeAt
  dsimp only
  split
  · next guard =>
    obtain ⟨-, present, -, code⟩ := guard
    exact h.codeJoins free (fun v waived => confirmCode_kept waived present code) (upd_local i _ _).onlyAt
  · exact h

/-! ## Requests in a gap -/

/-- Without HALT under way, only series that wait for a stall have anything to lose. -/
theorem WorkRight.moved {s : State} {jobs : List Job} {t u : State} (h : WorkRight s ⟨jobs, t⟩) (idle : halting jobs = false)
    (kept : Kept (.timers (reporting jobs)) t u) (stalled : StalledStay t u) : WorkRight s ⟨jobs, u⟩ := by
  refine ⟨h.kept.andThen kept, h.jobs, fun r m => ?_⟩
  have stands := h.stand r m
  have notHalt : r.occasion ≠ .halt := fun halt => by
    have := h.jobs.halting _ m ((isHaltSeries_series r).2 halt)
    rw [idle] at this
    cases this
  unfold SeriesStands at *
  split <;> rename_i occasion <;> rw [occasion] at stands
  · trivial
  · exact stalled _ stands
  · exact absurd occasion notHalt

/-- HALT joins the jobs behind all others. -/
theorem WorkRight.halts {s : State} {w : Work} (h : WorkRight s w) (idle : halting w.jobs = false) (replies : Bool) :
    WorkRight s ⟨w.jobs ++ (haltJobs replies w.state).1, (haltJobs replies w.state).2⟩ := by
  obtain ⟨jobs, t⟩ := w
  have ordered : WorkRight s ⟨jobs, (haltJobs replies t).2⟩ :=
    h.moved idle (inOpenOrder_kept _ t.liveStations t) (sameSessions_of_st (inOpenOrder_st _ t)).stalledStay
  have shape : ∃ is : List StationId, (haltJobs replies t).1 = is.map .halt ++ [.halted replies false] := ⟨_, rfl⟩
  obtain ⟨is, shape⟩ := shape
  have added : ∀ j ∈ (haltJobs replies t).1, (∃ i, j = .halt i) ∨ j = .halted replies false := fun j m => by
    rw [shape] at m
    simp only [List.mem_append, List.mem_map, List.mem_singleton] at m
    exact m.imp (fun ⟨i, _, e⟩ => ⟨i, e.symm⟩) id
  have noPart : ∀ j ∈ jobs, j.isHaltPart = false := fun j m => by
    by_contra part
    have := h.jobs.halting j m (by simpa using part)
    rw [idle] at this
    cases this
  have unrecorded : haltRecorded (jobs ++ (haltJobs replies t).1) = false := by
    rw [haltRecorded_append, Bool.or_eq_false_iff]
    refine ⟨?_, ?_⟩
    · by_contra recorded
      have : halting jobs = true := by
        obtain ⟨j, m, hj⟩ := List.any_eq_true.1 (by simpa using recorded : haltRecorded jobs = true)
        exact List.any_eq_true.2 ⟨j, m, by cases j <;> first | rfl | simp at hj⟩
      rw [idle] at this
      cases this
    · refine List.any_eq_false.2 fun j m => ?_
      rcases added j m with ⟨i, rfl⟩ | rfl <;> simp
  dsimp only
  refine ⟨ordered.kept.rewaive fun i waived => .inl ((reporting_append _ _ _).2 (.inl waived)), ?_, fun r m => ?_⟩
  · refine ⟨fun i m => ?_, ?_, fun found j m => ?_, fun j m part => ?_⟩
    · rcases List.mem_append.1 m with m | m
      · exact h.jobs.noExpiry i m
      · rcases added _ m with ⟨k, e⟩ | e <;> cases e
    · refine List.pairwise_append.2 ⟨h.jobs.first, List.pairwise_of_forall_mem_list fun _ _ k mk series => ?_,
        fun _ _ k mk series => ?_⟩ <;>
      · rcases added k mk with ⟨i, rfl⟩ | rfl <;> cases series
    · exfalso
      rcases found with ⟨k, mk, series⟩ | recorded
      · have part := isHaltPart_of_isHaltSeries series
        rcases List.mem_append.1 mk with mk | mk
        · exact nomatch (noPart k mk).symm.trans part
        · rcases added k mk with ⟨i, rfl⟩ | rfl <;> cases series
      · exact nomatch unrecorded.symm.trans recorded
    · rw [halting_append, shape]
      simp [halting, Job.isHalted]
  · rcases List.mem_append.1 m with m | m
    · exact ordered.stand r m
    · rcases added _ m with ⟨k, e⟩ | e <;> cases e

theorem WorkRight.request {s : State} {w : Work} {r : Request} (h : WorkRight s w) (idle : halting w.jobs = false) :
    WorkRight s (requestOn r w) := by
  unfold requestOn
  split
  · next a answered =>
    have answer := ownerAnswer_kept (w := .timers (reporting w.jobs)) w.state (fun _ => id) answered
    exact h.moved idle (answer.kept.trans (bufferReply_kept _ _ a)) answer.stalled
  · exact h.halts idle true

/-- What changes the host line alone leaves the jobs right. -/
theorem WorkRight.line {s : State} {w : Work} {t : State} (h : WorkRight s w) (idle : halting w.jobs = false)
    (kept : ∀ v, Kept v w.state t) (st : ∀ i, t.st i = w.state.st i) : WorkRight s { w with state := t } :=
  h.moved idle (kept _) (sameSessions_of_st st).stalledStay

theorem WorkRight.dispatch {s : State} {w : Work} (h : WorkRight s w) (idle : halting w.jobs = false) :
    WorkRight s (dispatchOn w) := by
  unfold dispatchOn
  split
  · next f rest empty received =>
    have removed : WorkRight s { w with state := w.state.updHost fun h => { h with received := rest } } :=
      h.line idle (fun v => dequeue_kept v w.state (by simp [received])) fun _ => rfl
    dsimp only
    split
    · next status _ =>
      exact removed.line idle (fun v => bufferReply_kept v f.kind (answerRefused status _)) fun _ => rfl
    · exact removed.request idle
  · exact h

theorem WorkRight.submit {s : State} {w : Work} {r : Request} (h : WorkRight s w) (idle : halting w.jobs = false) :
    WorkRight s (submitOn r w) := by
  unfold submitOn
  split
  · exact h.request idle
  · exact WorkRight.dispatch (h.line idle (fun v => enqueue_kept v _ _) (enqueue_st _ _)) idle

theorem WorkRight.frameEnds {s : State} {w : Work} (h : WorkRight s w) (idle : halting w.jobs = false) :
    WorkRight s (frameEndedOn w) := by
  have ended : WorkRight s { w with state := (htxEnds w.state).2 } := h.line idle (fun v => htxEnds_kept v _) (htxEnds_st _)
  unfold frameEndedOn
  dsimp only
  split
  · exact WorkRight.dispatch ended idle
  · exact ended

/-! ## The going on of a series or of HALT -/

/-- The first job of a station, if there is one, and what goes on. -/
theorem advance_cases (b : Bool) (i : StationId) (jobs : List Job) (s : State) : advance b i jobs s = ⟨jobs, s⟩ ∨
    ∃ pre j rest, jobs = pre ++ j :: rest ∧ (∀ x ∈ pre, x.station ≠ some i) ∧ j.station = some i ∧
      advance b i jobs s = ⟨pre ++ (jobOn b j rest s).jobs, (jobOn b j rest s).state⟩ := by
  induction jobs with
  | nil => exact .inl rfl
  | cons j rest ih =>
    unfold advance
    split
    · next first => exact .inr ⟨[], j, rest, rfl, by simp, first, rfl⟩
    · next other =>
      rcases ih with e | ⟨pre, k, after, split, before, station, e⟩
      · exact .inl (by rw [e])
      · refine .inr ⟨j :: pre, k, after, by rw [split]; rfl, fun x m => ?_, station, by rw [e]; rfl⟩
        rcases List.mem_cons.1 m with rfl | m
        · exact other
        · exact before x m

theorem WorkRight.advance {s : State} {w : Work} {i : StationId} (h : WorkRight s w) :
    WorkRight s (Machine.advance (mayTakeStation w.jobs) i w.jobs w.state) := by
  obtain ⟨jobs, t⟩ := w
  dsimp only
  rcases advance_cases (mayTakeStation jobs) i jobs t with e | ⟨pre, j, rest, split, before, station, e⟩ <;> rw [e]
  · exact h
  · have allowed : mayTakeStation jobs = true → ∀ x ∈ pre ++ rest, x.isEvent = false := fun may x m => by
      unfold mayTakeStation at may
      simp only [Bool.not_eq_true', List.any_eq_false, Bool.or_eq_true, not_or, Bool.not_eq_true] at may
      refine (may x ?_).1
      rw [split]
      simp only [List.mem_append, List.mem_cons] at m ⊢
      tauto
    generalize mayTakeStation jobs = may at allowed ⊢
    subst split
    cases j with
    | series r => exact h.seriesOn
    | halt k =>
      cases station
      unfold jobOn
      dsimp only
      split
      · next taken => exact (h.haltOn before (allowed taken)).begun
      · exact h
    | event k e => exact h
    | stallExpiry k => exact h
    | halted a b => exact h

/-! ## The tape -/

theorem WorkRight.activity {s : State} {w : Work} {e : Meanwhile} {j : StationId} (h : WorkRight s w) (free : j ∉ w.held)
    (at_j : activityAt j e = true) : WorkRight s { w with state := takeActivity e w.state } :=
  h.elsewhere free (takeActivity_kept (fun _ => id) e _) (takeActivity_onlyAt at_j _)

/-- An event that a gap admits leaves the jobs right. -/
theorem WorkRight.meanwhile {s : State} {w : Work} {e : Meanwhile} (h : WorkRight s w) (may : admitted w e = true) :
    WorkRight s (takeMeanwhile e w) := by
  have free : ∀ j, decide (j ∉ w.held) = true → j ∉ w.held := fun j => of_decide_eq_true
  cases e with
  | pick j p => exact h.activity (free j may) (beq_self_eq_true j)
  | dropped j => exact h.activity (free j may) (beq_self_eq_true j)
  | exits j n => exact h.activity (free j may) (beq_self_eq_true j)
  | message j m => exact h.activity (free j ((Bool.and_eq_true _ _).mp may).1) (beq_self_eq_true j)
  | recovered j running => exact h.codeAt (free j may)
  | code j c => exact h.codeAt (free j may)
  | idleExpiry j =>
    exact h.elsewhere (free j may) (atStation_kept (fun t => idleExpires_kept (fun _ => id) j t) _)
      (atStation_onlyAt (idleExpires_onlyAt j) _)
  | stallExpiry j =>
    unfold takeMeanwhile
    dsimp only
    split
    · exact h.stallExpires (free j may)
    · exact h
  | overdue j =>
    exact h.elsewhere (free j may) (atStation_kept (headExpires_kept _ j) _)
      (atStation_onlyAt (fun t => (headExpires_local j t).onlyAt) _)
  | request r =>
    refine h.submit ?_
    simpa using ((Bool.and_eq_true _ _).mp may).1
  | arbiter =>
    have sent := fun v => arbitrate_kept v w.state
    exact h.moved (by simpa [admitted] using may) (sent _).1 (sent .none).2.stalledStay
  | frameSent =>
    refine h.frameEnds ?_
    simpa using ((Bool.and_eq_true _ _).mp may).1
  | advance i => exact h.advance

theorem WorkRight.inGap {s : State} {w : Work} {e : Meanwhile} (h : WorkRight s w) : WorkRight s (takeInGap w e) := by
  unfold takeInGap
  split
  · next may =>
    dsimp only
    split
    · exact h
    · exact h.meanwhile may
  · exact h

theorem WorkRight.gap {s : State} {w : Work} (h : WorkRight s w) : WorkRight s (workGap w) := by
  have popped : WorkRight s { w with state := w.state.popMeanwhile.2 } :=
    ⟨h.kept.andThen (popMeanwhile_kept _ _), h.jobs, fun r m =>
      seriesStands_of_state (by rw [popMeanwhile_st]) (h.stand r m)⟩
  unfold workGap
  generalize ({ w with state := w.state.popMeanwhile.2 } : Work) = v at popped ⊢
  induction w.state.popMeanwhile.1 generalizing v with
  | nil => exact popped
  | cons e rest ih => exact ih _ popped.inGap

/-- Jobs worked off keep everything. -/
theorem workOffWithin_kept {s : State} (n : Nat) : ∀ w, WorkRight s w → Kept .none s (workOffWithin n w) := by
  induction n with
  | zero => exact fun w h => takenInTurn_kept _ _ h.inTurn h.jobs.turnRight
  | succ n ih =>
    intro w h
    have worked := workToGap_right w.inTurn w.state h.inTurn h.jobs.turnRight
    unfold workOffWithin
    dsimp only
    split
    · next finished =>
      refine Kept.of_keptTo (worked.kept.rewaive fun i waived => ?_)
      rw [finished] at waived
      simp [reporting] at waived
    · exact ih _ worked.gap

theorem workOff_kept {s : State} {jobs : List Job} {t : State} (h : WorkRight s ⟨jobs, t⟩) : Kept .none s (workOff jobs t) :=
  workOffWithin_kept _ _ h

/-- With no job there is nothing to be right. -/
theorem workRight_nil (s : State) : WorkRight s ⟨[], s⟩ :=
  ⟨.of_kept (.refl _ s), ⟨by simp, .nil, by simp, by simp⟩, by simp [AllStand]⟩

theorem haltAll_kept (s : State) : Kept .none s (haltAll s) := workOff_kept ((workRight_nil s).halts rfl false)

/-! ## One job alone -/

theorem inTurn_one {j : Job} (s : State) (notEnd : j.isHalted = false) : Work.inTurn ⟨[j], s⟩ = [j] := by
  simp [Work.inTurn, halting, notEnd]

/-- A job that begins nothing is taken alone. -/
theorem workOff_one {j : Job} {s t : State} (notEnd : j.isHalted = false) (begun : startJob j s = (none, t)) :
    workOff [j] s = t := by
  unfold workOff
  cases s.meanwhile.length with
  | zero => simp [workOffWithin, inTurn_one s notEnd, begun, takenWhole]
  | succ n => simp [workOffWithin, inTurn_one s notEnd, workToGap, begun]

/-- A job that begins a series is that series worked off. -/
theorem workOff_series {j : Job} {s t : State} {r : Series} (notEnd : j.isHalted = false) (begun : startJob j s = (some r, t))
    (tape : t.meanwhile = s.meanwhile) : workOff [j] s = workOff [.series r] t := by
  unfold workOff
  rw [tape]
  have series : startJob (.series r) t = (some r, t) := rfl
  cases s.meanwhile.length with
  | zero => simp only [workOffWithin, inTurn_one _ notEnd, inTurn_one t (j := .series r) rfl, List.foldl, begun, series]
  | succ n =>
    simp only [workOffWithin, inTurn_one _ notEnd, inTurn_one t (j := .series r) rfl, workToGap, begun, series]

theorem stallExpiry_kept (i : StationId) (s : State) : Kept .none s (workOff [.stallExpiry i] s) := by
  rcases stallExpires_cases i s with e | ⟨stalled, c, n, e⟩
  · rw [workOff_one (j := .stallExpiry i) rfl e]
    exact .refl _ s
  · rw [workOff_series (j := .stallExpiry i) (t := stopStallTimer i s) rfl e rfl]
    refine (stopStallTimer_kept .none i s).trans (workOff_kept ⟨.of_kept (.refl _ _), ?_, fun r m => ?_⟩)
    · exact ⟨by simp, by simp, by simp [Job.isHaltSeries, haltRecorded], by simp [Job.isHaltPart]⟩
    · obtain rfl : r = ⟨i, .stallTimeout c n⟩ := by simpa using m
      show ((stopStallTimer i s).st i).session.state = .stalled
      rw [stopStallTimer, State.updRecovery, st_upd_self]
      exact stalled

end Sys2Proof.Machine
end

section
/-!
PROOFS. The five step lemmas: what the arrivals of a station line, the host line's receiver, RESET and the passing of time keep, and
so what every command and every step keeps (sections 4.7, 2.4, 7.2, 2.3 and chapter 1).
-/

namespace Sys2Proof.Machine

/-! ## The parts of an arrival -/

/-- A code that is no JAM with location 0, where there is one. -/
def NotJamZero (c : Option Code) : Prop := c ≠ some (.jam 0)

/-- The receive buffer of a line is within its bound. -/
def UpBounded (l : StationLine) : Prop := ∀ b q, l.up = .receiving b q → b.length ≤ Config.upBufferRoom

/-- What the parts of an arrival other than its code keep of a line. -/
structure LineKept (l m : StationLine) : Prop where
  present : m.present = l.present
  confirmed : m.confirmed = l.confirmed
  candidate : m.candidate = l.candidate
  down : m.down.length ≤ l.down.length
  up : UpBounded l → UpBounded m

theorem LineKept.refl (l : StationLine) : LineKept l l := ⟨rfl, rfl, rfl, le_rfl, id⟩

theorem LineKept.trans {l m n : StationLine} (h : LineKept l m) (k : LineKept m n) : LineKept l n :=
  ⟨k.present.trans h.present, k.confirmed.trans h.confirmed, k.candidate.trans h.candidate, k.down.trans h.down, k.up ∘ h.up⟩

/-- A part that leaves the presence, the codes, the downstream queue and the channel of reception. -/
theorem LineKept.of_same {l m : StationLine} (present : m.present = l.present) (confirmed : m.confirmed = l.confirmed)
    (candidate : m.candidate = l.candidate) (down : m.down = l.down) (up : m.up = l.up) : LineKept l m :=
  ⟨present, confirmed, candidate, down ▸ le_rfl, fun h b q e => h b q (up ▸ e)⟩

theorem upBounded_idle {l : StationLine} (idle : l.up = .idle) : UpBounded l := fun _ _ e => nomatch idle.symm.trans e

theorem upBounded_receiving {l : StationLine} {b : List Byte} {q : Nat} (up : l.up = .receiving b q)
    (short : b.length ≤ Config.upBufferRoom) : UpBounded l := fun b' q' e => by
  rw [up] at e
  cases e
  exact short

theorem pickArrival_kept (p : Option SheetSpec) (l : StationLine) : LineKept l (pickArrival p l).1 := by
  unfold pickArrival
  split <;> exact .of_same rfl rfl rfl rfl rfl

theorem abandonUp_kept (a : AckMark) (k : AnomalyKind) (l : StationLine) : LineKept l (abandonUp a k l).1 :=
  ⟨rfl, rfl, rfl, le_rfl, fun _ => upBounded_idle rfl⟩

theorem quietArrival_kept (l : StationLine) : LineKept l (quietArrival l).1 := by
  rcases quietArrival_cases l with ⟨-, e⟩ | ⟨b, q, up, -, e⟩ | ⟨b, q, -, -, e⟩ <;> rw [e]
  · exact .refl l
  · exact ⟨rfl, rfl, rfl, le_rfl, fun h => upBounded_receiving rfl (h b q up)⟩
  · exact ⟨rfl, rfl, rfl, le_rfl, fun _ => upBounded_idle rfl⟩

theorem byteArrival_kept (m : MsgMark) (b : Byte) (l : StationLine) : LineKept l (byteArrival m b l).1 := by
  unfold byteArrival
  split
  · exact quietArrival_kept l
  · exact ⟨rfl, rfl, rfl, le_rfl, fun _ => upBounded_receiving rfl (by simp [Config.upBufferRoom])⟩
  · split
    · exact abandonUp_kept _ _ l
    · next room => exact ⟨rfl, rfl, rfl, le_rfl, fun _ => upBounded_receiving rfl (by simpa using room)⟩
  · exact .of_same rfl rfl rfl rfl rfl
  · split
    · exact abandonUp_kept _ _ l
    · exact ⟨rfl, rfl, rfl, le_rfl, fun _ => upBounded_idle rfl⟩
  · exact .refl l
  · exact abandonUp_kept _ _ l

theorem popDown_kept (l : StationLine) : LineKept l (popDown l) := ⟨rfl, rfl, rfl, by simp [popDown], id⟩

theorem abandonDown_kept (l : StationLine) : LineKept l (abandonDown l).1 :=
  (popDown_kept l).trans (.of_same rfl rfl rfl rfl rfl)

theorem unacknowledged_kept (l : StationLine) : LineKept l (unacknowledged l).1 := by
  unfold unacknowledged
  split
  · exact .refl l
  · split
    · exact abandonDown_kept l
    · exact .of_same rfl rfl rfl rfl rfl

theorem byteTaken_kept (l : StationLine) : LineKept l (byteTaken l) := by
  unfold byteTaken
  split
  · exact popDown_kept l
  · split
    · exact .of_same rfl rfl rfl rfl rfl
    · exact popDown_kept l

theorem ackArrival_kept (m : AckMark) (l : StationLine) : LineKept l (ackArrival m l).1 := by
  unfold ackArrival
  split
  · exact .refl l
  · exact unacknowledged_kept l
  · exact byteTaken_kept l
  · exact popDown_kept l

/-- What an arrival keeps of a line: a confirmed code that it changes is reported by an event. -/
structure ArrivalKept (l : StationLine) (r : LineStep) : Prop where
  present : r.1.present = l.present
  confirmed : r.1.confirmed = l.confirmed ∨ l.present = true ∧ ∃ c, LineEvent.codeConfirmed c ∈ r.2
  down : r.1.down.length ≤ l.down.length
  up : UpBounded l → UpBounded r.1
  codes : NotJamZero l.confirmed → NotJamZero l.candidate → NotJamZero r.1.confirmed ∧ NotJamZero r.1.candidate

theorem LineKept.arrival {l m : StationLine} (h : LineKept l m) (es : List LineEvent) : ArrivalKept l (m, es) :=
  ⟨h.present, .inl h.confirmed, h.down, h.up, fun a b => ⟨h.confirmed ▸ a, h.candidate ▸ b⟩⟩

/-- The parts after the first keep what it keeps. -/
theorem ArrivalKept.andThen {l m : StationLine} {r : LineStep} (h : ArrivalKept l r) (k : LineKept r.1 m) (es : List LineEvent) :
    ArrivalKept l (m, r.2 ++ es) :=
  ⟨k.present.trans h.present,
    h.confirmed.imp k.confirmed.trans fun ⟨present, c, mem⟩ => ⟨present, c, List.mem_append_left _ mem⟩,
    k.down.trans h.down, k.up ∘ h.up,
    fun a b => ⟨k.confirmed ▸ (h.codes a b).1, k.candidate ▸ (h.codes a b).2⟩⟩

theorem codeArrival_kept {c : Option Code} {l : StationLine} (present : l.present = true) (code : NotJamZero c) :
    ArrivalKept l (codeArrival c l) := by
  unfold codeArrival
  split
  · exact ⟨rfl, .inl rfl, le_rfl, id, fun a _ => ⟨a, nofun⟩⟩
  · split
    · exact ⟨rfl, .inl rfl, le_rfl, id, fun a _ => ⟨a, nofun⟩⟩
    · split
      · exact ⟨rfl, .inr ⟨present, _, List.mem_singleton_self _⟩, le_rfl, id, fun _ _ => ⟨code, nofun⟩⟩
      · exact ⟨rfl, .inl rfl, le_rfl, id, fun a _ => ⟨a, code⟩⟩

theorem fullArrival_kept {a : Arrival} {l : StationLine} (present : l.present = true) (code : NotJamZero a.code) :
    ArrivalKept l (fullArrival a l) :=
  (codeArrival_kept present code).andThen
    (((pickArrival_kept a.pick _).trans (byteArrival_kept a.mark a.byte _)).trans (ackArrival_kept a.ack _)) _

theorem emptyArrival_kept (l : StationLine) : ArrivalKept l (emptyArrival l) := by
  have cleared : ArrivalKept l ({ l with candidate := none }, []) := ⟨rfl, .inl rfl, le_rfl, id, fun a _ => ⟨a, nofun⟩⟩
  exact cleared.andThen ((quietArrival_kept _).trans (unacknowledged_kept _)) _

theorem notJamZero_decodeCode (code location : Nat) (small : location < 16) : NotJamZero (decodeCode code location) := by
  have nonzero : location ≠ 0 → Fin.ofNat 16 location ≠ 0 := fun ne e => ne (by
    simpa [Fin.ext_iff, Nat.mod_eq_of_lt small] using e)
  unfold decodeCode NotJamZero
  split <;> simp
  simpa using nonzero

theorem notJamZero_decodeHalf (h : UpHalf) : NotJamZero (decodeHalf h).code :=
  notJamZero_decodeCode _ _ (Nat.mod_lt _ (by decide))

/-! ## An arrival at its station -/

/-- The line moved by an arrival, the report of a confirmed code still to come. -/
theorem arrivalLine_kept {i : StationId} {s : State} {r : LineStep} (h : ArrivalKept (s.st i).line r) :
    Kept (.timers fun k => k = i ∧ ∃ c, LineEvent.codeConfirmed c ∈ r.2) s (s.updLine i fun _ => r.1) := by
  refine upd_kept _ ⟨⟨id, fun absent gone => ?_, fun ⟨a, b, c, d, e⟩ => ⟨a, h.down.trans b, h.up c, h.codes d e⟩, id, fun _ => id⟩,
    fun unwaived _ right => ?_⟩ id
  · have gone : (s.st i).line.present = false := h.present ▸ gone
    rcases h.confirmed with e | ⟨present, -⟩
    · exact e.trans (absent gone)
    · exact nomatch present.symm.trans gone
  · have e := h.confirmed.resolve_right fun ⟨_, event⟩ => unwaived ⟨rfl, event⟩
    simpa only [TimerRight, idleEligible, e] using right

/-- Events of an arrival alone are jobs that are right. -/
theorem jobsRight_events (i : StationId) (es : List LineEvent) : JobsRight (es.map (.event i)) := by
  have event : ∀ j ∈ es.map (Job.event i), ∃ e, j = .event i e := fun j m => by
    obtain ⟨e, -, rfl⟩ := List.mem_map.1 m
    exact ⟨e, rfl⟩
  refine ⟨fun k m => (nomatch event _ m), List.pairwise_of_forall_mem_list fun _ _ k m series => ?_, fun found j m => ?_, fun j m part => ?_⟩
  · obtain ⟨e, rfl⟩ := event k m; cases series
  · rcases found with ⟨k, m, series⟩ | recorded
    · obtain ⟨e, rfl⟩ := event k m; cases series
    · obtain ⟨k, m, hk⟩ := List.any_eq_true.1 recorded
      obtain ⟨e, rfl⟩ := event k m; simp at hk
  · obtain ⟨e, rfl⟩ := event j m; cases part

theorem applyLine_kept {i : StationId} {f : StationLine → LineStep} {s : State} (h : ArrivalKept (s.st i).line (f (s.st i).line)) :
    Kept .none s (applyLine i f s) := by
  have moved := arrivalLine_kept h
  unfold applyLine takeEvents
  dsimp only
  generalize f (s.st i).line = r at moved ⊢
  generalize s.updLine i (fun _ => r.1) = t at moved ⊢
  refine workOff_kept ⟨(KeptTo.of_kept (moved.trans (inOpenOrder_kept _ r.2 t))).rewaive fun k waived => .inl ?_,
    jobsRight_events i _, fun q m => ?_⟩
  · obtain ⟨rfl, c, event⟩ := waived
    exact ⟨.event k (.codeConfirmed c), List.mem_map.2 ⟨_, (inOpenOrder_perm r.2 t).mem_iff.2 event, rfl⟩, rfl⟩
  · obtain ⟨e, -, e'⟩ := List.mem_map.1 m
    cases e'

/-! ## Presence -/

theorem stationBounded_lost {x : Station} {l : StationLine} (queue : x.queue.length ≤ Config.inFlightRoom) (down : l.down = [])
    (up : l.up = .idle) (confirmed : l.confirmed = none) (candidate : l.candidate = none) :
    StationBounded { x with line := l } :=
  ⟨queue, by simp [down], upBounded_idle up, by simp [confirmed], by simp [candidate]⟩

theorem loseLine_kept {w : Waiver} {i : StationId} {s : State} (waived : w.timer i) : Kept w s (s.updLine i lineLost) :=
  upd_kept w ⟨⟨id, fun _ _ => rfl, fun h => stationBounded_lost h.1 rfl rfl rfl rfl, id, fun _ => id⟩, fun h => absurd waived h⟩ id

theorem abandonLost_kept (w : Waiver) (i : StationId) (s : State) : Kept w s (abandonLost i s) := by
  unfold abandonLost
  split
  · exact (abandon_restores _ (removeEntry_waived w i _ s) fun _ => removeEntry_auth i _ s).trans (reevaluate_kept w i _)
  · exact .refl w s

theorem loseStation_kept (i : StationId) (s : State) : Kept .none s (loseStation i s) := by
  have judgedState : ∀ t : State, TimerRight ((raiseStation i (syncIdle i t)).st i) := fun t => by
    have right := timerRight_syncIdle i t
    unfold raiseStation
    rw [st_upd_self]
    exact right
  unfold loseStation
  dsimp only
  refine Kept.timerRestored (i := i) ?_ (judgedState _)
  have lost : Kept (Waiver.none.andTimer i) s (s.updLine i lineLost) := loseLine_kept (i := i) (.inr rfl)
  refine lost.trans ?_
  refine (withdrawRaised_kept _ i (s.st i).line.latch _).trans ?_
  refine (abandonLost_kept _ i _).trans ?_
  exact (stoppage_kept _ i _ _).trans ((syncIdle_kept _ i _).trans (raiseStation_kept _ i _))

theorem regainStation_kept {i : StationId} {s : State} (absent : (s.st i).line.present = false) :
    Kept .none s (regainStation i s) := by
  unfold regainStation State.updLine
  refine upd_kept _ ⟨⟨id, fun _ _ => rfl, fun h => stationBounded_lost h.1 rfl rfl rfl rfl, id, fun _ => id⟩,
    fun _ before right => ?_⟩ id
  have code := before absent
  simpa [TimerRight, idleEligible, lineLost, StationLine.reset, code] using right

theorem presenceArrival_kept (i : StationId) (m : Bool) (s : State) : Kept .none s (presenceArrival i m s) := by
  unfold presenceArrival
  dsimp only
  split
  · exact updLine_kept _ i s rfl rfl fun h => h
  · split
    · split
      · exact loseStation_kept i s
      · next absent => exact regainStation_kept (by simpa using absent)
    · exact updLine_kept _ i s rfl rfl fun h => h

theorem takeArrival_kept {i : StationId} {a : Arrival} {s : State} (code : NotJamZero a.code) : Kept .none s (takeArrival i a s) := by
  unfold takeArrival
  dsimp only
  refine Kept.trans (presenceArrival_kept i a.present s) ?_
  split
  · next full =>
    exact applyLine_kept (fullArrival_kept ((Bool.and_eq_true _ _).mp full).2 code)
  · exact applyLine_kept (emptyArrival_kept _)

theorem sendHalf_kept (i : StationId) (s : State) : Kept .none s (sendHalf i s) := by
  have same : LineKept (s.st i).line (afterDownHalf (s.st i)) := by
    unfold afterDownHalf
    dsimp only
    split <;> exact .of_same rfl rfl rfl rfl rfl
  refine upd_kept _ ⟨⟨id, fun h e => ?_, fun ⟨a, b, c, d, e⟩ => ⟨a, same.down.trans b, same.up c, ?_, ?_⟩, id, fun _ => id⟩,
    fun _ _ h => ?_⟩ id
  · exact same.confirmed.trans (h (same.present.symm.trans e))
  · exact fun e' => d (same.confirmed.symm.trans e')
  · exact fun e' => e (same.candidate.symm.trans e')
  · simpa only [TimerRight, idleEligible, same.confirmed] using h

theorem nextSlot_lt {s : State} (h : s.slot.val < s.frameSize) : s.nextSlot.val < s.frameSize := by
  rw [nextSlot_val]
  split
  · assumption
  · exact Nat.lt_of_le_of_lt (Nat.zero_le _) h

theorem passSlot_kept (w : Waiver) (s : State) : Kept w s s.passSlot :=
  ⟨⟨id, id, id, fun h => { h with slot := nextSlot_lt h.slot }, id, rfl⟩, id⟩

theorem takeSlot_kept (i : StationId) (h : UpHalf) (s : State) : Kept .none s (takeSlot i h s) := by
  unfold takeSlot
  split
  · exact ((passSlot_kept _ s).trans (sendHalf_kept i _)).trans (takeArrival_kept (notJamZero_decodeHalf h))
  · exact .refl _ s

theorem stationLostAt_kept (i : StationId) (s : State) : Kept .none s (stationLostAt i s) := by
  unfold stationLostAt
  split
  · exact loseStation_kept i s
  · exact .refl _ s

theorem stationPresentAt_kept (i : StationId) (s : State) : Kept .none s (stationPresentAt i s) := by
  unfold stationPresentAt
  split
  · exact .refl _ s
  · next absent => exact regainStation_kept (by simpa using absent)

theorem receiveLimitAt_kept (i : StationId) (s : State) : Kept .none s (receiveLimitAt i s) := by
  unfold receiveLimitAt
  split
  · exact .refl _ s
  · exact applyLine_kept ((abandonUp_kept .abort .upTimeout (s.st i).line).arrival _)

theorem noAcknowledgementAt_kept (i : StationId) (s : State) : Kept .none s (noAcknowledgementAt i s) := by
  unfold noAcknowledgementAt
  split
  · exact applyLine_kept ((abandonDown_kept (s.st i).line).arrival _)
  · exact .refl _ s

/-! ## The host line -/

theorem takeRequest_kept (r : Request) (s : State) : Kept .none s (takeRequest r s).state := by
  unfold takeRequest
  split
  · next a answered => exact (ownerAnswer_kept s (fun _ => id) answered).kept
  · exact haltAll_kept s

theorem takeFrame_kept (f : HostFrame) (s : State) : Kept .none s (takeFrame f s).state := by
  unfold takeFrame
  split
  · exact .refl _ s
  · exact takeRequest_kept _ s

theorem dispatch_kept (s : State) : Kept .none s (dispatch s) := by
  unfold dispatch
  split
  · next f rest empty received =>
    exact ((dequeue_kept _ s (by simp [received])).trans (takeFrame_kept f _)).trans (bufferReply_kept _ _ _)
  · exact .refl _ s

theorem receiveRequest_kept (f : HostFrame) (s : State) : Kept .none s (receiveRequest f s) :=
  (enqueue_kept _ s f).trans (dispatch_kept _)

theorem frameEnded_kept (s : State) : Kept .none s (frameEnded s) := by
  unfold frameEnded
  dsimp only
  split
  · exact (htxEnds_kept _ s).trans (dispatch_kept _)
  · exact htxEnds_kept _ s

theorem submit_kept (r : Request) (s : State) : Kept .none s (submit r s) := by
  unfold submit
  split
  · exact (takeRequest_kept r s).trans (bufferReply_kept _ _ _)
  · exact receiveRequest_kept _ s

theorem validFrame_kept (k : Byte) (body : List Byte) (s : State) : Kept .none s (validFrame k body s) := by
  have heard : Kept .none s (hearFrame s) := updHost_kept _ _ s rfl rfl
  unfold validFrame
  dsimp only
  split
  · exact heard.trans (receiveRequest_kept _ _)
  · exact heard.trans (updHost_kept _ _ _ rfl rfl)

theorem setReceiver_kept (r : Receiver) (s : State) : Kept .none s (setReceiver r s) := updHost_kept _ _ s rfl rfl

theorem frameComplete_kept (n : Nat) (bytes : List Byte) (s : State) : Kept .none s (frameComplete n bytes s) := by
  unfold frameComplete
  dsimp only
  split
  · split
    · exact (setReceiver_kept _ s).trans (validFrame_kept _ _ _)
    · exact setReceiver_kept _ s
  · exact updHost_kept _ _ s rfl rfl

theorem takeByte_kept (b : Byte) (s : State) : Kept .none s (takeByte b s) := by
  unfold takeByte
  split
  · split
    · exact setReceiver_kept _ s
    · exact .refl _ s
  · unfold frameByte
    split
    · split
      · exact updHost_kept _ _ s rfl rfl
      · exact setReceiver_kept _ s
    · split
      · exact frameComplete_kept _ _ s
      · exact setReceiver_kept _ s

theorem takeChar_kept (s : State) (c : HrxChar) : Kept .none s (takeChar s c) := by
  unfold takeChar
  split
  · exact takeByte_kept _ s
  · exact .refl _ s

theorem gapTaken_kept (s : State) : Kept .none s (gapTaken s) := by
  unfold gapTaken
  split
  · exact .refl _ s
  · exact updHost_kept _ _ s rfl rfl

theorem breakTaken_kept (s : State) : Kept .none s (breakTaken s) := by
  unfold breakTaken
  split
  · exact .refl _ s
  · exact ⟨⟨id, id, id, fun h => { h with received := Nat.zero_le _ }, id, rfl⟩, id⟩

/-! ## RESET and the passing of time -/

theorem impressionsOf_tickQueue (c : Option Cause) (q : List InFlight) : impressionsOf (tickQueue c q) = impressionsOf q := by
  unfold tickQueue
  split
  · simp [impressionsOf, Function.comp_def]
  · rfl

theorem length_tickQueue (c : Option Cause) (q : List InFlight) : (tickQueue c q).length = q.length := by
  unfold tickQueue
  split
  · simp
  · rfl

theorem idleEligible_tickStation (x : Station) : idleEligible (tickStation x) = idleEligible x := by
  have request : requestPending (tickRequest x.request) = requestPending x.request := by cases x.request <;> rfl
  have empty : (tickQueue x.recovery.stoppage x.queue).isEmpty = x.queue.isEmpty := by
    rw [Bool.eq_iff_iff, List.isEmpty_iff_length_eq_zero, List.isEmpty_iff_length_eq_zero, length_tickQueue]
  simp only [idleEligible, tickStation, request, empty]

theorem authRight_tickStation {x : Station} (h : AuthRight x) : AuthRight (tickStation x) := by
  obtain ⟨authorizing, initial, increment⟩ := h
  refine ⟨fun st => ?_, fun e entry kind => ?_, fun e entry kind => ?_⟩
  · obtain ⟨e, entry, kind⟩ := authorizing st
    exact ⟨{ e with left := e.left - 1 }, by simp [tickStation, entry], kind⟩
  · obtain ⟨e', entry', rfl⟩ := Option.map_eq_some_iff.1 entry
    exact initial e' entry' kind
  · obtain ⟨e', entry', rfl⟩ := Option.map_eq_some_iff.1 entry
    exact increment e' entry' kind

theorem tickStation_kept (w : Waiver) (i : StationId) (x : Station) : StationKept w i x (tickStation x) where
  conserved h := by
    simpa only [Conserved, tickStation, impressionsOf_tickQueue] using h
  absent := id
  bounded := fun ⟨a, b⟩ => ⟨(length_tickQueue _ _).trans_le a, b⟩
  reasons := id
  auth _ := authRight_tickStation
  timer _ _ h := by
    rw [TimerRight, idleEligible_tickStation, ← h]
    exact Option.isSome_map

theorem tick_kept (s : State) : Kept .none s (tick s) := by
  have st : ∀ i, (tick s).st i = tickStation (s.st i) := fun i => st_updAll s tickStation i
  have each := fun i => tickStation_kept .none i (s.st i)
  have bounded : WithinCapacity s → ∀ i, StationBounded (tickStation (s.st i)) := fun h i =>
    (each i).bounded ⟨h.inFlight i, h.down i, h.upBuffer i, h.codes i⟩
  exact
    { conserved := fun h i => st i ▸ (each i).conserved (h i)
      timers := fun h => ⟨fun i => st i ▸ (each i).absent (h.1 i), fun i unwaived => st i ▸ (each i).timer id (h.1 i) (h.2 i unwaived)⟩
      auth := fun h i unwaived => st i ▸ (each i).auth id (h i unwaived)
      capacity := fun h =>
        { h with
          inFlight := fun i => st i ▸ (bounded h i).1
          down := fun i => st i ▸ (bounded h i).2.1
          upBuffer := fun i => st i ▸ (bounded h i).2.2.1
          codes := fun i => st i ▸ (bounded h i).2.2.2 }
      reasons := fun h i => st i ▸ (each i).reasons (h i)
      pending := rfl
      room := fun h => le_trans (Nat.add_le_add_left (sessions_le fun i => by rw [st i]; exact id) _) h }

/-- A part as it is after RESET: every station, list and place at its first value. -/
structure Fresh (s : State) : Prop where
  stations : ∀ i, s.st i = Station.reset
  records : s.journal.records = []
  received : s.host.received = []
  accounts : s.accounts.accounts = []
  deny : s.cards.deny = []
  standIn : s.cards.standIn = []
  slot : s.slot = 0

theorem st_powerOn (a b c : Bool) (i : StationId) : (State.powerOn a b c).st i = Station.reset := by
  simp [State.powerOn, State.st]

theorem fresh_reset : Fresh State.reset := ⟨st_powerOn _ _ _, rfl, rfl, rfl, rfl, rfl, rfl⟩

theorem fresh_resetPart (a b : Bool) (s : State) : Fresh (resetPart a b s) := ⟨st_powerOn a b s.host.hrdyi, rfl, rfl, rfl, rfl, rfl, rfl⟩

section
variable {s : State} (fresh : Fresh s)
include fresh

theorem Fresh.conserved : ImpressionsConserved s := fun i => by rw [fresh.stations]; rfl

theorem Fresh.timers : IdleTimerRight s := fun i => by rw [fresh.stations]; exact ⟨rfl, fun _ => rfl⟩

theorem Fresh.auth : AuthTableRight s := fun i => by rw [fresh.stations]; exact ⟨nofun, nofun, nofun⟩

theorem Fresh.sessions : s.sessions = 0 := by
  rw [sessions_eq_card]
  simp [fresh.stations, Station.reset, Session.ended, sessionLive]

theorem Fresh.room : JournalHasRoom s := by
  unfold JournalHasRoom
  rw [fresh.records, fresh.sessions]
  exact Nat.zero_le _

theorem Fresh.capacity : WithinCapacity s where
  inFlight i := by rw [fresh.stations]; exact Nat.zero_le _
  down i := by rw [fresh.stations]; exact Nat.zero_le _
  upBuffer i := by rw [fresh.stations]; nofun
  received := by rw [fresh.received]; exact Nat.zero_le _
  accounts := by rw [fresh.accounts]; exact Nat.zero_le _
  accountOrder := by rw [fresh.accounts]; exact .nil
  deny := by rw [fresh.deny]; exact Nat.zero_le _
  standIn := by rw [fresh.standIn]; exact Nat.zero_le _
  slot := by
    rw [fresh.slot, State.frameSize]
    split <;> decide
  codes i := by rw [fresh.stations]; exact ⟨nofun, nofun⟩

theorem Fresh.reasons : CloseReasonsRight s := fun i r _ => by rw [fresh.stations]; exact ⟨nofun, nofun⟩

end

theorem timersRightBut_none (s : State) : TimersRightBut .none s ↔ IdleTimerRight s :=
  ⟨fun h i => ⟨h.2 i id, h.1 i⟩, fun h => ⟨fun i => (h i).2, fun i _ => (h i).1⟩⟩

theorem authRightBut_none (s : State) : AuthRightBut .none s ↔ AuthTableRight s := ⟨fun h i => h i id, fun h i _ => h i⟩

theorem resetPart_kept (a b : Bool) (s : State) : Kept .none s (resetPart a b s) := by
  have fresh := fresh_resetPart a b s
  exact ⟨⟨fun _ => fresh.conserved, fun _ => (timersRightBut_none _).2 fresh.timers, fun _ => (authRightBut_none _).2 fresh.auth,
    fun _ => fresh.capacity, fun _ => fresh.reasons, rfl⟩, fun _ => fresh.room⟩

/-! ## Every command, and every step -/

theorem stationEvent_kept {i : StationId} {f : State → State} (h : ∀ s, Kept .none s (f s)) (s : State) :
    ∃ t, Host.Outcome.next (atStation i f s) = (.next t : Result) ∧ Kept .none s t := ⟨_, rfl, atStation_kept h s⟩

theorem request_kept (r : Request) (s : State) : ∃ t, Host.Outcome.next (submit r s) = (.next t : Result) ∧ Kept .none s t :=
  ⟨_, rfl, submit_kept r s⟩

/-- Every command answers a next state and keeps everything. -/
theorem exec_kept (c : Instr) (s : State) : ∃ t, exec c s = .next t ∧ Kept .none s t := by
  cases c with
  | reset a b => exact ⟨_, rfl, resetPart_kept a b s⟩
  | upstreamHalf i h => exact stationEvent_kept (takeSlot_kept i h) s
  | stationLost i => exact stationEvent_kept (stationLostAt_kept i) s
  | stationPresent i => exact stationEvent_kept (stationPresentAt_kept i) s
  | pickWaitExpiry i => exact stationEvent_kept (pickWaitExpires_kept _ i) s
  | receiveLimit i => exact stationEvent_kept (receiveLimitAt_kept i) s
  | noAcknowledgement i => exact stationEvent_kept (noAcknowledgementAt_kept i) s
  | card i t c => exact stationEvent_kept (fun u => deliver_kept _ i _ u id) s
  | account i n => exact stationEvent_kept (fun u => deliver_kept _ i _ u id) s
  | finish i => exact stationEvent_kept (fun u => deliver_kept _ i _ u id) s
  | idleExpiry i => exact stationEvent_kept (idleExpires_kept (fun _ => id) i) s
  | stallTimerExpiry i => exact stationEvent_kept (stallExpiry_kept i) s
  | overdue i => exact stationEvent_kept (headExpires_kept _ i) s
  | initialAuthTimeout i => exact stationEvent_kept (authTimesOut_kept _ i _) s
  | incrementAuthTimeout i => exact stationEvent_kept (authTimesOut_kept _ i _) s
  | silenceExpiry => exact ⟨_, rfl, silenceExpires_kept _ s⟩
  | hostFrame chars => exact ⟨_, rfl, foldl_kept _ takeChar_kept chars s⟩
  | gapError => exact ⟨_, rfl, gapTaken_kept s⟩
  | lineBreak => exact ⟨_, rfl, breakTaken_kept s⟩
  | hrdyi a => exact ⟨_, rfl, updHost_kept _ _ s rfl rfl⟩
  | frameSent => exact ⟨_, rfl, frameEnded_kept s⟩
  | noticeBuild => exact ⟨_, rfl, (arbitrate_kept _ s).1⟩
  | secondsClock => exact ⟨_, rfl, updJournal_kept _ _ s le_rfl⟩
  | lineReturnedToMark => exact ⟨_, rfl, updHost_kept _ _ s rfl rfl⟩
  | status => exact request_kept _ s
  | start => exact request_kept _ s
  | stop => exact request_kept _ s
  | halt => exact request_kept _ s
  | setTimers => exact request_kept _ s
  | setLevels => exact request_kept _ s
  | setClock => exact request_kept _ s
  | setTariff => exact request_kept _ s
  | setTiers => exact request_kept _ s
  | setRange => exact request_kept _ s
  | setCardPolicy => exact request_kept _ s
  | cardPolicyGet => exact request_kept _ s
  | accountPut => exact request_kept _ s
  | accountGet => exact request_kept _ s
  | accountAdjust => exact request_kept _ s
  | accountFreeze => exact request_kept _ s
  | accountThaw => exact request_kept _ s
  | accountRemove => exact request_kept _ s
  | authResult => exact request_kept _ s
  | authPending => exact request_kept _ s
  | denyAdd => exact request_kept _ s
  | denyRemove => exact request_kept _ s
  | denyClear => exact request_kept _ s
  | standinList => exact request_kept _ s
  | standinClear => exact request_kept _ s
  | journalRead => exact request_kept _ s
  | journalRelease => exact request_kept _ s
  | stationGet => exact request_kept _ s
  | stationEnable => exact request_kept _ s
  | stationDisable => exact request_kept _ s
  | sessionEnd => exact request_kept _ s
  | serviceHold => exact request_kept _ s
  | serviceRelease => exact request_kept _ s
  | meterGet => exact request_kept _ s
  | meterClear => exact request_kept _ s

/-- A step keeps every invariant. -/
structure StepKeeps (s t : State) : Prop where
  conserved : ImpressionsConserved s → ImpressionsConserved t
  timers : IdleTimerRight s → IdleTimerRight t
  auth : AuthTableRight s → AuthTableRight t
  room : JournalHasRoom s → JournalHasRoom t
  capacity : WithinCapacity s → WithinCapacity t
  reasons : CloseReasonsRight s → CloseReasonsRight t

theorem Kept.stepKeeps {s u t : State} (h : Kept .none u t) (conserved : ImpressionsConserved s → ImpressionsConserved u)
    (timers : IdleTimerRight s → IdleTimerRight u) (auth : AuthTableRight s → AuthTableRight u)
    (room : JournalHasRoom s → JournalHasRoom u) (capacity : WithinCapacity s → WithinCapacity u)
    (reasons : CloseReasonsRight s → CloseReasonsRight u) : StepKeeps s t where
  conserved := h.conserved ∘ conserved
  timers before := (timersRightBut_none t).1 (h.timers ((timersRightBut_none u).2 (timers before)))
  auth before := (authRightBut_none t).1 (h.auth ((authRightBut_none u).2 (auth before)))
  room := h.room ∘ room
  capacity := h.capacity ∘ capacity
  reasons := h.reasons ∘ reasons

theorem step_keeps {s t : State} (h : step s = .next t) : StepKeeps s t := by
  unfold step at h
  split at h
  · cases h
    exact (tick_kept s).stepKeeps id id id id id id
  · next c rest _ =>
    obtain ⟨u, e, kept⟩ := exec_kept c { s with pending := rest }
    rw [e] at h
    cases h
    exact kept.stepKeeps id id id id (fun before => { before with }) id

/-! ## The obligations -/

/-- Settles O8: no operation on a sheet but moves its impressions from one meter or the queue to another. -/
theorem stepConservesImpressions : Obligations.StepConservesImpressions :=
  fun _ _ before h => (step_keeps h).conserved before

/-- Settles O9: every operation that touches one of the five conditions judges the timer again, a confirmed code at its report. -/
theorem stepKeepsTheIdleTimerRight : Obligations.StepKeepsTheIdleTimerRight :=
  fun _ _ before h => (step_keeps h).timers before

/-- Settles O10: an INITIAL entry goes only with a decision on its session, an INCREMENT entry is made at an open CARD session
alone. -/
theorem stepKeepsTheAuthTableRight : Obligations.StepKeepsTheAuthTableRight :=
  fun _ _ before h => (step_keeps h).auth before

/-- Settles O11: a session begins only with room for its record, and a record is appended only as its session ends. -/
theorem stepKeepsJournalRoom : Obligations.StepKeepsJournalRoom :=
  fun _ _ before h => (step_keeps h).room before

/-- Settles O12: every queue, buffer and table is checked for room before it grows. -/
theorem stepKeepsCapacities : Obligations.StepKeepsCapacities :=
  ⟨fun _ _ before h => (step_keeps h).capacity before, fun _ _ before h => (step_keeps h).reasons before⟩

/-- Settles O3: every meaning answers a next state, and none touches the queue of commands. -/
theorem everyCommandCompletes : Obligations.EveryCommandCompletes := fun c s => by
  obtain ⟨t, e, kept⟩ := exec_kept c s
  exact ⟨t, e, kept.pending⟩

/-- Settles O7: a fresh part holds nothing that an invariant could speak of. -/
theorem resetMeetsTheInvariants : Obligations.ResetMeetsTheInvariants :=
  ⟨fresh_reset.conserved, fresh_reset.timers, fresh_reset.auth, fresh_reset.room, fresh_reset.capacity, fresh_reset.reasons⟩

end Sys2Proof.Machine
end

section
/-!
PROOFS. Frames and requests on the host line (sections 10.2, 10.3 and 10.5): the frame check bit by bit, requests as their frames spell
them, whole frames at the receiver, and the receive queue.
-/

namespace Sys2Proof.Machine

/-! ## The frame check (R171) -/

/-- Linearity: a bit of the check on a register with a word added is a bit of the serial register fed with the word's top bit, and
the rest of the word a place further. -/
theorem checkBit_xor (r w : BitVec 16) : checkBit (r ^^^ w) = serialCheck r w.msb ^^^ (w <<< 1) := by
  unfold checkBit serialCheck
  rw [BitVec.msb_xor, BitVec.shiftLeft_xor_distrib]
  cases r.msb <;> cases w.msb <;> simp [BitVec.xor_assoc, BitVec.xor_comm (w <<< 1)]

/-- The top bit of a byte put at the head of a register and shifted is the byte's next bit. -/
theorem msb_byteAtHead (b : Byte) (k : Nat) (small : k < 8) :
    ((b.zeroExtend 16 <<< 8) <<< k).msb = b.getLsbD (7 - k) := by
  have place : 16 - 1 - (8 + k) = 7 - k := by omega
  simp only [← BitVec.shiftLeft_add, BitVec.msb_eq_getLsbD_last, BitVec.getLsbD_shiftLeft, BitVec.truncate_eq_setWidth,
    BitVec.getLsbD_setWidth, place]
  have inside : 7 - k < 16 := by omega
  have before : ¬ 16 - 1 < 8 + k := by omega
  simp [inside, before]

/-- A byte fed to the check is its eight bits fed to the serial register, from the most significant down. -/
theorem checkByte_eq_serial (r : BitVec 16) (b : Byte) :
    checkByte r b = ([7, 6, 5, 4, 3, 2, 1, 0].map fun k => b.getLsbD k).foldl serialCheck r := by
  have last : (b.zeroExtend 16 <<< 8) <<< 8 = 0#16 := by
    rw [← BitVec.shiftLeft_add]
    exact BitVec.shiftLeft_eq_zero (le_refl 16)
  have head : b.zeroExtend 16 <<< 8 = (b.zeroExtend 16 <<< 8) <<< 0 := (BitVec.shiftLeft_zero _).symm
  unfold checkByte
  rw [head]
  simp only [checkBit_xor, ← BitVec.shiftLeft_add (b.zeroExtend 16 <<< 8), Nat.zero_add, Nat.reduceAdd]
  rw [last, BitVec.xor_zero, msb_byteAtHead b 0 (by decide), msb_byteAtHead b 1 (by decide), msb_byteAtHead b 2 (by decide),
    msb_byteAtHead b 3 (by decide), msb_byteAtHead b 4 (by decide), msb_byteAtHead b 5 (by decide), msb_byteAtHead b 6 (by decide),
    msb_byteAtHead b 7 (by decide)]
  rfl

/-- Settles O13: byte by byte, by the linearity of a bit of the check. -/
theorem frameCheckIsTheCyclicRemainder : Obligations.FrameCheckIsTheCyclicRemainder := by
  intro bytes
  rw [List.foldl_flatMap, frameCheck]
  congr 1
  funext r b
  exact checkByte_eq_serial r b

/-! ## Requests as their frames spell them (R190, section 11.2) -/

/-- The bytes of a word give the word back. -/
theorem ofNat_ofBytes_beBytes (n : Nat) (v : BitVec (8 * n)) : BitVec.ofNat (8 * n) (ofBytes (beBytes n v.toNat)) = v := by
  have bound : v.toNat < 256 ^ n := by
    rw [show 256 = 2 ^ 8 from rfl, ← pow_mul]
    exact v.isLt
  rw [ofBytes_beBytes, Nat.mod_eq_of_lt bound, BitVec.ofNat_toNat, BitVec.setWidth_eq]

/-! A body read field by field: the first field, and the fields after it. -/

theorem bodyField_byte (b : Byte) (rest : List Byte) : bodyField 8 0 (b :: rest) = b := by simp [bodyField, ofBytes]

theorem bodyField_afterByte (w k : Nat) (b : Byte) (rest : List Byte) : bodyField w (k + 1) (b :: rest) = bodyField w k rest := rfl

theorem bodyField_word (n : Nat) (v : BitVec (8 * n)) (rest : List Byte) :
    bodyField (8 * n) 0 (beBytes n v.toNat ++ rest) = v := by
  unfold bodyField
  rw [List.drop_zero, Nat.mul_div_cancel_left n (by decide), List.take_left' (length_beBytes n _), ofNat_ofBytes_beBytes]

theorem bodyField_afterWord (w k n v : Nat) (rest : List Byte) :
    bodyField w (k + n) (beBytes n v ++ rest) = bodyField w k rest := by
  unfold bodyField
  rw [Nat.add_comm, ← List.drop_drop, List.drop_left' (length_beBytes n v)]

theorem bodyField_after16 (w k v : Nat) (rest : List Byte) :
    bodyField w (k + 2) (beBytes 2 v ++ rest) = bodyField w k rest := bodyField_afterWord w k 2 v rest
theorem bodyField_after24 (w k v : Nat) (rest : List Byte) :
    bodyField w (k + 3) (beBytes 3 v ++ rest) = bodyField w k rest := bodyField_afterWord w k 3 v rest
theorem bodyField_after32 (w k v : Nat) (rest : List Byte) :
    bodyField w (k + 4) (beBytes 4 v ++ rest) = bodyField w k rest := bodyField_afterWord w k 4 v rest

theorem bodyField_word16 (v : BitVec 16) (rest : List Byte) : bodyField 16 0 (beBytes 2 v.toNat ++ rest) = v := bodyField_word 2 v rest
theorem bodyField_word24 (v : BitVec 24) (rest : List Byte) : bodyField 24 0 (beBytes 3 v.toNat ++ rest) = v := bodyField_word 3 v rest
theorem bodyField_word32 (v : BitVec 32) (rest : List Byte) : bodyField 32 0 (beBytes 4 v.toNat ++ rest) = v := bodyField_word 4 v rest

/-- The last field of a body. -/
theorem bodyField_lastWord (n : Nat) (v : BitVec (8 * n)) : bodyField (8 * n) 0 (beBytes n v.toNat) = v := by
  simpa using bodyField_word n v []

theorem requestFields_requestBody (r : Request) : requestFields (requestKind r).toNat (requestBody r) = some r := by
  have last16 := bodyField_lastWord 2
  have last24 := bodyField_lastWord 3
  have last32 := bodyField_lastWord 4
  have last128 := bodyField_lastWord 16
  simp only [Nat.reduceMul] at last16 last24 last32 last128
  cases r <;>
    simp [requestFields, requestBody, requestKind, bodyField_byte, bodyField_afterByte, bodyField_word16, bodyField_word24,
      bodyField_word32, bodyField_after16, bodyField_after24, bodyField_after32, last16, last24, last32, last128]

/-- Settles O14: by each request's layout, the body's length first and then its fields in their order. -/
theorem requestFramesDecode : Obligations.RequestFramesDecode := by
  intro r
  have length : bodyLength (requestKind r).toNat = some (requestBody r).length := by cases r <;> rfl
  unfold parseRequest requestFrame
  simp only [length, if_true, requestFields_requestBody]

/-! ## A whole frame at the receiver (R172) -/

theorem setReceiver_hunting {s : State} (h : s.host.receiver = .hunting) : setReceiver .hunting s = s := by
  unfold setReceiver State.updHost
  rw [← h]

/-- Characters with their stop bits at mark, and no break held, are bytes. -/
theorem takeChars_cons {b : Byte} {bytes : List Byte} {s : State} (free : s.host.breakHeld = false) :
    takeChars (onLine (b :: bytes)) s = takeChars (onLine bytes) (takeByte b s) := by
  simp [takeChars, onLine, takeChar, free]

/-- A byte that does not complete the frame is kept. -/
theorem takeByte_more {n : Byte} {bytes : List Byte} {s : State} (b : Byte) (short : bytes.length + 2 < n.toNat + 3) :
    takeByte b (setReceiver (.inFrame (n :: bytes)) s) = setReceiver (.inFrame (n :: (bytes ++ [b]))) s := by
  have more : ¬ ((n :: bytes) ++ [b]).length = n.toNat + 3 := by
    rw [List.length_append, List.length_cons, List.length_singleton]
    omega
  exact if_neg more

/-- The byte that completes the frame. -/
theorem takeByte_complete {n : Byte} {bytes : List Byte} {s : State} (b : Byte) (whole : bytes.length + 2 = n.toNat + 3) :
    takeByte b (setReceiver (.inFrame (n :: bytes)) s) = frameComplete n.toNat (n :: (bytes ++ [b])) s := by
  have complete : ((n :: bytes) ++ [b]).length = n.toNat + 3 := by
    rw [List.length_append, List.length_cons, List.length_singleton]
    exact whole
  exact if_pos complete

/-- The bytes of a frame after its length: all but the last are kept, and the last completes it. -/
theorem takeChars_frame (n : Byte) (last : Byte) (rest : List Byte) : ∀ (bytes : List Byte) (s : State),
    s.host.breakHeld = false → bytes.length + rest.length + 2 = n.toNat + 3 →
    takeChars (onLine (rest ++ [last])) (setReceiver (.inFrame (n :: bytes)) s) =
      frameComplete n.toNat (n :: (bytes ++ (rest ++ [last]))) s := by
  induction rest with
  | nil =>
    intro bytes s free whole
    have inside : (setReceiver (.inFrame (n :: bytes)) s).host.breakHeld = false := free
    exact (takeChars_cons inside).trans (takeByte_complete last whole)
  | cons b rest ih =>
    intro bytes s free whole
    rw [List.length_cons] at whole
    have next := ih (bytes ++ [b]) s free (by simp only [List.length_append, List.length_singleton]; omega)
    rw [List.append_assoc] at next
    have inside : (setReceiver (.inFrame (n :: bytes)) s).host.breakHeld = false := free
    refine (takeChars_cons inside).trans ?_
    rw [takeByte_more b (by omega)]
    exact next

/-- A frame of a length in range on a HUNTING receiver is complete with its last byte. -/
theorem takeChars_whole {n : Byte} {bytes : List Byte} {s : State} (hunting : s.host.receiver = .hunting)
    (free : s.host.breakHeld = false) (one : 1 ≤ n.toNat) (top : n.toNat ≤ 251) (whole : bytes.length = n.toNat + 2) :
    takeChars (onLine (0xA5 :: n :: bytes)) s = frameComplete n.toNat (n :: bytes) s := by
  obtain ⟨rest, last, rfl⟩ : ∃ rest last, bytes = rest ++ [last] :=
    ⟨bytes.dropLast, bytes.getLast (by rintro rfl; simp at whole), (List.dropLast_append_getLast _).symm⟩
  have start : takeByte 0xA5 s = setReceiver (.inFrame []) s := by simp [takeByte, hunting]
  have inRange : ¬ (n = 0 ∨ 251 < n.toNat) := by
    rintro (rfl | h)
    · simp at one
    · omega
  have length : takeByte n (setReceiver (.inFrame []) s) = setReceiver (.inFrame [n]) s := if_neg inRange
  have inside : (setReceiver (.inFrame []) s).host.breakHeld = false := free
  rw [takeChars_cons free, start, takeChars_cons inside, length]
  refine takeChars_frame n last rest [] s free ?_
  simp only [List.length_append, List.length_singleton, List.length_nil] at whole ⊢
  omega

/-- The bytes that the check counts, and the check bytes behind them. -/
theorem take_counted {n : Byte} {rest : List Byte} (check : List Byte) (length : rest.length = n.toNat) :
    (n :: (rest ++ check)).take (1 + n.toNat) = n :: rest ∧ (n :: (rest ++ check)).drop (1 + n.toNat) = check := by
  rw [Nat.add_comm, List.take_succ_cons, List.take_left' length, List.drop_succ_cons, List.drop_left' length]
  exact ⟨rfl, rfl⟩

/-- A complete frame with another check is damaged. -/
theorem frameComplete_damaged {n : Byte} {rest check : List Byte} {s : State} (length : rest.length = n.toNat)
    (other : (frameCheck (n :: rest)).toNat ≠ ofBytes check) : frameComplete n.toNat (n :: (rest ++ check)) s = checkError s := by
  obtain ⟨counted, checks⟩ := take_counted check length
  unfold frameComplete
  rw [counted, checks]
  exact if_neg other

/-- A complete frame with the check of its bytes is valid. -/
theorem frameComplete_valid {n kind : Byte} {body check : List Byte} {s : State} (hunting : s.host.receiver = .hunting)
    (length : (kind :: body).length = n.toNat) (right : (frameCheck (n :: kind :: body)).toNat = ofBytes check) :
    frameComplete n.toNat (n :: (kind :: body ++ check)) s = validFrame kind body s := by
  obtain ⟨counted, checks⟩ := take_counted check length
  unfold frameComplete
  rw [counted, checks]
  refine (if_pos right).trans ?_
  show validFrame kind body (setReceiver .hunting s) = _
  rw [setReceiver_hunting hunting]

/-- A frame made for a kind and a body is valid. -/
theorem hostFrame_frameBytes {kind : Byte} {body : List Byte} {s : State} (hunting : s.host.receiver = .hunting)
    (free : s.host.breakHeld = false) (short : body.length ≤ 250) :
    takeChars (onLine (frameBytes kind body)) s = validFrame kind body s := by
  have length : (BitVec.ofNat 8 (1 + body.length)).toNat = 1 + body.length := by
    rw [BitVec.toNat_ofNat]
    exact Nat.mod_eq_of_lt (by omega)
  unfold frameBytes
  dsimp only
  generalize BitVec.ofNat 8 (1 + body.length) = n at length ⊢
  have check : (frameCheck (n :: kind :: body)).toNat = ofBytes (beBytes 2 (frameCheck (n :: kind :: body)).toNat) := by
    rw [ofBytes_beBytes]
    exact (Nat.mod_eq_of_lt (frameCheck (n :: kind :: body)).isLt).symm
  have whole : (kind :: body ++ beBytes 2 (frameCheck (n :: kind :: body)).toNat).length = n.toNat + 2 := by
    rw [List.length_append, length_beBytes, List.length_cons]
    omega
  refine (takeChars_whole hunting free (by omega) (by omega) whole).trans (frameComplete_valid hunting ?_ check)
  rw [List.length_cons]
  omega

/-! ## Requests as commands -/

theorem exec_requestCommand (r : Request) (s : State) : exec (requestCommand r) s = .next (submit r s) := by cases r <;> rfl

theorem takeFrame_requestFrame (r : Request) (s : State) : takeFrame (requestFrame r) s = takeRequest r s := by
  unfold takeFrame
  rw [requestFramesDecode r]

/-- A request's frame that reaches the receive queue is taken as its command is. -/
theorem receiveRequest_requestFrame (r : Request) (s : State) : receiveRequest (requestFrame r) s = submit r s := by
  unfold submit
  split
  · next idle =>
    obtain ⟨empty, none⟩ := idle
    have queued : enqueue (requestFrame r) s = s.updHost fun h => { h with received := [requestFrame r] } := by
      rcases enqueue_cases (requestFrame r) s with ⟨-, e⟩ | ⟨full, -⟩
      · rw [e, none]
        rfl
      · rw [none] at full
        exact absurd full (by decide)
    have back : ((s.updHost fun h => { h with received := [requestFrame r] }).updHost fun h => { h with received := [] }) = s := by
      simp only [State.updHost, ← none]
    have reply : (s.updHost fun h => { h with received := [requestFrame r] }).host.reply = .empty := empty
    unfold receiveRequest dispatch
    rw [queued]
    simp only [reply]
    show bufferReply (requestKind r) (takeFrame (requestFrame r) _) = _
    rw [back, takeFrame_requestFrame]
  · rfl

theorem length_requestBody (r : Request) : (requestBody r).length ≤ 250 := by
  cases r <;> simp [requestBody, length_beBytes]

theorem requestKind_inRange (r : Request) : 1 ≤ requestKind r ∧ requestKind r ≤ 0x3F := by cases r <;> simp [requestKind]

/-- Settles O15: the frame is valid, and its request reaches the receive queue as the command does. -/
theorem requestFrameActsAsItsCommand : Obligations.RequestFrameActsAsItsCommand := by
  intro r s hunting free
  rw [exec_requestCommand]
  show Host.Outcome.next (takeChars _ s) = _
  rw [hostFrame_frameBytes hunting free (length_requestBody r)]
  unfold validFrame
  dsimp only
  rw [if_pos (requestKind_inRange r)]
  exact congrArg _ (receiveRequest_requestFrame r _)

/-! ## The receive queue and the events of the line -/

theorem received_enqueue {f : HostFrame} {s : State} (room : s.host.received.length < 4) :
    enqueue f s = { s with host := { s.host with received := s.host.received ++ [f] } } := by
  rcases enqueue_cases f s with ⟨-, e⟩ | ⟨full, -⟩
  · exact e
  · omega

theorem overrun_enqueue {f : HostFrame} {s : State} (full : s.host.received.length = 4) :
    enqueue f s = { s with host := { s.host with
      counters := { s.host.counters with overruns := min 65535 (s.host.counters.overruns + 1) } } } := by
  rcases enqueue_cases f s with ⟨room, -⟩ | ⟨-, e⟩
  · omega
  · exact e

/-- A request's frame that comes while a reply is in the buffer goes to the receive queue alone. -/
theorem receiveRequest_held {f : HostFrame} {s : State} (held : s.host.reply ≠ .empty) : receiveRequest f s = enqueue f s :=
  dispatch_held (by rwa [enqueue_reply])

theorem readyOut_iff (h : HostLine) : readyOut h = true ↔ h.received.length < 4 := decide_eq_true_iff

/-- Whether HRDYO is asserted after one request more. -/
theorem readyOut_append {h : HostLine} {f : HostFrame} {xs : List HostFrame} (e : h.received = xs ++ [f]) :
    readyOut h = true ↔ xs.length < 3 := by
  rw [readyOut_iff, e, List.length_append, List.length_singleton]
  omega

/-- Settles O16: each frame by the first check that it fails, and the others by the receive queue's room. -/
theorem rejectedFramesAreCounted : Obligations.RejectedFramesAreCounted := by
  refine ⟨fun s hunting free => ⟨fun n bad => ?length, fun n hi lo rest one top length other => ?check⟩,
    fun kind body s hunting free short => ?frames, fun r s held => ?commands, fun h room => (readyOut_iff h).2 room⟩
  case length =>
    have start : takeByte 0xA5 s = setReceiver (.inFrame []) s := by simp [takeByte, hunting]
    have inside : (setReceiver (.inFrame []) s).host.breakHeld = false := free
    have error : takeByte n (setReceiver (.inFrame []) s) = lengthError (setReceiver (.inFrame []) s) := if_pos bad
    show Host.Outcome.next (takeChars _ s) = _
    rw [takeChars_cons free, start, takeChars_cons inside, error]
    show Host.Outcome.next (lengthError s) = _
    unfold lengthError State.updHost
    rw [← hunting]
    rfl
  case check =>
    have whole : (rest ++ [hi, lo]).length = n.toNat + 2 := by simp [length]
    have damaged : (frameCheck (n :: rest)).toNat ≠ ofBytes [hi, lo] := by simpa [ofBytes] using other
    show Host.Outcome.next (takeChars _ s) = _
    rw [takeChars_whole hunting free one top whole, frameComplete_damaged length damaged]
    unfold checkError State.updHost
    rw [← hunting]
    rfl
  case frames =>
    have frame : exec (.hostFrame (onLine (frameBytes kind body))) s = .next (validFrame kind body s) :=
      congrArg _ (hostFrame_frameBytes hunting free short)
    have request : 1 ≤ kind.toNat → kind.toNat ≤ 0x3F → s.host.reply ≠ .empty →
        validFrame kind body s = enqueue ⟨kind, body⟩ (hearFrame s) := fun one top held => by
      have inRange : 1 ≤ kind ∧ kind ≤ 0x3F := ⟨BitVec.le_def.2 one, BitVec.le_def.2 top⟩
      exact (if_pos inRange).trans (receiveRequest_held held)
    rw [frame]
    refine ⟨fun stray => ?_, fun one top held full => ?_, fun one top held room => ?_⟩
    · have outOfRange : ¬ (1 ≤ kind ∧ kind ≤ 0x3F) := by
        rintro ⟨one, top⟩
        rcases stray with rfl | h
        · exact absurd one (by decide)
        · exact absurd (BitVec.le_def.1 top) (Nat.not_le.2 h)
      exact congrArg _ (if_neg outOfRange)
    · rw [request one top held, overrun_enqueue (s := hearFrame s) full]
      rfl
    · rw [request one top held, received_enqueue (s := hearFrame s) room]
      exact ⟨_, rfl, rfl, readyOut_append rfl⟩
  case commands =>
    rw [exec_requestCommand, submit_held held]
    refine ⟨fun room => ?_, fun full => ⟨?_, by rw [overrun_enqueue full]⟩⟩
    · rw [received_enqueue room]
      exact ⟨_, rfl, rfl, readyOut_append rfl⟩
    · have := (readyOut_iff s.host).not.2 (by omega)
      simpa using this

/-- Settles O17: by what the receiver holds, and by whether a break is held. -/
theorem eventsOfTheHostLine : Obligations.EventsOfTheHostLine := by
  refine ⟨fun s => ⟨fun bytes inFrame => ?_, fun hunting => ?_, fun level => rfl, rfl⟩, fun s => ⟨fun free => ?_, fun held => ⟨?_, ?_⟩⟩⟩
  · show Host.Outcome.next (gapTaken s) = _
    unfold gapTaken
    rw [inFrame]
    rfl
  · show Host.Outcome.next (gapTaken s) = _
    unfold gapTaken
    rw [hunting]
  · show Host.Outcome.next (breakTaken s) = _
    unfold breakTaken
    rw [if_neg (by simp [free])]
    cases htx : s.host.htx <;> simp [State.updHost, htx, htxAfterBreak] <;> rfl
  · exact congrArg _ (if_pos held)
  · intro chars
    have each : ∀ c, takeChar s c = s := fun c => by simp [takeChar, held]
    exact congrArg _ (List.foldl_fixed' each chars)

/-- Settles O20: by the line, the ready line, the reply buffer and the link. -/
theorem arbiterSendsAReplyFirst : Obligations.ArbiterSendsAReplyFirst := by
  refine fun s => ⟨fun taken => congrArg _ (if_neg ?_), fun r free ready waiting => ?_, fun free ready empty down => ?_⟩
  · rcases taken with h | h <;> simp [h]
  · show Host.Outcome.next (arbitrate s) = _
    unfold arbitrate
    rw [if_pos ⟨free, ready⟩, waiting]
    rfl
  · show Host.Outcome.next (arbitrate s) = _
    unfold arbitrate buildNotice
    rw [if_pos ⟨free, ready⟩, empty]
    simp [down]

end Sys2Proof.Machine
end

section
/-!
PROOFS. The arbiter's notices (section 10.4): which class goes first, which of its stations, and what the build of each notice makes of
the part.
-/

namespace Sys2Proof.Machine

/-! ## The station that a class serves next (R182) -/

theorem mem_searchOrder (last i : StationId) : i ∈ searchOrder last := by
  unfold searchOrder
  exact List.mem_map.2 ⟨i - (last + 1), List.mem_finRange _, by rw [add_sub_cancel]⟩

theorem nextServed_isSome (c : NoticeClass) (s : State) :
    (nextServed c s).isSome = true ↔ ∃ i, formPending (s.st i).cond c = true := by
  rw [nextServed, List.find?_isSome]
  exact ⟨fun ⟨i, _, h⟩ => ⟨i, h⟩, fun ⟨i, h⟩ => ⟨i, mem_searchOrder _ i, h⟩⟩

/-- The first number that has a property is the one found. -/
theorem find_finRange {m : Nat} {p : Fin m → Bool} {n : Fin m} (before : ∀ k, k < n → p k = false) (found : p n = true) :
    (List.finRange m).find? p = some n := by
  refine List.find?_eq_some_iff_getElem.2 ⟨found, n.val, by simp, by simp, fun j less => ?_⟩
  have bound : j < m := less.trans n.isLt
  simpa using before ⟨j, bound⟩ less

/-- The first station of the search that has a form is served. -/
theorem nextServed_first {c : NoticeClass} {s : State} {n : Fin 16}
    (before : ∀ k : Fin 16, k < n → formPending (s.st (lastServedIn s.host.lastServed c + 1 + k)).cond c = false)
    (pending : formPending (s.st (lastServedIn s.host.lastServed c + 1 + n)).cond c = true) :
    nextServed c s = some (lastServedIn s.host.lastServed c + 1 + n) := by
  unfold nextServed searchOrder allStations
  rw [List.find?_map]
  exact congrArg (Option.map _) (find_finRange (p := (fun i => formPending (s.st i).cond c) ∘ _) before pending)

/-- The only station with a form is served. -/
theorem nextServed_only {c : NoticeClass} {s : State} {i : StationId} (pending : formPending (s.st i).cond c = true)
    (only : ∀ j, formPending (s.st j).cond c = true → j = i) : nextServed c s = some i := by
  obtain ⟨j, e⟩ := Option.isSome_iff_exists.1 ((nextServed_isSome c s).2 ⟨i, pending⟩)
  have has : formPending (s.st j).cond c = true := List.find?_some (p := fun i => formPending (s.st i).cond c) e
  rw [e, only j has]

/-! ## The class that goes first (R177, R182) -/

theorem classPending_iff (c : NoticeClass) (s : State) : classPending c s = true ↔ ClassWaits s c := by
  cases c with
  | journal => rfl
  | _ => exact nextServed_isSome _ s

theorem mem_classOrder (c : NoticeClass) : c ∈ classOrder := by cases c <;> decide

/-- With no class pending at a level, none is chosen. -/
theorem chooseClass_none {s : State} (none : ∀ c, ClassWaits s c → classLevel s.host.levels c = 0) : chooseClass s = .none := by
  unfold chooseClass
  refine List.findSome?_eq_none_iff.2 fun level m => List.find?_eq_none.2 fun c _ h => ?_
  simp only [Bool.and_eq_true, beq_iff_eq, classPending_iff] at h
  rw [none c h.2] at h
  simp at m
  omega

/-- The class that goes before every other pending one is chosen. -/
theorem chooseClass_first {s : State} {c : NoticeClass} (one : 1 ≤ classLevel s.host.levels c)
    (top : classLevel s.host.levels c ≤ 3) (waits : ClassWaits s c)
    (first : ∀ d, d ≠ c → ClassWaits s d → classLevel s.host.levels d ≤ 3 → GoesFirst s.host.levels c d) :
    chooseClass s = some c := by
  have ordered : classOrder.Pairwise fun a b => noticeRank a < noticeRank b := by decide
  have higher : ∀ level, classLevel s.host.levels c < level → level ≤ 3 →
      (classOrder.find? fun d => classLevel s.host.levels d == level && classPending d s) = none := fun level above inRange => by
    refine List.find?_eq_none.2 fun d _ h => ?_
    simp only [Bool.and_eq_true, beq_iff_eq, classPending_iff] at h
    by_cases e : d = c
    · rw [e] at h; omega
    · rcases first d e h.2 (h.1 ▸ inRange) with lower | ⟨same, _⟩ <;> omega
  have own : (classOrder.find? fun d => classLevel s.host.levels d == classLevel s.host.levels c && classPending d s) = some c := by
    have has : (classOrder.find? fun d => classLevel s.host.levels d == classLevel s.host.levels c && classPending d s).isSome :=
      List.find?_isSome.2 ⟨c, mem_classOrder c, by simpa [classPending_iff] using waits⟩
    obtain ⟨d, e⟩ := Option.isSome_iff_exists.1 has
    obtain ⟨holds, before, after, split, none⟩ := List.find?_eq_some_iff_append.1 e
    simp only [Bool.and_eq_true, beq_iff_eq, classPending_iff] at holds
    rw [e]
    by_contra other
    have other : d ≠ c := fun h => other (by rw [h])
    have rank : noticeRank c < noticeRank d := by
      rcases first d other holds.2 (holds.1 ▸ top) with lower | ⟨_, rank⟩
      · omega
      · exact rank
    have place : c ∈ before ++ d :: after := split ▸ mem_classOrder c
    rw [split] at ordered
    rcases List.mem_append.1 place with m | m
    · have := none c m
      simp [(classPending_iff c s).2 waits] at this
    · rcases List.mem_cons.1 m with e | m
      · exact other e.symm
      · have := (List.pairwise_cons.1 (List.pairwise_append.1 ordered).2.1).1 c m
        omega
  unfold chooseClass
  have cases3 : classLevel s.host.levels c = 3 ∨ classLevel s.host.levels c = 2 ∨ classLevel s.host.levels c = 1 := by omega
  rcases cases3 with e | e | e <;> rw [e] at own higher <;> simp [own, higher]

/-! ## The build (R182) -/

/-- What the arbiter needs to send a notice. -/
structure MaySend (s : State) : Prop where
  free : s.host.htx = .free
  ready : s.host.hrdyi = true
  empty : s.host.reply = .empty
  up : s.host.linkUp = true

theorem arbitrate_of_maySend {s : State} (h : MaySend s) : arbitrate s = buildNotice s := by
  unfold arbitrate
  rw [if_pos ⟨h.free, h.ready⟩, h.empty]

/-- With nothing pending the arbiter sends nothing. -/
theorem arbitrate_none {s : State} (none : ∀ c, ClassWaits s c → classLevel s.host.levels c = 0)
    (empty : s.host.reply = .empty) : arbitrate s = s := by
  unfold arbitrate buildNotice
  rw [empty, chooseClass_none none]
  split
  · dsimp only
    exact ite_self s
  · rfl

/-- A chosen class of a station sends for the station that it serves next. -/
theorem noticeBuild_for {s : State} {c : NoticeClass} {i : StationId} (may : MaySend s) (chosen : chooseClass s = some c)
    (served : nextServed c s = some i) (notJournal : c ≠ .journal) : exec .noticeBuild s = .next (buildFor c i s) := by
  show Host.Outcome.next (arbitrate s) = _
  rw [arbitrate_of_maySend may]
  unfold buildNotice buildClass
  rw [if_pos may.up, chosen]
  dsimp only
  rw [if_neg notJournal, served]

theorem noticeBuild_journal {s : State} (may : MaySend s) (chosen : chooseClass s = some .journal) :
    exec .noticeBuild s = .next (buildJournal s) := by
  show Host.Outcome.next (arbitrate s) = _
  rw [arbitrate_of_maySend may]
  unfold buildNotice buildClass
  rw [if_pos may.up, chosen]
  rfl

/-- What a notice of a station's class brings with it: its kind, its station, the station last served, and its form cleared. -/
structure NoticeFor (c : NoticeClass) (i : StationId) (s : State) (n : Notice) (served : LastServed → LastServed)
    (f : Conditions → Conditions) : Prop where
  built : buildFor c i s = sendNotice n served (s.updCond i f)
  kind : noticeKind n ∈ noticeKinds c
  station : (noticeBody n)[if c = .auth then 2 else 0]? = some (stationByte i)
  servedOwn : ∀ l, lastServedIn (served l) c = i
  servedOthers : ∀ l d, d ≠ c → lastServedIn (served l) d = lastServedIn l d
  cleared : c ≠ .auth → formPending (f (s.st i).cond) c = false
  others : ∀ d, d ≠ c → formPending (f (s.st i).cond) d = formPending (s.st i).cond d

theorem buildAuth_cancel {i : StationId} {s : State} {a : AuthCancel} (cancel : (s.st i).cond.authCancel = some a) :
    buildFor .auth i s =
      sendNotice (.authCancel i a) (fun l => { l with auth := i }) (s.updCond i fun x => { x with authCancel := none }) := by
  show buildAuth i s = _
  unfold buildAuth
  rw [cancel]

theorem buildAuth_request {i : StationId} {s : State} {r : AuthRequest} (noCancel : (s.st i).cond.authCancel = none)
    (request : (s.st i).cond.authRequest = some r) : buildFor .auth i s =
      sendNotice (.authRequest i r) (fun l => { l with auth := i }) (s.updCond i fun x => { x with authRequest := none }) := by
  show buildAuth i s = _
  unfold buildAuth
  rw [noCancel, request]

theorem buildJam_report {i : StationId} {s : State} {r : JamReport} (report : (s.st i).cond.jam = some r) : buildFor .jam i s =
    sendNotice (.jam i r) (fun l => { l with jam := i }) (s.updCond i fun x => { x with jam := none }) := by
  show buildJam i s = _
  unfold buildJam
  rw [report]

theorem buildStation_states {i : StationId} {s : State} {f : LineState} (first : (s.st i).cond.lineFirst = some f) :
    buildFor .station i s =
      sendNotice (.stationState i f ((s.st i).cond.lineLatest.getD f) (s.st i).recovery.availability) (fun x => { x with station := i })
        (s.updCond i fun x => { x with lineFirst := none, lineLatest := none }) := by
  show buildStation i s = _
  unfold buildStation
  rw [first]
  cases (s.st i).cond.lineLatest <;> rfl

theorem buildSession_state (i : StationId) (s : State) : buildFor .session i s =
    sendNotice (.session i (s.st i).session.state (s.st i).session.number) (fun l => { l with session := i })
      (s.updCond i fun x => { x with session := false }) := rfl

theorem buildAnomaly_count (i : StationId) (s : State) : buildFor .anomaly i s =
    sendNotice (.anomaly i (s.st i).cond.anomalies (s.st i).cond.latestAnomaly) (fun l => { l with anomaly := i })
      (s.updCond i fun x => { x with anomalies := 0 }) := rfl

theorem buildFor_notice {c : NoticeClass} {i : StationId} {s : State} (notJournal : c ≠ .journal)
    (pending : formPending (s.st i).cond c = true) : ∃ n served f, NoticeFor c i s n served f := by
  cases c with
  | auth =>
    cases cancel : (s.st i).cond.authCancel with
    | some a =>
      refine ⟨_, _, _, buildAuth_cancel cancel, by simp [noticeKind, noticeKinds], rfl, fun _ => rfl, fun l d other => ?_, fun h => absurd rfl h,
        fun d other => ?_⟩ <;> cases d <;> first | rfl | exact absurd rfl other
    | none =>
      obtain ⟨r, request⟩ := Option.isSome_iff_exists.1 (by simpa [formPending, cancel] using pending)
      refine ⟨_, _, _, buildAuth_request cancel request, by simp [noticeKind, noticeKinds], rfl, fun _ => rfl, fun l d other => ?_, fun h => absurd rfl h,
        fun d other => ?_⟩ <;> cases d <;> first | rfl | exact absurd rfl other
  | jam =>
    obtain ⟨r, report⟩ := Option.isSome_iff_exists.1 pending
    refine ⟨_, _, _, buildJam_report report, by simp [noticeKind, noticeKinds], rfl, fun _ => rfl, fun l d other => ?_, fun _ => rfl, fun d other => ?_⟩ <;>
      cases d <;> first | rfl | exact absurd rfl other
  | session =>
    refine ⟨_, _, _, buildSession_state i s, by simp [noticeKind, noticeKinds], rfl, fun _ => rfl, fun l d other => ?_, fun _ => rfl, fun d other => ?_⟩ <;>
      cases d <;> first | rfl | exact absurd rfl other
  | station =>
    obtain ⟨f, first⟩ := Option.isSome_iff_exists.1 pending
    refine ⟨_, _, _, buildStation_states first, by simp [noticeKind, noticeKinds], rfl, fun _ => rfl, fun l d other => ?_, fun _ => rfl, fun d other => ?_⟩ <;>
      cases d <;> first | rfl | exact absurd rfl other
  | anomaly =>
    refine ⟨_, _, _, buildAnomaly_count i s, by simp [noticeKind, noticeKinds], rfl, fun _ => rfl, fun l d other => ?_, fun _ => rfl, fun d other => ?_⟩ <;>
      cases d <;> first | rfl | exact absurd rfl other
  | journal => exact absurd rfl notJournal

/-! ## Which class waits -/

theorem goesFirst_of_rank {l : Levels} {c d : NoticeClass} (three : classLevel l c = 3) (top : classLevel l d ≤ 3)
    (rank : noticeRank c < noticeRank d) : GoesFirst l c d := by
  rcases Nat.lt_or_ge (classLevel l d) 3 with lower | same
  · exact .inl (three ▸ lower)
  · exact .inr ⟨by omega, rank⟩

/-- A class that alone is pending. -/
def WaitsAlone (s : State) (c : NoticeClass) : Prop := ∀ d, d ≠ c → ¬ ClassWaits s d

/-- One station's form alone is pending. -/
theorem noticeBuild_alone {s : State} {c : NoticeClass} {i : StationId} (may : MaySend s) (notJournal : c ≠ .journal)
    (alone : WaitsAlone s c) (pending : formPending (s.st i).cond c = true)
    (only : ∀ j, formPending (s.st j).cond c = true → j = i) :
    (classLevel s.host.levels c = 0 → exec .noticeBuild s = .next s) ∧
    (1 ≤ classLevel s.host.levels c → classLevel s.host.levels c ≤ 3 → exec .noticeBuild s = .next (buildFor c i s)) := by
  have waits : ClassWaits s c := by
    cases c <;> first | exact absurd rfl notJournal | exact ⟨i, pending⟩
  refine ⟨fun zero => congrArg _ (arbitrate_none (fun d h => ?_) may.empty), fun one top => ?_⟩
  · by_cases e : d = c
    · exact e ▸ zero
    · exact absurd h (alone d e)
  · exact noticeBuild_for may (chooseClass_first one top waits fun d other h => absurd h (alone d other))
      (nextServed_only pending only) notJournal

/-- The JOURNAL flag alone is up. -/
theorem noticeBuild_journalAlone {s : State} (may : MaySend s) (alone : WaitsAlone s .journal) (flag : s.host.journalFlag = true) :
    (s.host.levels.journal = 0 → exec .noticeBuild s = .next s) ∧
    (1 ≤ s.host.levels.journal → s.host.levels.journal ≤ 3 → exec .noticeBuild s = .next (buildJournal s)) := by
  refine ⟨fun zero => congrArg _ (arbitrate_none (fun d h => ?_) may.empty), fun one top => ?_⟩
  · by_cases e : d = .journal
    · exact e ▸ zero
    · exact absurd h (alone d e)
  · exact noticeBuild_journal may (chooseClass_first one top flag fun d other h => absurd h (alone d other))

/-- No form of a station is pending. -/
theorem noForm_of_quiet {c : Conditions} (h : c.authRequest = none ∧ c.authCancel = none ∧ c.jam = none ∧ c.session = false ∧
    c.lineFirst = none ∧ c.anomalies = 0) (d : NoticeClass) : formPending c d = false := by
  obtain ⟨request, cancel, jam, session, line, anomalies⟩ := h
  cases d <;> simp [formPending, *]

/-- Settles O21: the class is chosen by its level and its place, the station by the search, and the build by the class. -/
theorem noticesAreServedInTurn : Obligations.NoticesAreServedInTurn := by
  refine ⟨?jam, ?auth, ?alone, ?general⟩
  case jam =>
    intro s d r free ready empty up three noAuth before report
    have may : MaySend s := ⟨free, ready, empty, up⟩
    have notPending : ∀ k : Fin 16, k < d → formPending (s.st (s.host.lastServed.jam + 1 + k)).cond .jam = false := fun k less => by
      simp [formPending, before k less]
    have pending : formPending (s.st (s.host.lastServed.jam + 1 + d)).cond .jam = true := by simp [formPending, report]
    have first : ∀ e, e ≠ .jam → ClassWaits s e → classLevel s.host.levels e ≤ 3 → GoesFirst s.host.levels .jam e := by
      intro e other waits top
      have rank : noticeRank .jam < noticeRank e := by
        cases e with
        | auth =>
          obtain ⟨i, h⟩ := waits
          simp [formPending, noAuth i] at h
        | jam => exact absurd rfl other
        | _ => decide
      exact goesFirst_of_rank three top rank
    have waits : ClassWaits s .jam := ⟨_, pending⟩
    have chosen := chooseClass_first (by rw [classLevel, three]; decide) (by rw [classLevel, three]) waits first
    exact (noticeBuild_for may chosen (nextServed_first notPending pending) (by decide)).trans (congrArg _ (buildJam_report report))
  case auth =>
    intro s i free ready empty up others
    have may : MaySend s := ⟨free, ready, empty, up⟩
    have first : ∀ e, e ≠ .auth → ClassWaits s e → classLevel s.host.levels e ≤ 3 → GoesFirst s.host.levels .auth e := by
      intro e other _ top
      refine goesFirst_of_rank rfl top ?_
      cases e <;> first | exact absurd rfl other | decide
    have built : formPending (s.st i).cond .auth = true → exec .noticeBuild s = .next (buildFor .auth i s) := fun pending => by
      refine noticeBuild_for may (chooseClass_first (Nat.le_add_left 1 2) le_rfl (c := .auth) ⟨i, pending⟩ first) (nextServed_only pending ?_) (by decide)
      intro j has
      by_contra other
      simp [formPending, others j other] at has
    refine ⟨fun c cancel => ?_, fun r noCancel request => ?_⟩
    · rw [built (by simp [formPending, cancel]), buildAuth_cancel cancel]
      rfl
    · rw [built (by simp [formPending, request]), buildAuth_request noCancel request]
      rfl
  case alone =>
    intro s i free ready empty up quiet c others
    have may : MaySend s := ⟨free, ready, empty, up⟩
    -- a class waits for a form of station `i`, or for the JOURNAL flag
    have own : ∀ d, ClassWaits s d → d = .journal ∧ s.host.journalFlag = true ∨ formPending c d = true := fun d waits => by
      have form : (∃ j, formPending (s.st j).cond d = true) → formPending c d = true := fun ⟨j, has⟩ => by
        by_cases e : j = i
        · rwa [e] at has
        · rw [noForm_of_quiet (others j e) d] at has
          cases has
      cases d with
      | journal => exact .inl ⟨rfl, waits⟩
      | _ => exact .inr (form waits)
    have only : ∀ d j, formPending (s.st j).cond d = true → j = i := fun d j has => by
      by_contra e
      rw [noForm_of_quiet (others j e) d] at has
      cases has
    -- with one class's form aside, the station is quiet, and so is the part
    have alone : ∀ (d : NoticeClass) (q : Conditions), s.host.journalFlag = false → quiet q →
        (∀ e, e ≠ d → formPending c e = formPending q e) → WaitsAlone s d := fun d q flag rest same e other waits => by
      rcases own e waits with ⟨-, up⟩ | form
      · exact nomatch flag.symm.trans up
      · exact nomatch (noForm_of_quiet rest e).symm.trans ((same e other).symm.trans form)
    refine ⟨fun flag rest has => ?_, fun f l flag rest first latest => ?_, fun k flag rest count kind => ?_, fun flag rest => ?_⟩
    · have alone := alone .session _ flag rest fun e other => by cases e <;> first | rfl | exact absurd rfl other
      exact noticeBuild_alone may (by decide) alone has (only _)
    · have alone := alone .station _ flag rest fun e other => by
        cases e <;> first | rfl | exact absurd rfl other
      have has : formPending (s.st i).cond .station = true := by
        rw [formPending, show (s.st i).cond.lineFirst = some f from first]
        rfl
      obtain ⟨zero, sent⟩ := noticeBuild_alone may (by decide) alone has (only _)
      refine ⟨zero, fun one top => (sent one top).trans ?_⟩
      rw [buildStation_states first, show (s.st i).cond.lineLatest = some l from latest]
      rfl
    · have alone := alone .anomaly _ flag rest fun e other => by cases e <;> first | rfl | exact absurd rfl other
      have has : formPending (s.st i).cond .anomaly = true := by simpa [formPending] using count
      obtain ⟨zero, sent⟩ := noticeBuild_alone may (by decide) alone has (only _)
      refine ⟨zero, fun one top => (sent one top).trans ?_⟩
      rw [buildAnomaly_count, show (s.st i).cond.latestAnomaly = some k from kind]
      rfl
    · have alone : WaitsAlone s .journal := fun e other waits => by
        rcases own e waits with ⟨journal, -⟩ | form
        · exact other journal
        · exact nomatch (noForm_of_quiet rest e).symm.trans form
      exact noticeBuild_journalAlone may alone flag
  case general =>
    intro s c free ready empty up one top first
    have may : MaySend s := ⟨free, ready, empty, up⟩
    refine ⟨fun journal flag => ?_, fun n before pending => ?_⟩
    · subst journal
      rw [noticeBuild_journal may (chooseClass_first one top flag fun d other waits _ => first d other waits)]
      rfl
    · have notJournal : c ≠ .journal := by rintro rfl; cases pending
      have waits : ClassWaits s c := by
        cases c <;> first | exact absurd rfl notJournal | exact ⟨_, pending⟩
      intro i
      have pending : formPending (s.st i).cond c = true := pending
      obtain ⟨m, served, f, notice⟩ := buildFor_notice notJournal pending
      have st : (sendNotice m served (s.updCond i f)).st i = { s.st i with cond := f (s.st i).cond } := st_updCond s i f
      refine ⟨_, noticeKind m, noticeBody m, noticeBuild_for may
        (chooseClass_first one top waits fun d other w _ => first d other w) (nextServed_first before pending) notJournal, ?_⟩
      show _ = _ ∧ _
      rw [notice.built, st]
      exact ⟨rfl, notice.kind, notice.station, notice.servedOwn _, fun d other => notice.servedOthers _ d other,
        fun j other => (st_updCond_ne s f other :), rfl, notice.cleared, notice.others⟩

end Sys2Proof.Machine
end

section
/-!
PROOFS. A step, RESET, the events of a station and the requests on the part (sections 1.1, 2.2, 8.5, 10.4, 10.6, 10.8 and 10.9).
-/

namespace Sys2Proof.Machine

/-! ## The step -/

/-- Settles O1: by the definition of a step. -/
theorem stepTakesTheFrontCommand : Obligations.StepTakesTheFrontCommand := by
  intro c rest s front
  unfold step
  rw [front]

/-- Settles O2: with nothing waiting a step is a tick, station by station. -/
theorem emptyQueuePassesOneFrame : Obligations.EmptyQueuePassesOneFrame := by
  intro s empty
  have ticked : step s = .next (tick s) := by
    unfold step
    rw [empty]
  refine ⟨tick s, ticked, rfl, fun i => ⟨tickRequest (s.st i).request, ?_, fun idle => by rw [idle]; rfl,
    fun n p c k waits => by rw [waits]; rfl⟩⟩
  have st : (tick s).st i = tickStation (s.st i) := st_updAll s tickStation i
  rw [st]
  unfold tickStation tickQueue
  congr 1
  cases (s.st i).recovery.stoppage <;> rfl

/-! ## The events of a station -/

theorem atStation_local {i : StationId} {f : State → State} {s : State} (h : LocalTo i s (f s)) : LocalTo i s (atStation i f s) := by
  unfold atStation
  split
  · exact h
  · exact .refl i s

theorem inFrame_of_low {s : State} {i : StationId} (low : s.host.stationsHigh = false) (high : 8 ≤ i.val) : s.inFrame i = false := by
  simp [State.inFrame, State.frameSize, low]
  omega

theorem atStation_outOfFrame {i : StationId} {f : State → State} {s : State} (out : s.inFrame i = false) : atStation i f s = s :=
  if_neg (by simp [out])

/-- The jobs of a station's stall timer are its own. -/
theorem stallExpiry_local (i : StationId) {s : State} (quiet : s.meanwhile = []) : LocalTo i s (workOff [.stallExpiry i] s) :=
  workOff_local i _ (fun j hj => by rw [List.mem_singleton.1 hj]; rfl) quiet

/-! ### The events of an arrival that begin nothing -/

theorem takeEvents_nil (i : StationId) (s : State) : takeEvents i [] s = s := by
  show workOff [] s = s
  unfold workOff
  cases s.meanwhile.length <;> rfl

/-- One event that begins no series is taken alone, whatever the tape of the gaps holds. -/
theorem takeEvents_one {i : StationId} {e : LineEvent} {s t : State} (begun : takeEvent i e s = (none, t)) :
    takeEvents i [e] s = t := workOff_one (j := .event i e) rfl begun

theorem applyLine_nil {i : StationId} {f : StationLine → LineStep} {s : State} {l : StationLine} (h : f (s.st i).line = (l, [])) :
    applyLine i f s = s.updLine i fun _ => l := by
  unfold applyLine
  rw [h]
  exact takeEvents_nil i _

/-- A part of an arrival that raises an anomaly alone. -/
theorem applyLine_anomaly {i : StationId} {f : StationLine → LineStep} {s : State} {l : StationLine} {k : AnomalyKind}
    (h : f (s.st i).line = (l, [.anomaly k])) : applyLine i f s = raiseAnomaly i k (s.updLine i fun _ => l) := by
  unfold applyLine
  rw [h]
  exact takeEvents_one rfl

theorem receiveLimitAt_local (i : StationId) (s : State) : LocalTo i s (receiveLimitAt i s) := by
  unfold receiveLimitAt
  split
  · exact .refl i s
  · rw [applyLine_anomaly rfl]
    exact (updLine_local i _ s).trans (raiseAnomaly_local i _ _)

theorem noAcknowledgementAt_local (i : StationId) (s : State) : LocalTo i s (noAcknowledgementAt i s) := by
  unfold noAcknowledgementAt
  split
  · rw [applyLine_anomaly rfl]
    exact (updLine_local i _ s).trans (raiseAnomaly_local i _ _)
  · exact .refl i s

/-- An event at a station that is no slot, with the tape of the gaps empty where it could let something in, is local. -/
theorem stationEvent_local {c : Instr} {i : StationId} {s t : State} (event : eventStation c = some i) (taken : exec c s = .next t)
    (noSlot : ¬ ∃ h, c = .upstreamHalf i h) (quiet : c = .idleExpiry i ∨ c = .stallTimerExpiry i → s.meanwhile = []) :
    LocalTo i s t := by
  cases c with
  | upstreamHalf k h => cases event; exact absurd ⟨h, rfl⟩ noSlot
  | stationLost k =>
    cases event; cases taken
    refine atStation_local ?_
    unfold stationLostAt
    split
    · exact loseStation_local i s
    · exact .refl i s
  | stationPresent k =>
    cases event; cases taken
    refine atStation_local ?_
    unfold stationPresentAt
    split
    · exact .refl i s
    · exact regainStation_local i s
  | pickWaitExpiry k => cases event; cases taken; exact atStation_local (pickWaitExpires_local i s)
  | receiveLimit k => cases event; cases taken; exact atStation_local (receiveLimitAt_local i s)
  | noAcknowledgement k => cases event; cases taken; exact atStation_local (noAcknowledgementAt_local i s)
  | card k a b => cases event; cases taken; exact atStation_local (deliver_local i _ s)
  | account k n => cases event; cases taken; exact atStation_local (deliver_local i _ s)
  | finish k => cases event; cases taken; exact atStation_local (deliver_local i _ s)
  | idleExpiry k => cases event; cases taken; exact atStation_local (idleExpires_local i (quiet (.inl rfl)))
  | stallTimerExpiry k => cases event; cases taken; exact atStation_local (stallExpiry_local i (quiet (.inr rfl)))
  | overdue k => cases event; cases taken; exact atStation_local (headExpires_local i s)
  | initialAuthTimeout k => cases event; cases taken; exact atStation_local (authTimesOut_local i _ s)
  | incrementAuthTimeout k => cases event; cases taken; exact atStation_local (authTimesOut_local i _ s)
  | _ => cases event

/-- Settles O4: by the meaning of each command, a slot in its turn apart. -/
theorem stationEventsStayAtTheirStation : Obligations.StationEventsStayAtTheirStation := by
  refine ⟨fun c i s t event taken quiet => ⟨?inTurn, ?outOfTurn, ?others⟩, fun c i s event low high => ?outOfFrame⟩
  case inTurn =>
    rintro ⟨h, rfl⟩ inFrame turn
    cases taken
    have slot : atStation i (takeSlot i h) s = takeSlot i h s := if_pos inFrame
    rw [slot]
    exact takeSlot_local h turn (quiet (.inr ⟨h, rfl⟩))
  case outOfTurn =>
    rintro ⟨h, rfl⟩ other
    cases taken
    unfold atStation takeSlot
    rw [if_neg other, ite_self]
  case others => exact fun noSlot => stationEvent_local event taken noSlot fun expiry => quiet (.inl expiry)
  case outOfFrame =>
    have out := inFrame_of_low low high
    cases c <;> try cases event
    all_goals exact congrArg _ (atStation_outOfFrame out)

/-! ## RESET -/

/-- Settles O5: the power-on values, with the straps as sampled and the level of HRDYI as it is. -/
theorem resetHostLineValues : Obligations.ResetHostLineValues := by
  intro stations rate s
  have fresh := fresh_resetPart stations rate s
  refine ⟨_, rfl, rfl, rfl, rfl, fun i => ?_, congrArg _ (arbitrate_none (fun c waits => ?_) rfl)⟩
  · rw [fresh.stations i]
    exact ⟨rfl, rfl⟩
  · have form : ¬ ∃ i, formPending ((resetPart stations rate s).st i).cond c = true := fun ⟨i, has⟩ => by
      rw [fresh.stations i] at has
      cases c <;> cases has
    cases c with
    | journal => cases waits
    | _ => exact absurd waits form

/-- Settles O6: the power-on values of each block. -/
theorem resetBlockValues : Obligations.ResetBlockValues := by
  intro stations rate s
  have fresh := fresh_resetPart stations rate s
  refine ⟨_, rfl, fun i => ?_, rfl, rfl, rfl, fun c m k => ?_, fun c => ?_, fun e => ?_, rfl, rfl, rfl, rfl, rfl, rfl, rfl⟩
  · rw [fresh.stations i]
    exact ⟨rfl, rfl, rfl, rfl, rfl, rfl, rfl, rfl, rfl⟩
  · exact Vector.getElem_replicate _
  · exact Vector.getElem_replicate _
  · exact Vector.getElem_replicate _

/-! ## Requests on the part -/

/-- A request that nothing holds back is taken at once, and its reply waits. -/
theorem exec_request_idle {s : State} (idle : lineIdle s) (r : Request) :
    exec (requestCommand r) s = .next (bufferReply (requestKind r) (takeRequest r s)) := by
  rw [exec_requestCommand, submit_idle idle]

/-- A body that is the bytes of its fields. -/
theorem bodyIs_of_bytes {body : List Byte} {fields : List (Nat × Nat)} (h : body = fields.flatMap fun f => beBytes f.1 f.2) :
    bodyIs body fields := h ▸ bodyIs_flatMap_beBytes fields

theorem sessions_eq_zero {s : State} : s.sessions = 0 ↔ ∀ i, (s.st i).session.state = .none := by
  rw [State.sessions, List.length_eq_zero_iff]
  simp [State.liveStations, sessionLive, allStations]

theorem stopWhenEmpty_last {s : State} (stopping : s.host.op = .stopping) (none : ∀ i, (s.st i).session.state = .none) :
    stopWhenEmpty s = s.updHost fun h => { h with op := .stopped } := if_pos ⟨stopping, sessions_eq_zero.2 none⟩

theorem stopWhenEmpty_notLast {s : State} {i : StationId} (live : (s.st i).session.state ≠ .none) : stopWhenEmpty s = s :=
  if_neg fun h => live (sessions_eq_zero.1 h.2 i)

/-- Settles O22: by the operating state, and for STOP by the sessions that exist. -/
theorem startAndStopMoveTheOperatingState : Obligations.StartAndStopMoveTheOperatingState := by
  intro s idle
  have start : exec .start s = .next (bufferReply 0x02 (takeStart s)) := exec_request_idle idle .start
  have stop : exec .stop s = .next (bufferReply 0x03 (takeStop s)) := exec_request_idle idle .stop
  rw [start, stop]
  unfold takeStart takeStop
  refine ⟨fun stopped => ?_, fun other => ?_, fun running none => ?_, fun i running exists_ => ?_, fun other => ?_⟩
  · rw [if_pos stopped, bufferReply_ok]
    rfl
  · rw [if_neg other, bufferReply_refused]
  · rw [if_pos running, stopWhenEmpty_last (s := s.updHost fun h => { h with op := .stopping }) rfl none, bufferReply_ok]
    rfl
  · rw [if_pos running, stopWhenEmpty_notLast (s := s.updHost fun h => { h with op := .stopping }) exists_, bufferReply_ok]
    rfl
  · rw [if_neg other, bufferReply_ok]

theorem bodyIs_timersBody (t : TimerValues) :
    bodyIs (timersBody t) [(2, t.idle), (2, t.pickWait), (2, t.transit), (2, t.stall), (2, t.auth), (2, t.silence)] :=
  bodyIs_of_bytes (by simp [timersBody])

/-- Settles O24: SET TIMERS by the clamps of its six values, SET LEVELS by its five levels. -/
theorem settingsOfTimersAndLevels : Obligations.SettingsOfTimersAndLevels := by
  refine ⟨fun a b c d e f s idle => ?timers, fun a b c d e s idle => ?levels⟩
  case timers =>
    exact ⟨_, _, exec_request_idle idle (.setTimers a b c d e f), rfl, bodyIs_timersBody _⟩
  case levels =>
    have request : exec (.setLevels a b c d e) s = .next (bufferReply 0x06 (takeSetLevels a b c d e s)) :=
      exec_request_idle idle (.setLevels a b c d e)
    have le : ∀ x : Byte, x ≤ 3 ↔ x.toNat ≤ 3 := fun x => BitVec.le_def
    rw [request]
    unfold takeSetLevels
    simp only [le]
    refine ⟨fun ha hb hc hd he => ?_, fun bad => ?_⟩
    · rw [if_pos ⟨ha, hb, hc, hd, he⟩, bufferReply_ok]
      simp only [levelsBody, beBytes_one_toNat, List.singleton_append, List.append_assoc]
      rfl
    · rw [if_neg (by omega), bufferReply_refused]

/-- Settles O25: by the request, and by whether the clock is at its top. -/
theorem clockIsSetAndGrows : Obligations.ClockIsSetAndGrows := by
  intro v s
  refine ⟨fun idle => exec_request_idle idle (.setClock v), fun below => ?_, fun top => ?_⟩
  · have next : (s.journal.clock + 1) % Config.longModulus = s.journal.clock + 1 :=
      Nat.mod_eq_of_lt (by unfold Config.longModulus; omega)
    show Host.Outcome.next { s with journal := { s.journal with clock := (s.journal.clock + 1) % Config.longModulus } } = _
    rw [next]
  · show Host.Outcome.next { s with journal := { s.journal with clock := (s.journal.clock + 1) % Config.longModulus } } = _
    rw [top]
    rfl

theorem flagByte_eq (b : Bool) : flagByte b = BitVec.ofNat 8 (bit b) := by cases b <;> rfl

theorem strapsByte_eq (h : HostLine) : strapsByte h = BitVec.ofNat 8 (bit h.stationsHigh + 2 * bit h.lineRateHigh) := by
  rw [strapsByte, flagByte_toNat, flagByte_toNat]

theorem silenceLeft_eq (h : HostLine) : silenceLeft h = if h.linkUp then h.silenceTimer.getD 0 / 2000 else 0 := rfl

theorem sessions_eq_filter (s : State) :
    s.sessions = (allStations.filter fun i => (s.st i).session.state ≠ .none).length := by
  rw [State.sessions, State.liveStations]
  congr 1
  refine List.filter_congr fun i _ => ?_
  cases e : (s.st i).session.state <;> simp [sessionLive, e]

theorem bodyIs_statusBody (s : State) : bodyIs (statusBody s) (statusFields s) := by
  refine bodyIs_of_bytes ?_
  unfold statusBody statusFields
  simp only [List.flatMap_cons, List.flatMap_nil, List.append_assoc, List.cons_append, List.nil_append,
    List.append_nil, beBytes_one, sessions_eq_filter, flagByte_eq, strapsByte_eq, silenceLeft_eq, exposure]
  cases s.host.op <;> cases s.journal.level <;> rfl

/-- Settles O26: the request reads each owner and changes nothing. -/
theorem statusReportsThePart : Obligations.StatusReportsThePart :=
  fun s idle => ⟨_, exec_request_idle idle .status, bodyIs_statusBody s⟩

end Sys2Proof.Machine
end

section
/-!
PROOFS. The requests on the account table, the card policy, the deny list and the pending authorization table that begin no
series (sections 6.1, 6.4, 7.1, 7.2 and 7.7).
-/

namespace Sys2Proof.Machine

/-! ## The first checks (R110, R175) -/

section
variable {number : BitVec 24} {s : State} {a : Account} {f : Account → Answered}

theorem bitVec_ne_zero {w : Nat} {b : BitVec w} (h : b.toNat ≠ 0) : b ≠ 0 := fun e => h (by rw [e]; simp)

theorem onStored_zero (zero : number.toNat = 0) : onStored number s f = answerRefused .range s :=
  if_pos (BitVec.eq_of_toNat_eq zero)

theorem onStored_absent (nonzero : number.toNat ≠ 0) (absent : findAccount s.accounts number.toNat = none) :
    onStored number s f = answerRefused .notFound s := by
  rw [onStored, if_neg (bitVec_ne_zero nonzero), absent]

/-- A request on a stored account passes its first two checks. -/
theorem onStored_found (nonzero : number.toNat ≠ 0) (found : findAccount s.accounts number.toNat = some a) :
    onStored number s f = f a := by
  rw [onStored, if_neg (bitVec_ne_zero nonzero), found]

theorem onStation_outOfFrame {b : Byte} {g : StationId → Answered} (out : (if s.host.stationsHigh then 16 else 8) ≤ b.toNat) :
    onStation b s g = answerRefused .range s := by
  have none : stationNamed s b = none := by
    unfold stationNamed State.inFrame State.frameSize
    split
    · split at out
      · omega
      · next low => rw [if_neg]; simp [low]; omega
    · rfl
  rw [onStation, none]

end

/-- Settles O40: by the check that each of these requests begins with. -/
theorem requestsBeginWithTheirFirstChecks : Obligations.RequestsBeginWithTheirFirstChecks := by
  refine ⟨fun b s c kind idle mem out => ?station, fun number amount s c kind idle mem => ⟨fun zero => ?zero, fun nonzero absent => ?absent⟩⟩
  case station =>
    have refused : ∀ r : Request, takeRequest r s = answerRefused .range s →
        exec (requestCommand r) s = .next (s.replied (requestKind r) .range []) := fun r h => by
      rw [exec_request_idle idle, h, bufferReply_refused]
    simp only [List.mem_cons, Prod.mk.injEq, List.not_mem_nil, or_false] at mem
    rcases mem with ⟨rfl, rfl⟩ | ⟨rfl, rfl⟩ | ⟨rfl, rfl⟩ | ⟨rfl, rfl⟩ | ⟨rfl, rfl⟩ | ⟨rfl, rfl⟩ | ⟨rfl, rfl⟩ | ⟨rfl, rfl⟩
    · exact refused (.stationGet b) (onStation_outOfFrame out)
    · exact refused (.stationEnable b) (onStation_outOfFrame out)
    · exact refused (.stationDisable b) (onStation_outOfFrame out)
    · exact refused (.sessionEnd b) (onStation_outOfFrame out)
    · exact refused (.serviceHold b) (onStation_outOfFrame out)
    · exact refused (.serviceRelease b) (onStation_outOfFrame out)
    · exact refused (.meterGet b) (onStation_outOfFrame out)
    · exact refused (.meterClear b) (onStation_outOfFrame out)
  all_goals
    have refused : ∀ (r : Request) (status : Status), takeRequest r s = answerRefused status s →
        exec (requestCommand r) s = .next (s.replied (requestKind r) status []) := fun r status h => by
      rw [exec_request_idle idle, h, bufferReply_refused]
    simp only [List.mem_cons, Prod.mk.injEq, List.not_mem_nil, or_false] at mem
    rcases mem with ⟨rfl, rfl⟩ | ⟨rfl, rfl⟩ | ⟨rfl, rfl⟩ | ⟨rfl, rfl⟩ | ⟨rfl, rfl⟩
  case zero.inl => exact refused (.accountGet number) _ (onStored_zero zero)
  case zero.inr.inl => exact refused (.accountAdjust number amount) _ (onStored_zero zero)
  case zero.inr.inr.inl => exact refused (.accountFreeze number) _ (onStored_zero zero)
  case zero.inr.inr.inr.inl => exact refused (.accountThaw number) _ (onStored_zero zero)
  case zero.inr.inr.inr.inr => exact refused (.accountRemove number) _ (onStored_zero zero)
  case absent.inl => exact refused (.accountGet number) _ (onStored_absent nonzero absent)
  case absent.inr.inl => exact refused (.accountAdjust number amount) _ (onStored_absent nonzero absent)
  case absent.inr.inr.inl => exact refused (.accountFreeze number) _ (onStored_absent nonzero absent)
  case absent.inr.inr.inr.inl => exact refused (.accountThaw number) _ (onStored_absent nonzero absent)
  case absent.inr.inr.inr.inr => exact refused (.accountRemove number) _ (onStored_absent nonzero absent)

/-! ## The account reply (R110) -/

theorem rangeKindValue_eq (k : RangeKind) :
    rangeKindValue k = BitVec.ofNat 8 (match k with | .prepaid => 1 | .postpaid => 2) := by cases k <;> rfl

theorem bodyIs_accountBody (u : AccountUnit) (a : Account) : bodyIs (accountBody u a) (accountFields u a) := by
  have balance : signedBytes a.balance = beBytes 4 (a.balance % 2 ^ 32).toNat := by
    rw [signedBytes, BitVec.toNat_ofInt]; rfl
  refine bodyIs_of_bytes ?_
  unfold accountBody accountFields accountRangeBytes
  rw [balance]
  cases containingEntry u.ranges a.number with
  | none => simp [beBytes_one, flagByte_eq]
  | some e =>
    cases containingRange u.ranges a.number with
    | none => simp [beBytes_one, flagByte_eq]
    | some r =>
      simp only [rangeKindValue_eq, beBytes_one, flagByte_eq, List.flatMap_cons, List.flatMap_nil, List.append_assoc, List.cons_append,
        List.nil_append, List.append_nil] <;> rfl

/-! ## Requests on one stored account (R113 to R117) -/

section
variable {number : BitVec 24} {s : State} {a : Account}

/-- The account reply of a record that has been put. -/
theorem answerAccount_put {n : Nat} {b : Account} (number : b.number = n) :
    answerAccount n (putAccount b s) = answerOk (accountBody s.accounts b) (putAccount b s) := by
  subst number
  rw [answerAccount, findAccount_putAccount_same]
  rfl

theorem answerAccount_found {n : Nat} (found : findAccount s.accounts n = some a) :
    answerAccount n s = answerOk (accountBody s.accounts a) s := by
  rw [answerAccount, found]
  rfl

theorem find_dropRecord_same (n : Nat) (xs : List Account) :
    (xs.filter fun a => a.number != n).find? (fun a => a.number == n) = none := by
  simp [List.find?_eq_none]

theorem find_dropRecord_other {n m : Nat} (h : m ≠ n) (xs : List Account) :
    (xs.filter fun a => a.number != n).find? (fun a => a.number == m) = xs.find? fun a => a.number == m := by
  rw [List.find?_filter]
  refine congrFun (congrArg _ (funext fun a => ?_)) xs
  by_cases e : a.number = m <;> simp [e, h]

end

/-- Settles O30: the request passes its first checks, and is judged by the balance that it would leave. -/
theorem accountAdjustMovesTheBalance : Obligations.AccountAdjustMovesTheBalance := by
  intro number amount s a idle nonzero found
  have stored : a.number = number.toNat := findAccount_number found
  have taken : exec (.accountAdjust number amount) s = .next (bufferReply 0x12 (takeAccountAdjust number amount s)) :=
    exec_request_idle idle (.accountAdjust number amount)
  rw [taken, takeAccountAdjust, onStored_found nonzero found, ← stored]
  dsimp only
  refine ⟨fun bad => ?_, fun floor top => ?_⟩
  · rw [if_pos (show _ ∨ Config.balanceTop < _ from bad), bufferReply_refused]
  · rw [if_neg (by unfold Config.balanceTop; omega),
      answerAccount_put (b := { a with balance := a.balance + amount.toInt }) rfl, bufferReply_ok]
    exact ⟨_, _, rfl, findAccount_putAccount_same _ s, fun n other => findAccount_putAccount_other _ s other,
      bodyIs_accountBody _ _⟩

/-- Settles O31: each request passes its first checks; THAW is judged by the state and REMOVE by the open sessions. -/
theorem accountGetThawAndRemove : Obligations.AccountGetThawAndRemove := by
  intro number s a idle nonzero found
  have stored : a.number = number.toNat := findAccount_number found
  refine ⟨?get, ?thaw, fun busy => ?busy, fun free => ?removed⟩
  case get =>
    have taken : exec (.accountGet number) s = .next (bufferReply 0x11 (takeAccountGet number s)) :=
      exec_request_idle idle (.accountGet number)
    rw [taken, takeAccountGet, onStored_found nonzero found, bufferReply_ok]
    exact ⟨_, rfl, bodyIs_accountBody _ _⟩
  case thaw =>
    have taken : exec (.accountThaw number) s = .next (bufferReply 0x14 (takeAccountThaw number s)) :=
      exec_request_idle idle (.accountThaw number)
    rw [taken, takeAccountThaw, onStored_found nonzero found, ← stored]
    by_cases frozen : a.frozen = true
    · rw [if_pos frozen, answerAccount_put (b := { a with frozen := false }) rfl, bufferReply_ok]
      exact ⟨_, _, rfl, findAccount_putAccount_same _ s, fun n other => findAccount_putAccount_other _ s other,
        fun active => absurd frozen (by simp [active]), bodyIs_accountBody _ _⟩
    · have same : { a with frozen := false } = a := by rw [← Bool.eq_false_iff.2 frozen]
      rw [if_neg frozen, answerAccount_found (stored ▸ found), bufferReply_ok, same]
      exact ⟨_, _, rfl, stored ▸ found, fun _ _ => rfl, fun _ => rfl, bodyIs_accountBody _ _⟩
  all_goals
    have taken : exec (.accountRemove number) s = .next (bufferReply 0x15 (takeAccountRemove number s)) :=
      exec_request_idle idle (.accountRemove number)
    rw [taken, takeAccountRemove, onStored_found nonzero found]
  case busy => rw [if_pos busy, bufferReply_refused]
  case removed =>
    rw [if_neg (by omega), ← stored, bufferReply_ok]
    exact ⟨_, _, rfl, find_dropRecord_same _ _, fun n other => find_dropRecord_other other _, bodyIs_accountBody _ _⟩

/-! ## SET RANGE (R101, R102) -/

section
variable {e o k c : Byte} {low high overdraft : BitVec 24} {s : State}

/-- The overdraft that an entry of a kind stores (R101). -/
def storedDebt : RangeKind → Nat → Nat
  | .prepaid, _ => 0
  | .postpaid, d => d

theorem rangeKindOf_none {b : Byte} (h : b.toNat = 0 ∨ 2 < b.toNat) : rangeKindOf b = none := by
  have one : b ≠ 1 := by rintro rfl; simp at h
  have two : b ≠ 2 := by rintro rfl; simp at h
  rw [rangeKindOf, if_neg one, if_neg two]

theorem rangeKindOf_some {b : Byte} {k : RangeKind} (h : b.toNat = match k with | .prepaid => 1 | .postpaid => 2) :
    rangeKindOf b = some k := by
  cases k with
  | prepaid => rw [rangeKindOf, if_pos (BitVec.eq_of_toNat_eq h)]
  | postpaid =>
    have two : b = 2 := BitVec.eq_of_toNat_eq h
    rw [rangeKindOf, two, if_neg (by decide), if_pos rfl]

theorem carriedRange_none (h : low.toNat = 0 ∨ high.toNat < low.toNat ∨ k.toNat = 0 ∨ 2 < k.toNat ∨ 7 < c.toNat ∨
    99999 < overdraft.toNat) : carriedRange low high k c overdraft = none := by
  unfold carriedRange
  split
  · next k' c' kind cls =>
    have kindOk : ¬ (k.toNat = 0 ∨ 2 < k.toNat) := fun bad => by simp [rangeKindOf_none bad] at kind
    have classOk : ¬ 7 < c.toNat := fun bad => by simp [classOf_eq_none bad] at cls
    exact if_pos (by omega)
  · rfl

theorem carriedRange_some {k' : RangeKind} {c' : Fin 8} (lowest : 1 ≤ low.toNat) (ordered : low.toNat ≤ high.toNat)
    (kind : k.toNat = match k' with | .prepaid => 1 | .postpaid => 2) (cls : c.toNat = c'.val) (debt : overdraft.toNat ≤ 99999) :
    carriedRange low high k c overdraft =
      some ⟨low.toNat, high.toNat, k', c', storedDebt k' overdraft.toNat⟩ := by
  rw [carriedRange, rangeKindOf_some kind, classOf_eq_some cls]
  dsimp only
  rw [if_neg (by omega)]
  cases k' <;> rfl

theorem takeSetRange_set {e' : Fin 8} {r : Range} (stopped : s.host.op = .stopped) (entry : e.toNat = e'.val) (set : o.toNat = 1)
    (carried : carriedRange low high k c overdraft = some r) :
    takeSetRange e o low high k c overdraft s = writeRange e' (some r) s := by
  have one : o = 1 := BitVec.eq_of_toNat_eq set
  rw [takeSetRange, if_neg (not_not.2 stopped), classOf_eq_some entry]
  dsimp only
  rw [if_neg (by rw [one]; decide), if_pos one, carried]

theorem takeSetRange_clear {e' : Fin 8} (stopped : s.host.op = .stopped) (entry : e.toNat = e'.val) (clear : o.toNat = 0) :
    takeSetRange e o low high k c overdraft s = writeRange e' none s := by
  rw [takeSetRange, if_neg (not_not.2 stopped), classOf_eq_some entry]
  exact if_pos (BitVec.eq_of_toNat_eq clear)

theorem takeSetRange_outOfRange (stopped : s.host.op = .stopped)
    (bad : 7 < e.toNat ∨ 1 < o.toNat ∨ (o.toNat = 1 ∧ (low.toNat = 0 ∨ high.toNat < low.toNat ∨ k.toNat = 0 ∨ 2 < k.toNat ∨
      7 < c.toNat ∨ 99999 < overdraft.toNat))) :
    takeSetRange e o low high k c overdraft s = answerRefused .range s := by
  rw [takeSetRange, if_neg (not_not.2 stopped)]
  by_cases entry : 7 < e.toNat
  · rw [classOf_eq_none entry]
  · rw [classOf_eq_some (c := ⟨e.toNat, by omega⟩) rfl]
    dsimp only
    have notClear : o ≠ 0 := bitVec_ne_zero (by omega)
    rw [if_neg notClear]
    by_cases one : o.toNat = 1
    · rw [if_pos (BitVec.eq_of_toNat_eq one), carriedRange_none (by omega)]
    · rw [if_neg fun h => one (by rw [h]; rfl)]

/-- The first entry that meets a span is the lowest. -/
theorem overlapping_first {ranges : Vector (Option Range) 8} {e x : Fin 8} {a r : Range} (other : x ≠ e) (used : ranges[x] = some r)
    (low : a.low ≤ r.high) (high : r.low ≤ a.high)
    (before : ∀ (y : Fin 8) (q : Range), y < x → y ≠ e → ranges[y] = some q → q.high < a.low ∨ a.high < q.low) :
    overlapping ranges e a = some x := by
  unfold overlapping
  obtain ⟨ys, zs, split⟩ := List.append_of_mem (List.mem_finRange x)
  refine List.find?_eq_some_iff_append.2 ⟨?_, ys, zs, split, fun y hy => ?_⟩
  · simp [other, used, spansMeet, low, high]
  · have sorted : (ys ++ x :: zs).Pairwise (· < ·) := split ▸ List.pairwise_lt_finRange 8
    have lt : y < x := (List.pairwise_append.1 sorted).2.2 y hy x List.mem_cons_self
    by_cases same : y = e
    · simp [same]
    · cases used : ranges[y] with
      | none => simp
      | some q =>
        have apart := before y q lt same used
        simp [same, spansMeet]
        omega

theorem overlapping_none {ranges : Vector (Option Range) 8} {e : Fin 8} {a : Range}
    (apart : ∀ (x : Fin 8) (r : Range), x ≠ e → ranges[x] = some r → r.high < a.low ∨ a.high < r.low) :
    overlapping ranges e a = none := by
  unfold overlapping
  refine List.find?_eq_none.2 fun x _ => ?_
  by_cases same : x = e
  · simp [same]
  · cases used : ranges[x] with
    | none => simp
    | some r =>
      have := apart x r same used
      simp [same, spansMeet]
      omega

theorem belowFloor_none {ranges : Vector (Option Range) 8} {accounts : List Account}
    (h : ∀ a ∈ accounts, floorOf ranges a.number ≤ a.balance) : belowFloor ranges accounts = none := by
  unfold belowFloor
  rw [List.filter_eq_nil_iff.2 fun a ha => by have := h a ha; simp; omega]
  rfl

theorem belowFloor_some {ranges : Vector (Option Range) 8} {accounts : List Account} {a : Account} (mem : a ∈ accounts)
    (below : a.balance < floorOf ranges a.number)
    (lowest : ∀ b ∈ accounts, b.balance < floorOf ranges b.number → a.number ≤ b.number) :
    belowFloor ranges accounts = some a.number := by
  unfold belowFloor
  refine List.min?_eq_some_iff.2 ⟨List.mem_map.2 ⟨a, by simpa using ⟨mem, below⟩, rfl⟩, fun n hn => ?_⟩
  obtain ⟨b, hb, rfl⟩ := List.mem_map.1 hn
  obtain ⟨mem', below'⟩ := List.mem_filter.1 hb
  exact lowest b mem' (by simpa using below')

theorem bodyIs_rangeBody (e : Fin 8) (r : Option Range) : bodyIs (rangeBody e r) (match r with
    | none => [(1, e.val), (1, 0), (3, 0), (3, 0), (1, 0), (1, 0), (3, 0)]
    | some r => [(1, e.val), (1, 1), (3, r.low), (3, r.high), (1, match r.kind with | .prepaid => 1 | .postpaid => 2),
        (1, r.tariffClass.val), (3, r.overdraft)]) := by
  refine bodyIs_of_bytes ?_
  cases r with
  | none => simp [rangeBody, beBytes]
  | some r => simp [rangeBody, rangeKindValue_eq, beBytes_one]

/-- The fields of the SET RANGE reply, with the kind and the class as the request carries them. -/
def setRangeFields (e : Fin 8) (k c : Byte) : Option Range → List (Nat × Nat)
  | none => [(1, e.val), (1, 0), (3, 0), (3, 0), (1, 0), (1, 0), (3, 0)]
  | some r => [(1, e.val), (1, 1), (3, r.low), (3, r.high), (1, k.toNat), (1, c.toNat), (3, r.overdraft)]

theorem writeRange_meets {e x : Fin 8} {r : Range} (meets : overlapping s.accounts.ranges e r = some x) :
    writeRange e (some r) s = ⟨.conflict, 1 :: beBytes 3 x.val, s⟩ := by
  rw [writeRange]
  simp only [Option.bind_some, meets]

/-- A span that meets no other is judged by the floors that it would leave. -/
theorem writeRange_apart {e : Fin 8} {r : Option Range} (apart : r.bind (overlapping s.accounts.ranges e) = none) :
    writeRange e r s = match belowFloor (s.accounts.ranges.set e r) s.accounts.accounts with
      | some n => ⟨.conflict, 2 :: beBytes 3 n, s⟩
      | none => answerOk (rangeBody e r) (s.updAccounts fun u => { u with ranges := u.ranges.set e r }) := by
  rw [writeRange, apart] <;> rfl

end

/-- Settles O28: by the checks in their order, and for the write by the floors. -/
theorem setRangeChecksThenStores : Obligations.SetRangeChecksThenStores := by
  have taken : ∀ (e o k c : Byte) (low high overdraft : BitVec 24) (s : State), lineIdle s →
      exec (.setRange e o low high k c overdraft) s = .next (bufferReply 0x0A (takeSetRange e o low high k c overdraft s)) :=
    fun e o k c low high overdraft s idle => exec_request_idle idle (.setRange e o low high k c overdraft)
  refine ⟨fun e o k c low high overdraft s idle => ?checks, fun e o k c low high overdraft s e' entry idle stopped he hentry => ?write⟩
  case checks =>
    rw [taken _ _ _ _ _ _ _ _ idle]
    refine ⟨fun notStopped => ?_, fun stopped bad => ?_, fun e' x r stopped he ho lowest ordered k1 k2 cls debt other used lo hi before => ?_⟩
    · rw [takeSetRange, if_pos notStopped, bufferReply_refused]
    · rw [takeSetRange_outOfRange stopped bad, bufferReply_refused]
    · have kind : ∃ k' : RangeKind, k.toNat = match k' with | .prepaid => 1 | .postpaid => 2 := by
        by_cases one : k.toNat = 1
        · exact ⟨.prepaid, one⟩
        · exact ⟨.postpaid, by dsimp only; omega⟩
      obtain ⟨k', hk⟩ := kind
      have carried := carriedRange_some (low := low) (high := high) (k := k) (c := c) (overdraft := overdraft)
        (c' := ⟨c.toNat, by omega⟩) lowest ordered hk rfl debt
      rw [takeSetRange_set stopped he ho carried, writeRange_meets (overlapping_first other used lo hi before)]
      have small : ∀ y : Fin 8, beBytes 3 y.val = [0, 0, BitVec.ofNat 8 y.val] := by decide
      rw [small]
      rfl
  case write =>
    rw [taken _ _ _ _ _ _ _ _ idle]
    have written : ∃ body, takeSetRange e o low high k c overdraft s =
        (match belowFloor (s.accounts.ranges.set e' entry) s.accounts.accounts with
          | some n => ⟨.conflict, 2 :: beBytes 3 n, s⟩
          | none => answerOk body (s.updAccounts fun u => { u with ranges := u.ranges.set e' entry })) ∧
        bodyIs body (setRangeFields e' k c entry) := by
      rcases hentry with ⟨clear, rfl⟩ | ⟨k', c', set, lowest, ordered, hk, hc, debt, carries, apart⟩
      · exact ⟨_, (takeSetRange_clear stopped he clear).trans (writeRange_apart rfl), bodyIs_rangeBody e' none⟩
      · have stored : entry = some ⟨low.toNat, high.toNat, k', c', storedDebt k' overdraft.toNat⟩ := by
          rw [carries]; cases k' <;> rfl
        subst stored
        have carried := carriedRange_some lowest ordered hk hc debt
        refine ⟨_, (takeSetRange_set stopped he set carried).trans (writeRange_apart ((Option.bind_some ..).trans (overlapping_none apart))), ?_⟩
        have body := bodyIs_rangeBody e' (some ⟨low.toNat, high.toNat, k', c', storedDebt k' overdraft.toNat⟩)
        rw [setRangeFields, hk, hc]
        exact body
    obtain ⟨body, write, fields⟩ := written
    rw [write]
    refine ⟨fun floors => ?_, fun a mem below lowest => ?_⟩
    · rw [belowFloor_none floors]
      refine ⟨body, rfl, ?_⟩
      cases entry <;> exact fields
    · rw [belowFloor_some mem below lowest]
      exact ⟨_, rfl, bodyIs_of_bytes (by simp [beBytes_one])⟩

/-! ## The card policy (R120) -/

theorem bodyIs_policyBytes (p : CardPolicy) (rest : List (Nat × Nat)) :
    bodyIs (policyBytes p ++ rest.flatMap fun f => beBytes f.1 f.2)
      ([(2, p.initialHold), (2, p.increment), (2, p.threshold), (1, p.tariffClass.val), (2, p.standInLimit), (2, p.standInMinimum),
        (3, p.standInCap)] ++ rest) :=
  bodyIs_of_bytes (by simp [policyBytes, beBytes_one])

theorem carriedPolicy_none {h i t l m cap : Nat} {c : Byte} (bad : (1 ≤ h ∧ h ≤ 99) ∨ 50000 < h ∨ i < 100 ∨ 50000 < i ∨
    50000 < t ∨ 7 < c.toNat ∨ (1 ≤ l ∧ l ≤ 99) ∨ 10000 < l ∨ 100000 < cap ∨ (100 ≤ l ∧ (m = 0 ∨ l < m))) :
    carriedPolicy h i t c l m cap = none := by
  by_cases cls : 7 < c.toNat
  · rw [carriedPolicy, classOf_eq_none cls]
  · rw [carriedPolicy, classOf_eq_some (c := ⟨c.toNat, by omega⟩) rfl]
    refine if_neg ?_
    simp only [zeroOr100To, Bool.and_eq_true, Bool.or_eq_true, decide_eq_true_eq, beq_iff_eq]
    omega

theorem carriedPolicy_some {h i t l m cap : Nat} {c : Byte} {c' : Fin 8} (hold : h = 0 ∨ (100 ≤ h ∧ h ≤ 50000)) (i1 : 100 ≤ i)
    (i2 : i ≤ 50000) (top : t ≤ 50000) (cls : c.toNat = c'.val) (capTop : cap ≤ 100000)
    (limit : l = 0 ∨ (100 ≤ l ∧ l ≤ 10000 ∧ 1 ≤ m ∧ m ≤ l)) :
    carriedPolicy h i t c l m cap = some ⟨h, i, t, c', l, if l = 0 then 0 else m, cap⟩ := by
  rw [carriedPolicy, classOf_eq_some cls]
  refine if_pos ?_
  simp only [zeroOr100To, Bool.and_eq_true, Bool.or_eq_true, decide_eq_true_eq, beq_iff_eq]
  omega

/-- Settles O33: by the operating state, the ranges and the exposure, in this order. -/
theorem cardPolicyIsReplaced : Obligations.CardPolicyIsReplaced := by
  intro h i t l m c cap s idle
  have taken : exec (.setCardPolicy h i t c l m cap) s = .next (bufferReply 0x0B (takeSetCardPolicy h i t c l m cap s)) :=
    exec_request_idle idle (.setCardPolicy h i t c l m cap)
  rw [taken, takeSetCardPolicy]
  refine ⟨fun notStopped => ?_, fun stopped bad => ?_, fun c' stopped hold i1 i2 top cls capTop limit => ?_⟩
  · rw [if_pos notStopped, bufferReply_refused]
  · rw [if_neg (not_not.2 stopped), carriedPolicy_none bad, bufferReply_refused]
  · rw [if_neg (not_not.2 stopped), carriedPolicy_some hold i1 i2 top cls capTop limit]
    dsimp only
    refine ⟨fun exposed => ?_, fun covered => ?_⟩
    · rw [if_pos (show _ < exposure s.cards from exposed)]
      exact ⟨_, rfl, bodyIs_of_bytes (by simp [exposure])⟩
    · rw [if_neg (show ¬ _ < exposure s.cards from Nat.not_lt.2 covered), bufferReply_ok]
      exact ⟨_, _, rfl, rfl, by simpa using bodyIs_policyBytes _ []⟩

/-! ## The tables reported (R120, R121) -/

/-- The fields of an entry of the pending authorization table. -/
def authEntryFields (i : StationId) (e : AuthEntry) : List (Nat × Nat) :=
  [(2, e.reference), (1, i.val), (2, e.sessionNumber), (1, match e.kind with | .initial => 1 | .increment => 2), (3, e.amount),
    (1, e.left / 2000)]

theorem authEntryBytes_eq (i : StationId) (e : AuthEntry) :
    authEntryBytes i e = (authEntryFields i e).flatMap fun f => beBytes f.1 f.2 := by
  have kind : authKindValue e.kind = BitVec.ofNat 8 (match e.kind with | .initial => 1 | .increment => 2) := by
    cases e.kind <;> rfl
  have left : wholeSeconds e.left = e.left / 2000 := rfl
  simp only [authEntryBytes, authEntryFields, kind, left, stationByte, beBytes_one, List.flatMap_cons, List.flatMap_nil,
    List.append_assoc, List.append_nil]

theorem inOpenOrder_state {α : Type} (xs : List α) (s : State) : (inOpenOrder xs s).2 =
    { s with choiceTape := (inOpenOrder xs s).2.choiceTape, choiceCount := (inOpenOrder xs s).2.choiceCount } := by
  unfold inOpenOrder
  split
  · rfl
  · unfold State.choose
    split <;> rfl

/-- Settles O34: each request reads its table, AUTH PENDING in an open order. -/
theorem cardTablesAreReported : Obligations.CardTablesAreReported := by
  intro s idle
  have policy : exec .cardPolicyGet s = .next (bufferReply 0x0C (takeCardPolicyGet s)) := exec_request_idle idle .cardPolicyGet
  have pending : exec .authPending s = .next (bufferReply 0x19 (takeAuthPending s)) := exec_request_idle idle .authPending
  rw [policy, pending]
  refine ⟨⟨_, rfl, ?_⟩, (inOpenOrder s.authStations s).1, (inOpenOrder s.authStations s).2, _, rfl, inOpenOrder_state _ s,
    inOpenOrder_perm _ s, bodyIs_of_bytes ?_⟩
  · simpa [takeCardPolicyGet, answerOk, exposure] using
      bodyIs_policyBytes s.cards.policy [(3, exposure s.cards), (1, s.cards.standIn.length)]
  · rw [List.flatMap_cons, List.flatMap_assoc]
    refine congrArg (beBytes 1 _ ++ ·) (congrArg (List.flatMap · _) (funext fun i => ?_))
    cases (s.st i).auth with
    | none => rfl
    | some e => exact authEntryBytes_eq i e

/-! ## The deny list (R138) -/

/-- Settles O36: by whether the token is on the list, and for an addition by its room. -/
theorem denyListIsChanged : Obligations.DenyListIsChanged := by
  intro t s idle
  have add : exec (.denyAdd t) s = .next (bufferReply 0x1A (takeDenyAdd t s)) := exec_request_idle idle (.denyAdd t)
  have remove : exec (.denyRemove t) s = .next (bufferReply 0x1B (takeDenyRemove t s)) := exec_request_idle idle (.denyRemove t)
  have count : ∀ n, bodyIs (beBytes 2 n) [(2, n)] := fun n => bodyIs_of_bytes (by simp)
  rw [add, remove, takeDenyAdd, takeDenyRemove]
  refine ⟨fun on => ?_, fun off full => ?_, fun off room => ?_, fun off => ?_, fun on => ?_, ?_⟩
  · rw [if_pos (List.contains_iff_mem.2 on)]
    exact ⟨_, rfl, count _⟩
  · rw [if_neg (mt List.contains_iff_mem.1 off), if_pos (show Config.denyRoom ≤ _ from full), bufferReply_refused]
  · rw [if_neg (mt List.contains_iff_mem.1 off), if_neg (show ¬ Config.denyRoom ≤ _ from Nat.not_le.2 room)]
    refine ⟨_, _, rfl, fun x => ?_, ?_⟩
    · simp [or_comm]
    · have longer : (s.cards.deny ++ [t]).length = s.cards.deny.length + 1 := by simp
      rw [← longer]
      exact count _
  · rw [if_neg (mt List.contains_iff_mem.1 off), bufferReply_refused]
  · have holds : s.cards.deny.contains t = true := List.contains_iff_mem.2 on
    rw [if_pos holds]
    refine ⟨_, _, rfl, fun x => ?_, count _⟩
    simp [and_comm]
  · have clear : exec .denyClear s = .next (bufferReply 0x1C (takeDenyClear s)) := exec_request_idle idle .denyClear
    rw [clear, takeDenyClear, denyAnswer, bufferReply_ok]
    exact congrArg (fun body => Host.Outcome.next (State.replied _ 0x1C .ok body)) (by decide : beBytes 2 0 = [0, 0])

/-! ## STATION GET (R98) -/

theorem bodyIs_stationBody (i : StationId) (x : Station) :
    bodyIs (stationBody i x) [(1, i.val), (1, bit x.line.present), (1, (lineStateValue (lineState x.line)).toNat),
      (1, ((x.line.confirmed.map codeValue).getD 0).toNat), (1, ((x.line.confirmed.map codeLocation).getD 0).toNat),
      (1, ((x.line.candidate.map codeValue).getD 0).toNat), (1, ((x.line.candidate.map codeLocation).getD 0).toNat),
      (1, ((x.recovery.stoppage.map causeValue).getD 0).toNat), (1, ((x.recovery.stoppage.map causeLocation).getD 0).toNat),
      (1, bit x.recovery.stallTimer.isSome), (2, x.recovery.stallTimer.getD 0 / 2000),
      (1, (availabilityValue x.recovery.availability).toNat), (1, bit x.recovery.disablePending),
      (1, (sessionStateValue x.session.state).toNat), (2, x.session.number), (2, x.session.stallCount),
      (1, (holdValue x.hold).toNat)] := by
  have left : ∀ n, wholeSeconds n = n / 2000 := fun _ => rfl
  refine bodyIs_of_bytes ?_
  simp only [stationBody, codeBytes, stoppageBytes, flagByte_eq, left, stationByte, List.flatMap_cons, List.flatMap_nil,
    List.append_assoc, List.append_nil, List.cons_append, List.nil_append, beBytes_one, BitVec.ofNat_toNat,
    BitVec.setWidth_eq]

/-- Settles O41: the reply reads the station, each value by its case. -/
theorem stationGetReportsTheStation : Obligations.StationGetReportsTheStation := by
  intro i s idle inFrame code x
  have taken : exec (.stationGet (stationByte i)) s = .next (bufferReply 0x28 (takeStationGet (stationByte i) s)) :=
    exec_request_idle idle (.stationGet (stationByte i))
  rw [taken, takeStationGet, onStation_stationByte inFrame, bufferReply_ok]
  have reported : ∀ c : Option Code, ((c.map codeValue).getD 0).toNat = (code c).1 ∧
      ((c.map codeLocation).getD 0).toNat = (code c).2 := fun c => by
    rcases c with _ | _ | _ | _ | _ | _ | l | _ <;> refine ⟨rfl, ?_⟩ <;> try rfl
    exact Nat.mod_eq_of_lt (by omega)
  have line : (lineStateValue (lineState x.line)).toNat =
      if x.line.present = true ∧ x.line.confirmed ≠ none then (code x.line.confirmed).1 else 8 := by
    unfold lineState
    cases x.line.present with
    | false => rfl
    | true => rcases x.line.confirmed with _ | _ | _ | _ | _ | _ | l | _ <;> rfl
  have stopped : ((x.recovery.stoppage.map causeValue).getD 0).toNat = (match x.recovery.stoppage with
        | none => 0 | some (.jam _) => 1 | some .door => 2 | some .fault => 3 | some .absent => 4) ∧
      ((x.recovery.stoppage.map causeLocation).getD 0).toNat =
        (match x.recovery.stoppage with | some (.jam l) => l.val | _ => 0) := by
    rcases x.recovery.stoppage with _ | l | _ | _ | _ <;> refine ⟨rfl, ?_⟩ <;> try rfl
    exact Nat.mod_eq_of_lt (by omega)
  have available : (availabilityValue x.recovery.availability).toNat =
      (match x.recovery.availability with | .enabled => 0 | .outOfService => 1) := by
    cases x.recovery.availability <;> rfl
  have state : (sessionStateValue x.session.state).toNat = (match x.session.state with
      | .none => 0 | .authorizing => 1 | .opened => 2 | .stalled => 3 | .draining => 4) := by
    cases x.session.state <;> rfl
  have hold : (holdValue x.hold).toNat =
      (match x.hold with | .none => 0 | .requested => 1 | .held => 2 | .releasing => 3) := by
    cases x.hold <;> rfl
  have fields := bodyIs_stationBody i x
  rw [(reported _).1, (reported _).2, (reported _).1, (reported _).2, line, stopped.1, stopped.2, available, state, hold] at fields
  exact ⟨_, rfl, fields⟩

end Sys2Proof.Machine
end

section
/-!
PROOFS. Each shared operation at one station as a function of what the station holds: messages, the waiting pick, the drain, the
stall, the end of a session, and the entry of the pending authorization table (chapters 1, 2, 4, 5 and 7).
-/

namespace Sys2Proof.Machine

/-- The full value of the idle timer (R31). -/
def State.idleFull (s : State) : Nat := seconds s.host.timers.idle

@[simp] theorem idleFull_upd (s : State) (i : StationId) (f : Station → Station) : (s.upd i f).idleFull = s.idleFull := rfl

/-! ## A judged idle timer (R31) -/

theorem judged_ineligible {full : Nat} {x : Station} (h : idleEligible x = false) : judged full x = { x with idleTimer := none } := by
  rw [judged, idleAfter, h]
  rfl

theorem idleEligible_iff (x : Station) : idleEligible x = true ↔ x.session.state = .opened ∧ x.hold = .none ∧ x.queue = [] ∧
    x.request = .idle ∧ x.line.confirmed ≠ some .paperOut := by
  have pending : requestPending x.request = false ↔ x.request = .idle := by cases x.request <;> simp [requestPending]
  simp [idleEligible, pending, and_assoc]

theorem idleEligible_of_notOpen {x : Station} (h : x.session.state ≠ .opened) : idleEligible x = false := by
  rw [← Bool.not_eq_true, idleEligible_iff]
  exact fun e => h e.1

theorem judged_notOpen {full : Nat} {x : Station} (h : x.session.state ≠ .opened) : judged full x = { x with idleTimer := none } :=
  judged_ineligible (idleEligible_of_notOpen h)

/-! ## Messages (R16, R17) -/

/-- A station that is offered a message. -/
def offered (m : DownMsg) (x : Station) : Station :=
  if x.line.present = false then x
  else if x.line.down.length < 4 then { x with line := { x.line with down := x.line.down ++ [m] } }
  else
    match offerToFull m x.line with
    | some q => { x with line := { x.line with down := q } }
    | none => { x with cond := oneAnomaly .downFull x.cond }

theorem offer_eq (i : StationId) (m : DownMsg) (s : State) : offer i m s = s.upd i (offered m) := by
  unfold offer
  cases present : (s.st i).line.present with
  | false =>
    dsimp only
    rw [if_pos (by rw [present]; rfl)]
    exact (upd_id s i (f := offered m) (if_pos present)).symm
  | true =>
    have here : ¬ (s.st i).line.present = false := by simp [present]
    dsimp only
    rw [if_neg (by rw [present]; simp)]
    split
    · next room =>
      refine upd_congr (f := fun x => { x with line := { x.line with down := x.line.down ++ [m] } }) ?_
      rw [offered, if_neg here, if_pos (show _ < 4 from room)]
    · next full =>
      split
      · next q e =>
        refine upd_congr (f := fun x => { x with line := { x.line with down := q } }) ?_
        rw [offered, if_neg here, if_neg (show ¬ _ < 4 from full), e]
      · next e =>
        refine upd_congr (f := fun x => { x with cond := oneAnomaly .downFull x.cond }) ?_
        rw [offered, if_neg here, if_neg (show ¬ _ < 4 from full), e]

theorem offered_absent {m : DownMsg} {x : Station} (absent : x.line.present = false) : offered m x = x := if_pos absent

theorem offered_room {m : DownMsg} {x : Station} (present : x.line.present = true) (room : x.line.down.length < 4) :
    offered m x = { x with line := { x.line with down := x.line.down ++ [m] } } := by
  rw [offered, if_neg (by simp [present]), if_pos room]

/-- A message offered changes the downstream queue and the conditions alone. -/
theorem offered_rest (m : DownMsg) (x : Station) :
    offered m x = { x with line := { x.line with down := (offered m x).line.down }, cond := (offered m x).cond } := by
  unfold offered
  split
  · rfl
  · split
    · rfl
    · split <;> rfl

/-- Of the conditions an offer changes the anomalies alone. -/
theorem offered_cond (m : DownMsg) (x : Station) : (offered m x).cond = x.cond ∨ (offered m x).cond = oneAnomaly .downFull x.cond := by
  unfold offered
  split
  · exact .inl rfl
  · split
    · exact .inl rfl
    · split
      · exact .inl rfl
      · exact .inr rfl

/-! ### A full downstream queue -/

theorem replaceNewestShow_some {m : DownMsg} {y : DownMsg} (before after : List DownMsg) (show_ : isShow y = true)
    (newest : ∀ z ∈ after, isShow z = false) :
    replaceNewestShow m (before ++ y :: after) = some (before ++ m :: after) := by
  have none : ∀ zs : List DownMsg, (∀ z ∈ zs, isShow z = false) → replaceNewestShow m zs = none := by
    intro zs
    induction zs with
    | nil => exact fun _ => rfl
    | cons z zs ih =>
      intro all
      rw [replaceNewestShow, ih fun w hw => all w (List.mem_cons_of_mem _ hw)]
      simp [all z List.mem_cons_self]
  induction before with
  | nil => rw [List.nil_append, replaceNewestShow, none after newest]; simp [show_]
  | cons z zs ih => rw [List.cons_append, replaceNewestShow, ih]; rfl

theorem replaceNewestShow_none {m : DownMsg} {zs : List DownMsg} (all : ∀ z ∈ zs, isShow z = false) :
    replaceNewestShow m zs = none := by
  induction zs with
  | nil => rfl
  | cons z zs ih =>
    rw [replaceNewestShow, ih fun w hw => all w (List.mem_cons_of_mem _ hw)]
    simp [all z List.mem_cons_self]

theorem removeOldestShow_some {y : DownMsg} (before after : List DownMsg) (show_ : isShow y = true)
    (oldest : ∀ z ∈ before, isShow z = false) : removeOldestShow (before ++ y :: after) = some (before ++ after) := by
  induction before with
  | nil => simp [removeOldestShow, show_]
  | cons z zs ih =>
    have rest := ih fun w hw => oldest w (List.mem_cons_of_mem _ hw)
    simp [removeOldestShow, oldest z List.mem_cons_self, rest]

theorem removeOldestShow_none {zs : List DownMsg} (all : ∀ z ∈ zs, isShow z = false) : removeOldestShow zs = none := by
  induction zs with
  | nil => rfl
  | cons z zs ih => simp [removeOldestShow, all z List.mem_cons_self, ih fun w hw => all w (List.mem_cons_of_mem _ hw)]

theorem unsentOf_eq (l : StationLine) : unsentOf l = l.down.drop (begunCount l) := by
  unfold unsentOf begunCount headBegun
  congr 1
  cases l.downWait <;> by_cases h : l.downTaken = 0 <;> simp [h]

/-- An offer to a present station with four messages in its queue (R17). -/
theorem offered_full {m : DownMsg} {x : Station} (present : x.line.present = true) (full : x.line.down.length = 4) :
    OfferedToFull m x.line x.cond (offered m x).line.down (offered m x).cond := by
  have offer : offered m x = match offerToFull m x.line with
      | some q => { x with line := { x.line with down := q } }
      | none => { x with cond := oneAnomaly .downFull x.cond } := by
    rw [offered, if_neg (by simp [present]), if_neg (by simp [full])]
  have begun : x.line.down.length - (unsentOf x.line).length = begunCount x.line := by
    have : begunCount x.line ≤ x.line.down.length := by
      unfold begunCount
      split <;> omega
    rw [unsentOf_eq, List.length_drop]
    omega
  constructor
  · intro before y after parts shown
    dsimp only
    rw [begun]
    rw [unsentOf_eq] at parts
    constructor
    · intro isS newest
      have filled : offerToFull m x.line = some (x.line.down.take (begunCount x.line) ++ (before ++ m :: after)) := by
        simp [offerToFull, isS, parts, replaceNewestShow_some before after shown newest]
      rw [offer, filled]
      exact ⟨(List.append_assoc ..).symm, rfl⟩
    · intro notS oldest
      have filled : offerToFull m x.line = some (x.line.down.take (begunCount x.line) ++ (before ++ after) ++ [m]) := by
        simp [offerToFull, notS, parts, removeOldestShow_some before after shown oldest]
      rw [offer, filled]
      exact ⟨by simp, rfl⟩
  · intro none
    rw [unsentOf_eq] at none
    have filled : offerToFull m x.line = Option.none := by
      simp [offerToFull, replaceNewestShow_none none, removeOldestShow_none none]
    rw [offer, filled]
    exact ⟨rfl, rfl⟩

/-! ## The waiting pick (R68) -/

/-- A station whose request under serial `n` is finally answered. -/
def answered (full n : Nat) (v : Verdict) (x : Station) : Station :=
  let y := judged full { x with request := .idle }
  { y with line := { y.line with latch := answerLatch n v y.line.latch } }

/-- A station whose waiting pick, if it has one, is stopped. -/
def pickStopped (full : Nat) (r : StopReason) (x : Station) : Station :=
  match x.request with
  | .idle => x
  | .waiting n _ _ _ => answered full n (.stop r) x

theorem answerLine_setRequest (i : StationId) (n : Nat) (v : Verdict) (s : State) :
    answerLine i n v (setRequest i .idle s) = s.upd i (answered s.idleFull n v) := by
  simp only [answerLine, setRequest, syncIdle_eq, State.updLine, upd_upd]
  rfl

/-- A waiting pick that every evaluation stops is stopped. -/
theorem reevaluate_stopped {i : StationId} {s : State} {r : StopReason} (stops : ∀ p, evaluate i p s = (.stop r, s)) :
    reevaluate i s = s.upd i (pickStopped s.idleFull r) := by
  unfold reevaluate
  split
  · next idle => exact (upd_id s i (by rw [pickStopped, idle])).symm
  · next n p c left waits =>
    rw [stops p]
    exact (answerLine_setRequest i n _ s).trans (upd_congr (by rw [pickStopped, waits]))

theorem reevaluate_idle {i : StationId} {s : State} (idle : (s.st i).request = .idle) : reevaluate i s = s := by
  rw [reevaluate, idle]

theorem pickStopped_idle {full : Nat} {r : StopReason} {x : Station} (idle : x.request = .idle) : pickStopped full r x = x := by
  rw [pickStopped, idle]

/-- The end of a waiting pick changes the request, the latch and the idle timer alone. -/
theorem pickStopped_rest (full : Nat) (r : StopReason) (x : Station) :
    pickStopped full r x = { x with
      request := .idle, idleTimer := (pickStopped full r x).idleTimer
      line := { x.line with latch := (pickStopped full r x).line.latch } } := by
  unfold pickStopped
  split
  · next idle => rw [← idle]
  · rfl

theorem pickStopped_idleTimer {full : Nat} {r : StopReason} {x : Station} (notOpen : x.session.state ≠ .opened)
    (stopped : x.idleTimer = none) : (pickStopped full r x).idleTimer = none := by
  unfold pickStopped
  split
  · exact stopped
  · rw [answered, judged_notOpen (by exact notOpen)]

/-! ## Evaluations that give nothing (R64) -/

section
variable {i : StationId} {p : SheetSpec} {s : State}

theorem evaluate_noSession (state : (s.st i).session.state = .none ∨ (s.st i).session.state = .authorizing)
    (notFree : servesFree (s.st i).hold = false) : evaluate i p s = (.stop .noSession, s) := by
  have none : noSession (s.st i).session.state = true := by rcases state with e | e <;> rw [e] <;> rfl
  exact if_pos (by rw [none, notFree]; rfl)

theorem evaluate_stalled (state : (s.st i).session.state = .stalled) : evaluate i p s = (.stop .stalled, s) := by
  simp [evaluate, state, noSession]

theorem evaluate_draining (state : (s.st i).session.state = .draining) : evaluate i p s = (.stop .closing, s) := by
  simp [evaluate, state, noSession]

theorem evaluate_requested (state : (s.st i).session.state = .opened) (hold : (s.st i).hold = .requested) :
    evaluate i p s = (.stop .hold, s) := by
  simp [evaluate, state, hold, noSession]

end

/-! ## From OPEN to DRAINING (R33, R36) -/

/-- A session that drains with a reason. -/
def drainingSession (r : CloseReason) (x : Session) : Session := { x with state := .draining, closeReason := some r, closePending := none }

/-- A station whose session enters DRAINING with a reason, its waiting pick not yet answered. -/
def drainEntered (r : CloseReason) (x : Station) : Station :=
  { x with session := drainingSession r x.session, idleTimer := none, cond := { x.cond with session := true } }

/-- A station whose session has entered DRAINING with a reason. -/
def drained (full : Nat) (r : CloseReason) (x : Station) : Station := pickStopped full .closing (drainEntered r x)

theorem startDraining_eq (i : StationId) (r : CloseReason) (s : State) :
    startDraining i r s = s.upd i (drained s.idleFull r) := by
  have entered : setSession i (fun x => { x with state := .draining, closeReason := some r, closePending := none }) s =
      s.upd i (drainEntered r) := by
    rw [setSession_eq, syncIdle_eq, upd_upd]
    exact upd_congr (judged_notOpen (by simp))
  rw [startDraining, entered, reevaluate_stopped fun p => evaluate_draining (by rw [st_upd_self]; rfl), upd_upd]
  rfl

theorem drained_rest (full : Nat) (r : CloseReason) (x : Station) : drained full r x = { x with
    session := drainingSession r x.session, idleTimer := none, cond := { x.cond with session := true }, request := .idle
    line := { x.line with latch := (drained full r x).line.latch } } := by
  have timer : (drained full r x).idleTimer = none :=
    pickStopped_idleTimer (x := drainEntered r x) (by simp [drainEntered, drainingSession]) rfl
  have rest := pickStopped_rest full .closing (drainEntered r x)
  rw [← drained, timer] at rest
  exact rest

theorem drained_idle {full : Nat} {r : CloseReason} {x : Station} (idle : x.request = .idle) :
    drained full r x = drainEntered r x := pickStopped_idle idle

/-! ## The stall (R84) -/

/-- A station whose session is turned to STALLED, with the value that the stall timer takes, its waiting pick not yet answered. -/
def stallEntered (minute : Nat) (x : Station) : Station :=
  { x with
    session := stalledRecord x.session, idleTimer := none, cond := { x.cond with session := true }
    meters := { x.meters with stalls := addMeter x.meters.stalls 1 }
    recovery := { x.recovery with stallTimer := some minute } }

/-- A station whose session has been stalled. -/
def stalledAt (full minute : Nat) (x : Station) : Station := pickStopped full .stalled (stallEntered minute x)

theorem stallSession_eq (i : StationId) (s : State) :
    stallSession i s = s.upd i (stalledAt s.idleFull (minutes s.host.timers.stall)) := by
  unfold stallSession
  dsimp only
  have entered : setSession i stalledRecord (s.upd i fun x => { x with
        meters := { x.meters with stalls := addMeter x.meters.stalls 1 }
        recovery := { x.recovery with stallTimer := some (minutes s.host.timers.stall) } }) =
      s.upd i (stallEntered (minutes s.host.timers.stall)) := by
    rw [setSession_eq, syncIdle_eq, upd_upd, upd_upd]
    exact upd_congr (judged_notOpen (by simp [stalledRecord]))
  rw [entered, reevaluate_stopped fun p => evaluate_stalled (by rw [st_upd_self]; rfl), upd_upd]
  rfl

theorem stalledAt_rest (full minute : Nat) (x : Station) : stalledAt full minute x = { stallEntered minute x with
    request := .idle, line := { x.line with latch := (stalledAt full minute x).line.latch } } := by
  have timer : (stalledAt full minute x).idleTimer = none :=
    pickStopped_idleTimer (x := stallEntered minute x) (by simp [stallEntered, stalledRecord]) rfl
  have rest := pickStopped_rest full .stalled (stallEntered minute x)
  rw [← stalledAt, timer] at rest
  exact rest

theorem stalledAt_idle {full minute : Nat} {x : Station} (idle : x.request = .idle) :
    stalledAt full minute x = stallEntered minute x := pickStopped_idle idle

/-- A session that can be stalled, at a hold that leaves it so. -/
def stallsAt (x : Station) : Bool := canStall x.session.state && !servesFree x.hold

theorem stallUnlessHeld_stalls {i : StationId} {s : State} (h : stallsAt (s.st i) = true) : stallUnlessHeld i s = stallSession i s := if_pos h

theorem stallUnlessHeld_not {i : StationId} {s : State} (h : stallsAt (s.st i) = false) : stallUnlessHeld i s = s :=
  if_neg (Bool.eq_false_iff.1 h)

theorem canStall_iff (x : SessionState) : canStall x = true ↔ x = .opened ∨ x = .draining := by cases x <;> simp [canStall]

theorem servesFree_iff (h : HoldState) : servesFree h = true ↔ h = .held ∨ h = .releasing := by cases h <;> simp [servesFree]

theorem servesFree_false_iff (h : HoldState) : servesFree h = false ↔ h = .none ∨ h = .requested := by cases h <;> simp [servesFree]

/-! ## An entry removed (R122) -/

/-- A station whose entry of the pending authorization table, if it has one, is removed. -/
def entryRemoved (cancel : Option CancelCause) (x : Station) : Station :=
  match x.auth with
  | none => x
  | some e =>
    if requestUnsent x.cond e.reference then { x with auth := none, cond := { x.cond with authRequest := none } }
    else
      match cancel with
      | some c => { x with auth := none, cond := { x.cond with authCancel := some ⟨e.reference, c⟩ } }
      | none => { x with auth := none }

theorem removeEntry_eq (i : StationId) (cancel : Option CancelCause) (s : State) :
    removeEntry i cancel s = s.upd i (entryRemoved cancel) := by
  unfold removeEntry
  split
  · next none => exact (upd_id s i (by rw [entryRemoved, none])).symm
  · next e held =>
    dsimp only
    split
    · next unsent =>
      rw [withdrawAuthRequest, State.updCond, upd_upd]
      exact upd_congr (by simp only [entryRemoved, held, if_pos unsent])
    · next sent =>
      split
      · rw [raiseAuthCancel, State.updCond, upd_upd]
        exact upd_congr (by simp only [entryRemoved, held, if_neg sent])
      · exact upd_congr (by simp only [entryRemoved, held, if_neg sent])

theorem entryRemoved_none {cancel : Option CancelCause} {x : Station} (none : x.auth = none) : entryRemoved cancel x = x := by
  rw [entryRemoved, none]

/-- The removal of an entry changes the entry and the two AUTH conditions alone. -/
theorem entryRemoved_rest (cancel : Option CancelCause) (x : Station) : entryRemoved cancel x = { x with
    auth := none
    cond := { x.cond with
      authRequest := (entryRemoved cancel x).cond.authRequest, authCancel := (entryRemoved cancel x).cond.authCancel } } := by
  unfold entryRemoved
  split
  · next none => rw [← none]
  · split
    · rfl
    · split <;> rfl

theorem requestUnsent_iff (x : Station) (n : Nat) : requestUnsent x.cond n = true ↔ Unsent x n := by
  simp [requestUnsent, Unsent, Option.any_eq_true]

theorem entryRemoved_cancelled {x : Station} {e : AuthEntry} (held : x.auth = some e) (cause : CancelCause) :
    EntryCancelled x (entryRemoved (some cause) x) e.reference cause := by
  refine ⟨by rw [entryRemoved_rest], fun unsent => ?_, fun sent => ?_⟩
  · simp only [entryRemoved, held, if_pos ((requestUnsent_iff x _).2 unsent), and_self]
  · simp only [entryRemoved, held, if_neg (mt (requestUnsent_iff x _).1 sent)]

theorem entryRemoved_silent (x : Station) : (entryRemoved none x).cond.authCancel = x.cond.authCancel := by
  unfold entryRemoved
  split
  · rfl
  · split <;> rfl

/-! ## The end of a session (R93, R95) -/

/-- A station whose STATION condition is raised. -/
def stationRaised (x : Station) : Station :=
  { x with cond := { x.cond with
      lineFirst := some (x.cond.lineFirst.getD (lineState x.line)), lineLatest := some (lineState x.line) } }

theorem raiseStation_eq (i : StationId) (s : State) : raiseStation i s = s.upd i stationRaised := rfl

/-- A station whose recovery unit is told that its session has ended. -/
def recoveryTold (x : Station) : Station :=
  let y := { x with recovery := { x.recovery with
    stallTimer := none
    availability := if x.recovery.disablePending then .outOfService else x.recovery.availability
    disablePending := false } }
  if x.recovery.disablePending = true ∧ x.recovery.availability ≠ .outOfService then stationRaised y else y

/-- A station whose availability is set. -/
def availabilitySet (a : Availability) (x : Station) : Station :=
  if x.recovery.availability = a then x else stationRaised { x with recovery := { x.recovery with availability := a } }

theorem setAvailability_eq (i : StationId) (a : Availability) (s : State) :
    setAvailability i a s = s.upd i (availabilitySet a) := by
  unfold setAvailability
  split
  · next same => exact (upd_id s i (f := availabilitySet a) (if_pos same)).symm
  · next other =>
    rw [raiseStation_eq, State.updRecovery, upd_upd]
    exact upd_congr (by rw [availabilitySet, if_neg other])

theorem sessionEnded_eq (i : StationId) (s : State) : sessionEnded i s = s.upd i recoveryTold := by
  unfold sessionEnded
  dsimp only
  split
  · next pending =>
    rw [setAvailability_eq, State.updRecovery, State.updRecovery, upd_upd, upd_upd]
    refine upd_congr ?_
    by_cases out : (s.st i).recovery.availability = .outOfService
    · simp [recoveryTold, availabilitySet, pending, out]
    · simp [recoveryTold, availabilitySet, pending, out, stationRaised]
  · next within => exact upd_congr (by simp [recoveryTold, within])

theorem recoveryTold_rest (x : Station) : recoveryTold x = { x with
    recovery := { x.recovery with
      stallTimer := none
      availability := if x.recovery.disablePending then .outOfService else x.recovery.availability
      disablePending := false }
    cond := { x.cond with lineFirst := (recoveryTold x).cond.lineFirst, lineLatest := (recoveryTold x).cond.lineLatest } } := by
  unfold recoveryTold
  dsimp only
  split <;> rfl

theorem recoveryTold_cond_keep {x : Station} (noDisable : x.recovery.disablePending = false) : (recoveryTold x).cond = x.cond := by
  simp [recoveryTold, noDisable]

end Sys2Proof.Machine
end

section
/-!
PROOFS. The close step and the drain as functions of the state (sections 2.5, 2.6, 3.7, 8.1 and 8.4).
-/

namespace Sys2Proof.Machine

/-! ## The closing cent (R59) -/

section
variable {i : StationId} {s : State} {x : Session}

/-- A debit of one minor unit passes where the account keeps its floor. -/
theorem debit_one (n : Nat) (s : State) : (∃ t, debit n 1 s = some t) ↔
    ∃ a, findAccount s.accounts n = some a ∧ floorOf s.accounts.ranges n ≤ a.balance - 1 := by
  constructor
  · rintro ⟨t, e⟩
    obtain ⟨a, found, covered, -⟩ := debit_spec e
    exact ⟨a, found, covered.resolve_left (by decide)⟩
  · rintro ⟨a, found, floor⟩
    refine ⟨putAccount { a with balance := a.balance - 1 } s, ?_⟩
    rw [debit, found]
    exact if_pos (.inr floor)

theorem authorityCovers_one (x : Session) (s : State) :
    (∃ t, (if authorityCovers x 1 then some s else none) = some t) ↔ x.spent + 1 ≤ x.authority.getD 0 := by
  have covers : authorityCovers x 1 = true ↔ x.spent + 1 ≤ x.authority.getD 0 := decide_eq_true_iff
  by_cases h : authorityCovers x 1 = true
  · exact ⟨fun _ => covers.1 h, fun _ => ⟨s, if_pos h⟩⟩
  · refine ⟨fun ⟨t, e⟩ => ?_, fun le => absurd (covers.2 le) h⟩
    rw [if_neg h] at e
    cases e

/-- The payer of a session covers one minor unit more exactly where the funds check of one passes. -/
theorem fundsCheck_one (s : State) (x : Session) : (∃ t, fundsCheck x 1 s = some t) ↔ CentFits s x := by
  unfold fundsCheck CentFits
  rcases x.payer with _ | n | t | t <;> dsimp only
  · exact ⟨fun ⟨_, e⟩ => (Option.some_ne_none _ e.symm).elim, False.elim⟩
  · exact debit_one n s
  · exact authorityCovers_one x s
  · exact authorityCovers_one x s

/-- The closing cent and the final spent are as the fine total and the payer give them. -/
theorem closingCent_final (i : StationId) (s : State) :
    FinalSpent s (s.st i).session (closingCent i s).1 (closingCent i s).2.1 := by
  have fits := fundsCheck_one s (s.st i).session
  unfold closingCent
  dsimp only
  split
  · next small => exact ⟨fun _ => ⟨rfl, rfl⟩, fun h => by omega, fun h => by omega⟩
  · next owes =>
    split
    · next t e => exact ⟨fun h => absurd h owes, fun _ _ => ⟨rfl, rfl⟩, fun _ no => absurd (fits.1 ⟨t, e⟩) no⟩
    · next e =>
      refine ⟨fun h => absurd h owes, fun _ yes => ?_, fun _ _ => ⟨rfl, rfl⟩⟩
      obtain ⟨t, e'⟩ := fits.2 yes
      rw [e] at e'
      cases e'

/-- The closing cent changes an account's balance alone, where it is posted on one. -/
theorem closingCent_world (i : StationId) (s : State) :
    (∃ n a, (s.st i).session.payer = some (.account n) ∧ findAccount s.accounts n = some a ∧ (closingCent i s).1 = .posted ∧
      (closingCent i s).2.2 = putAccount { a with balance := a.balance - 1 } s) ∨
    ((closingCent i s).2.2 = s ∧ ∀ n, (s.st i).session.payer = some (.account n) → (closingCent i s).1 ≠ .posted) := by
  unfold closingCent
  dsimp only
  split
  · exact .inr ⟨rfl, fun _ _ => nofun⟩
  · split
    · next t e =>
      unfold fundsCheck at e
      split at e
      · next n payer =>
        obtain ⟨a, found, -, rfl⟩ := debit_spec e
        exact .inl ⟨n, a, payer, found, rfl, rfl⟩
      · next c payer =>
        split at e
        · cases e; exact .inr ⟨rfl, fun n h => by simp [payer] at h⟩
        · cases e
      · next c payer =>
        split at e
        · cases e; exact .inr ⟨rfl, fun n h => by simp [payer] at h⟩
        · cases e
      · cases e
    · exact .inr ⟨rfl, fun _ _ => nofun⟩

end

/-! ## The payer's update (R40) -/

/-- The account or the stand-in list updated for a session that closes. -/
def payerSettled (x : Session) (spent : Nat) (s : State) : State :=
  match x.payer with
  | some (.account n) => settleAccount n spent s
  | some (.standIn t) => s.updCards fun c => { c with standIn := settleStandIn t spent c.standIn }
  | _ => s

/-- A station whose session closes loses the INCREMENT entry of a CARD session. -/
def payerEntry (cancel : CancelCause) (x : Station) : Station :=
  if payerIsCard x.session.payer && x.auth.any (fun e => e.kind == .increment) then entryRemoved (some cancel) x else x

theorem updatePayer_eq (i : StationId) (spent : Nat) (cancel : CancelCause) (s : State) :
    updatePayer i spent cancel s = (payerSettled (s.st i).session spent s).upd i (payerEntry cancel) := by
  unfold updatePayer payerSettled
  rcases payer : (s.st i).session.payer with _ | n | t | t
  · exact (upd_id s i (by simp [payerEntry, payer, payerIsCard])).symm
  · refine (upd_id _ i ?_).symm
    have same : (settleAccount n spent s).st i = s.st i := by unfold settleAccount; split <;> rfl
    simp [same, payerEntry, payer, payerIsCard]
  · dsimp only
    split
    · next increment =>
      rw [removeEntry_eq]
      exact upd_congr (by rw [payerEntry, if_pos (by rw [payer]; exact increment)])
    · next other => exact (upd_id s i (by rw [payerEntry, if_neg (by rw [payer]; exact other)])).symm
  · refine (upd_id _ i ?_).symm
    simp [payerEntry, payer, payerIsCard]

theorem payerEntry_rest (cancel : CancelCause) (x : Station) : payerEntry cancel x = { x with
    auth := (payerEntry cancel x).auth
    cond := { x.cond with
      authRequest := (payerEntry cancel x).cond.authRequest, authCancel := (payerEntry cancel x).cond.authCancel } } := by
  unfold payerEntry
  split
  · rw [entryRemoved_rest]
  · rfl

theorem payerEntry_none {cancel : CancelCause} {x : Station} (none : x.auth = none) : payerEntry cancel x = x := by
  simp [payerEntry, none]

theorem payerEntry_increment {cancel : CancelCause} {x : Station} {t : Token} {e : AuthEntry} (card : x.session.payer = some (.card t))
    (held : x.auth = some e) (kind : e.kind = .increment) : payerEntry cancel x = entryRemoved (some cancel) x := by
  simp [payerEntry, card, held, kind, payerIsCard]

/-! ## The record (R143, R148, R151) -/

/-- The journal unit with a record appended. -/
def JournalUnit.appended (j : JournalUnit) (r : JournalRecord) : JournalUnit :=
  { j with
    records := j.records ++ [r]
    nextNumber := (j.nextNumber + 1) % 4294967296
    level := risenLevel (j.records.length + 1) j.level }

theorem riseLevel_eq (n : Nat) (l : Urgency) : riseLevel n l = risenLevel n l := by
  unfold riseLevel risenLevel enteredLevel
  split_ifs <;> cases l <;> simp_all [urgencyRank]

theorem appendRecord_eq (r : JournalRecord) (s : State) : appendRecord r s = { s with
    journal := s.journal.appended r
    host := { s.host with journalFlag := s.host.journalFlag || ((s.journal.appended r).level != s.journal.level) } } := by
  rw [appendRecord, setLevel_spec]
  simp only [updJournal_journal, updJournal_host, List.length_append, List.length_singleton, riseLevel_eq]
  rfl

/-! ## The close step (R39) -/

/-- A station whose session has returned to NONE with its record. -/
def closedAt (cancel : CancelCause) (spent : Nat) (cent : ClosingCent) (x : Station) : Station :=
  let y := payerEntry cancel x
  recoveryTold (offered (.closed spent cent) { y with
    session := Session.ended x.session.number, idleTimer := none, cond := { y.cond with session := true }
    meters := { x.meters with sessionsClosed := addMeter x.meters.sessionsClosed 1 } })

theorem closingCent_journal (i : StationId) (s : State) : (closingCent i s).2.2.journal = s.journal := by
  rcases closingCent_world i s with ⟨_, _, -, -, -, e⟩ | ⟨e, -⟩ <;> rw [e] <;> rfl

theorem payerSettled_journal (x : Session) (n : Nat) (s : State) : (payerSettled x n s).journal = s.journal := by
  unfold payerSettled settleAccount
  split
  · split <;> rfl
  · rfl
  · rfl

theorem payerSettled_host (x : Session) (n : Nat) (s : State) : (payerSettled x n s).host = s.host := by
  unfold payerSettled settleAccount
  split
  · split <;> rfl
  · rfl
  · rfl

theorem payerSettled_st (x : Session) (n : Nat) (s : State) (i : StationId) : (payerSettled x n s).st i = s.st i := by
  unfold payerSettled settleAccount
  split
  · split <;> rfl
  · rfl
  · rfl

theorem closingCent_host (i : StationId) (s : State) : (closingCent i s).2.2.host = s.host := by
  rcases closingCent_world i s with ⟨_, _, -, -, -, e⟩ | ⟨e, -⟩ <;> rw [e] <;> rfl

/-- The part, its stations apart, after the close of a session up to its record. -/
def closeWorld (i : StationId) (reason : CloseReason) (s : State) : State :=
  let x := (s.st i).session
  let c := closingCent i s
  appendRecord (recordOf i x (x.payer.getD (.account 0)) (x.tariffClass.getD 0) reason c.1 c.2.1 s.journal)
    (payerSettled x c.2.1 c.2.2)

theorem appendRecord_upd (r : JournalRecord) (s : State) (i : StationId) (f : Station → Station) :
    appendRecord r (s.upd i f) = (appendRecord r s).upd i f := by
  rw [appendRecord_eq, appendRecord_eq]
  rfl

theorem closeStep_form (i : StationId) (reason : CloseReason) (cancel : CancelCause) (s : State) :
    closeStep i reason cancel s = stopWhenEmpty ((closeWorld i reason s).upd i
      (closedAt cancel (closingCent i s).2.1 (closingCent i s).1)) := by
  have session : ((closingCent i s).2.2.st i).session = (s.st i).session := by rw [closingCent_st]
  rw [closeStep_eq, closeRecorded, setSession_eq, syncIdle_eq, updatePayer_eq, offer_eq, sessionEnded_eq, session,
    State.updMeters]
  simp only [appendRecord_upd, upd_upd, upd_journal]
  rw [payerSettled_journal, closingCent_journal, ← closeWorld]
  refine congrArg _ (upd_congr ?_)
  have here : (closeWorld i reason s).st i = s.st i := by
    rw [closeWorld, appendRecord_st, payerSettled_st, closingCent_st]
  rw [here, judged_notOpen (by simp [Session.ended])]
  have rest := payerEntry_rest cancel (s.st i)
  have number : (payerEntry cancel (s.st i)).session = (s.st i).session := by rw [rest]
  have meters : (payerEntry cancel (s.st i)).meters = (s.st i).meters := by rw [rest]
  simp only [closedAt, number, meters]

/-! ### The station that a close leaves -/

section
variable (cancel : CancelCause) (spent : Nat) (cent : ClosingCent) (x : Station)

/-- What a close leaves as it was, and what it makes of the session, the timers, the meters and the availability. -/
theorem closedAt_rest : closedAt cancel spent cent x = { x with
    session := Session.ended x.session.number, idleTimer := none
    meters := { x.meters with sessionsClosed := (x.meters.sessionsClosed + 1) % 1000000000 }
    recovery := ⟨x.recovery.stoppage, none, if x.recovery.disablePending then .outOfService else x.recovery.availability, false⟩
    auth := (payerEntry cancel x).auth
    line := { x.line with down := (closedAt cancel spent cent x).line.down }
    cond := (closedAt cancel spent cent x).cond } := by
  unfold closedAt
  dsimp only
  rw [recoveryTold_rest, offered_rest, payerEntry_rest]
  rfl

theorem closedAt_down_room {cancel : CancelCause} {spent : Nat} {cent : ClosingCent} {x : Station} (present : x.line.present = true)
    (room : x.line.down.length < 4) : (closedAt cancel spent cent x).line.down = x.line.down ++ [.closed spent cent] := by
  have line : (payerEntry cancel x).line = x.line := by rw [payerEntry_rest]
  unfold closedAt
  dsimp only
  rw [recoveryTold_rest, offered_room (by exact line ▸ present) (by exact line ▸ room)]
  exact congrArg (fun l : StationLine => l.down ++ _) line

theorem closedAt_line_absent {cancel : CancelCause} {spent : Nat} {cent : ClosingCent} {x : Station} (absent : x.line.present = false) :
    (closedAt cancel spent cent x).line = x.line := by
  have line : (payerEntry cancel x).line = x.line := by rw [payerEntry_rest]
  unfold closedAt
  dsimp only
  rw [recoveryTold_rest, offered_absent (by exact line ▸ absent)]
  exact line

/-- The conditions that a close leaves but for the line states, the entry's conditions and the anomalies. -/
theorem closedAt_cond : ((closedAt cancel spent cent x).cond.session = true) ∧ (closedAt cancel spent cent x).cond.jam = x.cond.jam ∧
    (closedAt cancel spent cent x).cond.authRequest = (payerEntry cancel x).cond.authRequest ∧
    (closedAt cancel spent cent x).cond.authCancel = (payerEntry cancel x).cond.authCancel := by
  have jam : (payerEntry cancel x).cond.jam = x.cond.jam := by rw [payerEntry_rest]
  unfold closedAt
  dsimp only
  rw [recoveryTold_rest]
  rcases offered_cond (.closed spent cent) { payerEntry cancel x with
    session := Session.ended x.session.number, idleTimer := none, cond := { (payerEntry cancel x).cond with session := true }
    meters := { x.meters with sessionsClosed := addMeter x.meters.sessionsClosed 1 } } with e | e <;> rw [e] <;>
  exact ⟨rfl, jam, rfl, rfl⟩

theorem closedAt_anomalies_absent {cancel : CancelCause} {spent : Nat} {cent : ClosingCent} {x : Station}
    (absent : x.line.present = false) : (closedAt cancel spent cent x).cond.anomalies = x.cond.anomalies ∧
      (closedAt cancel spent cent x).cond.latestAnomaly = x.cond.latestAnomaly := by
  have line : (payerEntry cancel x).line = x.line := by rw [payerEntry_rest]
  have cond : (payerEntry cancel x).cond.anomalies = x.cond.anomalies ∧
      (payerEntry cancel x).cond.latestAnomaly = x.cond.latestAnomaly := by rw [payerEntry_rest]; exact ⟨rfl, rfl⟩
  unfold closedAt
  dsimp only
  rw [recoveryTold_rest, offered_absent (by exact line ▸ absent)]
  exact cond

/-- A close at a present station with room in its queue raises no anomaly. -/
theorem closedAt_anomalies_room {cancel : CancelCause} {spent : Nat} {cent : ClosingCent} {x : Station}
    (present : x.line.present = true) (room : x.line.down.length < 4) :
    (closedAt cancel spent cent x).cond.anomalies = x.cond.anomalies ∧
      (closedAt cancel spent cent x).cond.latestAnomaly = x.cond.latestAnomaly := by
  have line : (payerEntry cancel x).line = x.line := by rw [payerEntry_rest]
  have cond : (payerEntry cancel x).cond.anomalies = x.cond.anomalies ∧
      (payerEntry cancel x).cond.latestAnomaly = x.cond.latestAnomaly := by rw [payerEntry_rest]; exact ⟨rfl, rfl⟩
  unfold closedAt
  dsimp only
  rw [recoveryTold_rest, offered_room (by exact line ▸ present) (by exact line ▸ room)]
  exact cond

theorem closedAt_full {cancel : CancelCause} {spent : Nat} {cent : ClosingCent} {x : Station} (present : x.line.present = true)
    (full : x.line.down.length = 4) (noEntry : x.auth = none) (noDisable : x.recovery.disablePending = false) :
    OfferedToFull (.closed spent cent) x.line { x.cond with session := true } (closedAt cancel spent cent x).line.down
      (closedAt cancel spent cent x).cond := by
  have parts : closedAt cancel spent cent x = recoveryTold (offered (.closed spent cent) { x with
      session := Session.ended x.session.number, idleTimer := none, cond := { x.cond with session := true }
      meters := { x.meters with sessionsClosed := addMeter x.meters.sessionsClosed 1 } }) := by
    rw [closedAt, payerEntry_none noEntry]
  have offer := offered_full (m := .closed spent cent) (x := { x with
      session := Session.ended x.session.number, idleTimer := none, cond := { x.cond with session := true }
      meters := { x.meters with sessionsClosed := addMeter x.meters.sessionsClosed 1 } }) present full
  have keep : (recoveryTold (offered (.closed spent cent) { x with
      session := Session.ended x.session.number, idleTimer := none, cond := { x.cond with session := true }
      meters := { x.meters with sessionsClosed := addMeter x.meters.sessionsClosed 1 } })).cond = _ :=
    recoveryTold_cond_keep (by rw [offered_rest]; exact noDisable)
  rw [parts, keep, recoveryTold_rest]
  exact offer

end

/-! ### The part that a close leaves -/

section
variable {i : StationId} {reason : CloseReason} {cancel : CancelCause} {s : State}

theorem closeStep_st (i : StationId) (reason : CloseReason) (cancel : CancelCause) (s : State) :
    (closeStep i reason cancel s).st i = closedAt cancel (closingCent i s).2.1 (closingCent i s).1 (s.st i) := by
  rw [closeStep_form, stopWhenEmpty_st, st_upd_self, closeWorld, appendRecord_st, payerSettled_st, closingCent_st]

/-- The end of the last session changes the operating state alone. -/
theorem stopWhenEmpty_rest (s : State) :
    stopWhenEmpty s = { s with host := { s.host with op := (stopWhenEmpty s).host.op } } := by
  unfold stopWhenEmpty
  split <;> rfl

theorem stopWhenEmpty_op {s : State} {i : StationId} (ended : (s.st i).session.state = .none) :
    (LastSession s i → (stopWhenEmpty s).host.op = .stopped) ∧ (¬ LastSession s i → (stopWhenEmpty s).host.op = s.host.op) := by
  have last : LastSession s i ↔ s.host.op = .stopping ∧ s.sessions = 0 := by
    rw [sessions_eq_zero]
    refine and_congr_right fun _ => ⟨fun others j => ?_, fun all j _ => all j⟩
    by_cases e : j = i
    · rw [e, ended]
    · exact others j e
  unfold stopWhenEmpty
  constructor
  · intro h
    rw [if_pos (last.1 h)]
    rfl
  · intro h
    rw [if_neg (mt last.2 h)]

theorem closeStep_journal {payer : Payer} (paid : (s.st i).session.payer = some payer) :
    (closeStep i reason cancel s).journal = s.journal.appended
      (closeRecord s i (s.st i).session payer reason (closingCent i s).1 (closingCent i s).2.1) := by
  rw [closeStep_form, stopWhenEmpty_rest]
  show (closeWorld i reason s).journal = _
  rw [closeWorld, appendRecord_eq]
  dsimp only
  rw [payerSettled_journal, closingCent_journal, paid]
  rfl

theorem closeWorld_host (i : StationId) (reason : CloseReason) (s : State) : (closeWorld i reason s).host =
    { s.host with journalFlag := s.host.journalFlag || ((closeWorld i reason s).journal.level != s.journal.level) } := by
  have host : (payerSettled (s.st i).session (closingCent i s).2.1 (closingCent i s).2.2).host = s.host := by
    rw [payerSettled_host, closingCent_host]
  have journal : (payerSettled (s.st i).session (closingCent i s).2.1 (closingCent i s).2.2).journal = s.journal := by
    rw [payerSettled_journal, closingCent_journal]
  rw [closeWorld, appendRecord_eq]
  dsimp only
  rw [host, journal]

theorem closeStep_host (i : StationId) (reason : CloseReason) (cancel : CancelCause) (s : State) :
    (closeStep i reason cancel s).host = { s.host with
      journalFlag := s.host.journalFlag || ((closeStep i reason cancel s).journal.level != s.journal.level)
      op := (closeStep i reason cancel s).host.op } := by
  have rest := stopWhenEmpty_rest ((closeWorld i reason s).upd i (closedAt cancel (closingCent i s).2.1 (closingCent i s).1))
  rw [← closeStep_form] at rest
  have host := congrArg State.host rest
  have journal : (closeStep i reason cancel s).journal = (closeWorld i reason s).journal := by rw [rest]; rfl
  dsimp only at host
  rw [upd_host, closeWorld_host] at host
  rw [journal]
  exact host

theorem closeStep_op (i : StationId) (reason : CloseReason) (cancel : CancelCause) (s : State) :
    (LastSession s i → (closeStep i reason cancel s).host.op = .stopped) ∧
      (¬ LastSession s i → (closeStep i reason cancel s).host.op = s.host.op) := by
  have host : (closeWorld i reason s).host.op = s.host.op := by
    rw [closeWorld, appendRecord_eq]
    dsimp only
    rw [payerSettled_host, closingCent_host]
  have st : ∀ j, (closeWorld i reason s).st j = s.st j := fun j => by
    rw [closeWorld, appendRecord_st, payerSettled_st, closingCent_st]
  have same : LastSession ((closeWorld i reason s).upd i (closedAt cancel (closingCent i s).2.1 (closingCent i s).1)) i ↔
      LastSession s i := by
    refine and_congr (by rw [upd_host, host]) ⟨fun h j ne => ?_, fun h j ne => ?_⟩
    · rw [← st j, ← st_upd_ne _ _ ne]; exact h j ne
    · rw [st_upd_ne _ _ ne, st j]; exact h j ne
  have ended := stopWhenEmpty_op
    (s := (closeWorld i reason s).upd i (closedAt cancel (closingCent i s).2.1 (closingCent i s).1)) (i := i)
    (by rw [st_upd_self, closedAt_rest]; rfl)
  rw [same, upd_host, host, ← closeStep_form] at ended
  exact ended

theorem closeStep_accounts_cards (i : StationId) (reason : CloseReason) (cancel : CancelCause) (s : State) :
    (closeStep i reason cancel s).accounts = (payerSettled (s.st i).session (closingCent i s).2.1 (closingCent i s).2.2).accounts ∧
    (closeStep i reason cancel s).cards = (payerSettled (s.st i).session (closingCent i s).2.1 (closingCent i s).2.2).cards := by
  rw [closeStep_form, stopWhenEmpty_rest]
  show (closeWorld i reason s).accounts = _ ∧ (closeWorld i reason s).cards = _
  rw [closeWorld, appendRecord_eq]
  exact ⟨rfl, rfl⟩

theorem findAccount_put {n : Nat} {a : Account} (number : a.number = n) (s : State) :
    findAccount (putAccount a s).accounts n = some a ∧
    ∀ m, m ≠ n → findAccount (putAccount a s).accounts m = findAccount s.accounts m := by
  subst number
  exact ⟨findAccount_putAccount_same a s, fun m ne => findAccount_putAccount_other a s ne⟩

/-- An account settled for a session that closes. -/
def settledAccount (a : Account) (spent clock : Nat) : Account :=
  { a with openSessions := a.openSessions - 1, lifetimeSpend := addMeter a.lifetimeSpend spent, lastUse := clock }

theorem payerSettled_account {x : Session} {n spent : Nat} {a : Account} {t : State} (paid : x.payer = some (.account n))
    (found : findAccount t.accounts n = some a) :
    payerSettled x spent t = putAccount (settledAccount a spent t.journal.clock) t := by
  rw [payerSettled, paid]
  dsimp only
  rw [settleAccount, found]
  rfl

/-- An account that pays is settled, with the closing cent where it is posted, and no other changes. -/
theorem closeStep_account {n : Nat} {a : Account} (paid : (s.st i).session.payer = some (.account n))
    (found : findAccount s.accounts n = some a) :
    (closeStep i reason cancel s).cards = s.cards ∧
    findAccount (closeStep i reason cancel s).accounts n = some { a with
      balance := a.balance - (if (closingCent i s).1 = .posted then 1 else 0), openSessions := a.openSessions - 1
      lifetimeSpend := (a.lifetimeSpend + (closingCent i s).2.1) % 1000000000, lastUse := s.journal.clock } ∧
    ∀ m, m ≠ n → findAccount (closeStep i reason cancel s).accounts m = findAccount s.accounts m := by
  obtain ⟨accounts, cards⟩ := closeStep_accounts_cards i reason cancel s
  have number := findAccount_number found
  rw [accounts, cards]
  rcases closingCent_world i s with ⟨n', a', paid', found', posted, e⟩ | ⟨e, other⟩
  · have same : n' = n := (Payer.account.inj (Option.some.inj (paid.symm.trans paid'))).symm
    subst same
    have same : a' = a := Option.some.inj (found'.symm.trans found)
    subst same
    obtain ⟨cented, centedOthers⟩ := findAccount_put (a := { a' with balance := a'.balance - 1 }) number s
    obtain ⟨settled, settledOthers⟩ := findAccount_put
      (a := settledAccount { a' with balance := a'.balance - 1 } (closingCent i s).2.1 s.journal.clock) number
      (putAccount { a' with balance := a'.balance - 1 } s)
    rw [e, payerSettled_account paid cented, if_pos posted]
    exact ⟨rfl, settled, fun m ne => (settledOthers m ne).trans (centedOthers m ne)⟩
  · obtain ⟨settled, settledOthers⟩ := findAccount_put (a := settledAccount a (closingCent i s).2.1 s.journal.clock) number s
    rw [e, payerSettled_account paid found, if_neg (other n paid), Int.sub_zero]
    exact ⟨rfl, settled, settledOthers⟩

theorem closingCent_noAccount (other : ∀ n, (s.st i).session.payer ≠ some (.account n)) : (closingCent i s).2.2 = s := by
  rcases closingCent_world i s with ⟨n, -, paid, -⟩ | ⟨e, -⟩
  · exact absurd paid (other n)
  · exact e

theorem closeStep_card {t : Token} (paid : (s.st i).session.payer = some (.card t)) :
    (closeStep i reason cancel s).accounts = s.accounts ∧ (closeStep i reason cancel s).cards = s.cards := by
  obtain ⟨accounts, cards⟩ := closeStep_accounts_cards i reason cancel s
  rw [accounts, cards, closingCent_noAccount (by simp [paid]), payerSettled, paid]
  exact ⟨rfl, rfl⟩

theorem closeStep_standIn {t : Token} (paid : (s.st i).session.payer = some (.standIn t)) :
    (closeStep i reason cancel s).accounts = s.accounts ∧ (closeStep i reason cancel s).cards =
      { s.cards with standIn := settleStandIn t (closingCent i s).2.1 s.cards.standIn } := by
  obtain ⟨accounts, cards⟩ := closeStep_accounts_cards i reason cancel s
  rw [accounts, cards, closingCent_noAccount (by simp [paid]), payerSettled, paid]
  exact ⟨rfl, rfl⟩

theorem settleStandIn_one {t : Token} {spent : Nat} {before after : List StandInEntry} {e : StandInEntry} (holds : e.token = t)
    (others : ∀ f ∈ before ++ after, f.token ≠ t) : settleStandIn t spent (before ++ e :: after) =
      if spent = 0 then before ++ after else before ++ { e with amount := spent, settled := true } :: after := by
  have kept : ∀ fs : List StandInEntry, (∀ f ∈ fs, f.token ≠ t) →
      fs.map (fun f => if f.token = t then { f with amount := spent, settled := true } else f) = fs := fun fs h =>
    (List.map_congr_left fun f hf => if_neg (h f hf)).trans (List.map_id fs)
  have left : ∀ f ∈ before, f.token ≠ t := fun f hf => others f (List.mem_append_left _ hf)
  have right : ∀ f ∈ after, f.token ≠ t := fun f hf => others f (List.mem_append_right _ hf)
  unfold settleStandIn
  split
  · rw [List.filter_append, List.filter_cons_of_neg (by simp [holds]), List.filter_eq_self.2 fun f hf => by simp [left f hf],
      List.filter_eq_self.2 fun f hf => by simp [right f hf]]
  · rw [List.map_append, List.map_cons, kept _ left, kept _ right, if_pos holds]

end

/-! ## From OPEN to the close (R33, R36) -/

theorem holdsCharged_iff (q : List InFlight) : holdsCharged q = true ↔ ∃ e ∈ q, e.kind = .charged := by
  simp [holdsCharged]

theorem holdsCharged_false_iff (q : List InFlight) : holdsCharged q = false ↔ ∀ e ∈ q, e.kind ≠ .charged := by
  rw [← Bool.not_eq_true, holdsCharged_iff]
  simp

section
variable {i : StationId} {s : State}

/-- A DRAINING session whose last CHARGED entry has left closes, and with no request waiting nothing follows. -/
theorem drainCheck_closes {r : CloseReason} (state : (s.st i).session.state = .draining) (reason : (s.st i).session.closeReason = some r)
    (none : ∀ e ∈ (s.st i).queue, e.kind ≠ .charged) (idle : (s.st i).request = .idle) :
    drainCheck i s = closeStep i r .closed s := by
  have left := (holdsCharged_false_iff _).2 none
  have closed : ((closeStep i r .closed s).st i).request = .idle := by rw [closeStep_st, closedAt_rest, ← idle]
  unfold drainCheck
  dsimp only
  rw [if_pos ⟨state, by rw [left]; rfl⟩, reason]
  exact reevaluate_idle closed

theorem drainCheck_charged (charged : ∃ e ∈ (s.st i).queue, e.kind = .charged) : drainCheck i s = s := by
  have held := (holdsCharged_iff _).2 charged
  exact if_neg (by rw [held]; simp)

theorem drainCheck_notDraining (state : (s.st i).session.state ≠ .draining) : drainCheck i s = s := if_neg fun h => state h.1

theorem drained_queue (full : Nat) (r : CloseReason) (x : Station) : (drained full r x).queue = x.queue := by rw [drained_rest]

/-- With a CHARGED entry left the session drains. -/
theorem goDraining_charged (r : CloseReason) (charged : ∃ e ∈ (s.st i).queue, e.kind = .charged) :
    goDraining i r s = s.upd i (drained s.idleFull r) := by
  rw [goDraining, startDraining_eq]
  exact drainCheck_charged (by rwa [st_upd_self, drained_queue])

/-- With none left it closes at once. -/
theorem goDraining_closes (r : CloseReason) (none : ∀ e ∈ (s.st i).queue, e.kind ≠ .charged) :
    goDraining i r s = closeStep i r .closed (s.upd i (drained s.idleFull r)) := by
  rw [goDraining, startDraining_eq]
  refine drainCheck_closes ?_ ?_ ?_ ?_ <;> rw [st_upd_self, drained_rest]
  · rfl
  · rfl
  · exact none

/-- The drain makes no difference to the closing cent and the record. -/
theorem closingCent_drained (r : CloseReason) :
    (closingCent i (s.upd i (drained s.idleFull r))).1 = (closingCent i s).1 ∧
    (closingCent i (s.upd i (drained s.idleFull r))).2.1 = (closingCent i s).2.1 := by
  have session : ((s.upd i (drained s.idleFull r)).st i).session = drainingSession r (s.st i).session := by
    rw [st_upd_self, drained_rest]
  have funds : (fundsCheck (drainingSession r (s.st i).session) 1 (s.upd i (drained s.idleFull r))).isSome =
      (fundsCheck (s.st i).session 1 s).isSome := by
    have fits := fundsCheck_one (s.upd i (drained s.idleFull r)) (drainingSession r (s.st i).session)
    have same : CentFits (s.upd i (drained s.idleFull r)) (drainingSession r (s.st i).session) ↔ CentFits s (s.st i).session :=
      Iff.rfl
    rw [same, ← fundsCheck_one s, ← Option.isSome_iff_exists, ← Option.isSome_iff_exists] at fits
    exact Bool.eq_iff_iff.2 fits
  unfold closingCent
  rw [session]
  dsimp only
  have total : (drainingSession r (s.st i).session).fineTotal = (s.st i).session.fineTotal := rfl
  rw [total]
  split
  · exact ⟨rfl, rfl⟩
  · rcases h : fundsCheck (drainingSession r (s.st i).session) 1 (s.upd i (drained s.idleFull r)) with _ | t <;>
    rcases k : fundsCheck (s.st i).session 1 s with _ | u <;> rw [h, k] at funds
    · exact ⟨rfl, rfl⟩
    · cases funds
    · cases funds
    · exact ⟨rfl, rfl⟩

end

end Sys2Proof.Machine
end

section
/-!
PROOFS. The close reason HOST of SESSION END and the close reason DISABLED of STATION DISABLE (sections 2.5 and 5.6).
-/

namespace Sys2Proof.Machine

section
variable {i : StationId} {s : State}

/-! ## A close reason taken at an OPEN session (R33) -/

theorem takeReason_opened {r : CloseReason} (state : (s.st i).session.state = .opened) : takeReason i r s = goDraining i r s := by
  rw [takeReason, state]

theorem takeReason_draining {r : CloseReason} (state : (s.st i).session.state = .draining) : takeReason i r s = s := by
  rw [takeReason, state]

theorem takeReason_pends {r : CloseReason} (state : (s.st i).session.state = .authorizing ∨ (s.st i).session.state = .stalled) :
    takeReason i r s = keepReason i r s := by
  rcases state with e | e <;> rw [takeReason, e]

theorem goDraining_charged_session (r : CloseReason) (charged : ∃ e ∈ (s.st i).queue, e.kind = .charged) :
    ((goDraining i r s).st i).session = drainingSession r (s.st i).session ∧
    ((goDraining i r s).st i).recovery = (s.st i).recovery ∧ (goDraining i r s).journal = s.journal := by
  rw [goDraining_charged r charged, st_upd_self, drained_rest]
  exact ⟨rfl, rfl, rfl⟩

/-- The station after a drain that closes at once. -/
theorem goDraining_closes_st (r : CloseReason) (left : ∀ e ∈ (s.st i).queue, e.kind ≠ .charged) :
    (goDraining i r s).st i =
      closedAt .closed (closingCent i s).2.1 (closingCent i s).1 (drained s.idleFull r (s.st i)) := by
  rw [goDraining_closes r left, closeStep_st, (closingCent_drained r).1, (closingCent_drained r).2, st_upd_self]

theorem goDraining_closes_session (r : CloseReason) (left : ∀ e ∈ (s.st i).queue, e.kind ≠ .charged) :
    ((goDraining i r s).st i).session = Session.ended (s.st i).session.number ∧
    ((goDraining i r s).st i).recovery = ⟨(s.st i).recovery.stoppage, none,
      if (s.st i).recovery.disablePending then .outOfService else (s.st i).recovery.availability, false⟩ := by
  rw [goDraining_closes_st r left, closedAt_rest, drained_rest]
  exact ⟨rfl, rfl⟩

/-- A close appends a record with the reason, the station and the two numbers. -/
theorem closeStep_appends (i : StationId) (reason : CloseReason) (cancel : CancelCause) (s : State) :
    ∃ r, (closeStep i reason cancel s).journal = s.journal.appended r ∧ r.reason = reason ∧ r.station = i ∧
      r.sessionNumber = (s.st i).session.number ∧ r.journalNumber = s.journal.nextNumber ∧
      r.closeTime = s.journal.clock ∧ r.stallCount = (s.st i).session.stallCount := by
  have rest := stopWhenEmpty_rest ((closeWorld i reason s).upd i (closedAt cancel (closingCent i s).2.1 (closingCent i s).1))
  rw [← closeStep_form] at rest
  have journal : (closeStep i reason cancel s).journal = (closeWorld i reason s).journal := by rw [rest]; rfl
  rw [journal, closeWorld, appendRecord_eq]
  refine ⟨_, by dsimp only; rw [payerSettled_journal, closingCent_journal], rfl, rfl, rfl, rfl, rfl, rfl⟩

theorem closeStep_record (i : StationId) (reason : CloseReason) (cancel : CancelCause) (s : State) :
    ∃ r, (closeStep i reason cancel s).journal = s.journal.appended r ∧ r.reason = reason ∧ r.station = i ∧
      r.sessionNumber = (s.st i).session.number ∧ r.journalNumber = s.journal.nextNumber := by
  obtain ⟨r, journal, same, station, session, number, -⟩ := closeStep_appends i reason cancel s
  exact ⟨r, journal, same, station, session, number⟩

theorem goDraining_closes_record (reason : CloseReason) (left : ∀ e ∈ (s.st i).queue, e.kind ≠ .charged) :
    ∃ r, (goDraining i reason s).journal.records = s.journal.records ++ [r] ∧ r.reason = reason ∧ r.station = i ∧
      r.sessionNumber = (s.st i).session.number ∧ r.journalNumber = s.journal.nextNumber := by
  rw [goDraining_closes reason left]
  obtain ⟨r, journal, same, station, session, number⟩ := closeStep_record i reason .closed (s.upd i (drained s.idleFull reason))
  refine ⟨r, congrArg JournalUnit.records journal, same, station, session.trans ?_, number⟩
  rw [st_upd_self, drained_rest]
  rfl

/-! ## SESSION END (R35) -/

theorem sessionLive_iff (x : Session) : sessionLive x = true ↔ x.state ≠ .none := by
  cases h : x.state <;> simp [sessionLive, h]

theorem exec_sessionEnd (idle : lineIdle s) (inFrame : s.inFrame i = true) : exec (.sessionEnd (stationByte i)) s = .next
    (bufferReply 0x2B (if sessionLive (s.st i).session then answerOk [] (takeReason i .host s) else answerRefused .state s)) :=
  congrArg _ ((submit_idle (r := .sessionEnd (stationByte i)) idle).trans
    (congrArg (bufferReply 0x2B) (onStation_stationByte inFrame _)))

/-- SESSION END at a session that exists is the close reason HOST. -/
theorem exec_sessionEnd_live (idle : lineIdle s) (inFrame : s.inFrame i = true) (live : (s.st i).session.state ≠ .none) :
    exec (.sessionEnd (stationByte i)) s = .next ((takeReason i .host s).replied 0x2B .ok []) := by
  rw [exec_sessionEnd idle inFrame, if_pos ((sessionLive_iff _).2 live), bufferReply_ok]

/-- Settles O44: SESSION END is refused without a session, and otherwise the close reason HOST by the session's state. -/
theorem sessionEndIsTheReasonHost : Obligations.SessionEndIsTheReasonHost := by
  intro i s idle inFrame
  refine ⟨fun state => ?refused, fun state => ?kept, fun state => ?draining, fun state => ?opened⟩
  case refused =>
    rw [exec_sessionEnd idle inFrame, if_neg (by rw [sessionLive_iff, state]; simp), bufferReply_refused]
  case kept =>
    have live : (s.st i).session.state ≠ .none := by rcases state with e | e <;> rw [e] <;> nofun
    rw [exec_sessionEnd_live idle inFrame live, takeReason_pends state]
    rfl
  case draining =>
    rw [exec_sessionEnd_live idle inFrame (by rw [state]; nofun), takeReason_draining state]
  case opened =>
    refine ⟨goDraining i .host s, ?_, goDraining_local i _ s, fun charged => ?_, fun left => ?_⟩
    · rw [exec_sessionEnd_live idle inFrame (by rw [state]; nofun), takeReason_opened state]
    · obtain ⟨session, -, journal⟩ := goDraining_charged_session .host charged
      exact ⟨session, journal⟩
    · exact ⟨(goDraining_closes_session .host left).1, goDraining_closes_record .host left⟩

/-! ## STATION DISABLE (R94) -/

theorem exec_stationDisable_out (idle : lineIdle s) (inFrame : s.inFrame i = true)
    (out : (s.st i).recovery.availability = .outOfService) :
    exec (.stationDisable (stationByte i)) s = .next (bufferReply 0x2A (availabilityAnswer i s)) := by
  refine congrArg _ ((submit_idle (r := .stationDisable (stationByte i)) idle).trans
    (congrArg (bufferReply 0x2A) ((onStation_stationByte inFrame _).trans ?_)))
  rw [out]

theorem exec_stationDisable_enabled (idle : lineIdle s) (inFrame : s.inFrame i = true)
    (enabled : (s.st i).recovery.availability = .enabled) :
    exec (.stationDisable (stationByte i)) s = .next (bufferReply 0x2A (if sessionLive (s.st i).session then
      availabilityAnswer i (takeReason i .disabled (s.updRecovery i fun r => { r with disablePending := true }))
      else availabilityAnswer i (setAvailability i .outOfService s))) := by
  refine congrArg _ ((submit_idle (r := .stationDisable (stationByte i)) idle).trans
    (congrArg (bufferReply 0x2A) ((onStation_stationByte inFrame _).trans ?_)))
  rw [enabled]

/-- STATION DISABLE at an ENABLED station with a session sets disable pending and is the close reason DISABLED. -/
theorem exec_stationDisable_live (idle : lineIdle s) (inFrame : s.inFrame i = true)
    (enabled : (s.st i).recovery.availability = .enabled) (live : (s.st i).session.state ≠ .none) :
    exec (.stationDisable (stationByte i)) s = .next (bufferReply 0x2A
      (availabilityAnswer i (takeReason i .disabled (s.updRecovery i fun r => { r with disablePending := true })))) := by
  rw [exec_stationDisable_enabled idle inFrame enabled, if_pos ((sessionLive_iff _).2 live)]

/-- Settles O43: STATION DISABLE by the availability, and at an ENABLED station by the session's state. -/
theorem stationDisableTakesTheStationOut : Obligations.StationDisableTakesTheStationOut := by
  intro i s idle inFrame
  refine ⟨fun out => ?out, fun enabled state => ?noSession, fun enabled state => ?kept, fun enabled state => ?draining,
    fun enabled state => ?opened⟩
  case out =>
    rw [exec_stationDisable_out idle inFrame out, availabilityAnswer, bufferReply_ok, out]
    rcases (s.st i).recovery.disablePending <;> rfl
  case noSession =>
    rw [exec_stationDisable_enabled idle inFrame enabled, if_neg (by rw [sessionLive_iff, state]; simp),
      setAvailability_changed (by rw [enabled]; nofun), availabilityAnswer_upd, bufferReply_ok]
    rcases (s.st i).recovery.disablePending <;> rfl
  case kept =>
    have live : (s.st i).session.state ≠ .none := by rcases state with e | e <;> rw [e] <;> nofun
    rw [exec_stationDisable_live idle inFrame enabled live, takeReason_pends (by rw [st_updRecovery]; exact state), keepReason,
      State.updSession, State.updRecovery, upd_upd, availabilityAnswer_upd, bufferReply_ok]
    simp only [enabled]
    rfl
  case draining =>
    rw [exec_stationDisable_live idle inFrame enabled (by rw [state]; nofun),
      takeReason_draining (by rw [st_updRecovery]; exact state), State.updRecovery, availabilityAnswer_upd, bufferReply_ok]
    simp only [enabled]
    rfl
  case opened =>
    have here := st_updRecovery s i fun r => { r with disablePending := true }
    have queue : ((s.updRecovery i fun r => { r with disablePending := true }).st i).queue = (s.st i).queue := by rw [here]
    have answer := exec_stationDisable_live idle inFrame enabled (by rw [state]; nofun)
    rw [takeReason_opened (by rw [here]; exact state), availabilityAnswer, bufferReply_ok] at answer
    refine ⟨_, _, _, answer, (updRecovery_local i _ s).trans (goDraining_local i .disabled _), fun charged => ?_,
      fun left => ?_⟩
    · obtain ⟨session, recovery, -⟩ := goDraining_charged_session .disabled (by rw [queue]; exact charged)
      rw [session, recovery, here]
      refine ⟨?_, rfl, rfl, rfl⟩
      dsimp only
      rw [enabled]
      rfl
    · obtain ⟨session, recovery⟩ := goDraining_closes_session .disabled (by rw [queue]; exact left)
      rw [session, recovery, here]
      exact ⟨rfl, rfl, rfl, rfl⟩

end

end Sys2Proof.Machine
end

section
/-!
PROOFS. FINISH and the idle timer's expiry (sections 2.4 to 2.6), and a pick that comes between the drain and the close.
-/

namespace Sys2Proof.Machine

section
variable {i : StationId} {s : State}

/-! ## Activity and a pick raised (R32, R63) -/

/-- A station with a running idle timer reloaded. -/
def reloaded (full : Nat) (x : Station) : Station := { x with idleTimer := x.idleTimer.map fun _ => full }

theorem activity_eq (i : StationId) (s : State) : activity i s = s.upd i (reloaded s.idleFull) := rfl

/-- A station at which a pick is about to be evaluated: any older request has ended. -/
def asked (full : Nat) (x : Station) : Station := judged full { reloaded full x with request := .idle }

theorem setRequest_activity (i : StationId) (s : State) : setRequest i .idle (activity i s) = s.upd i (asked s.idleFull) := by
  rw [setRequest, syncIdle_eq, activity_eq, upd_upd, upd_upd]
  rfl

/-- A station whose latch takes the answer to serial `n`. -/
def lineAnswered (n : Nat) (v : Verdict) (x : Station) : Station :=
  { x with line := { x.line with latch := answerLatch n v x.line.latch } }

theorem answerLine_eq (i : StationId) (n : Nat) (v : Verdict) (s : State) : answerLine i n v s = s.upd i (lineAnswered n v) := rfl

/-- A pick raised that the evaluation stops. -/
theorem pickRaised_stop {n : Nat} {p : SheetSpec} {r : StopReason}
    (stops : evaluate i p (s.upd i (asked s.idleFull)) = (.stop r, s.upd i (asked s.idleFull))) :
    pickRaised i n p s = s.upd i fun x => lineAnswered n (.stop r) (asked s.idleFull x) := by
  rw [pickRaised, setRequest_activity, stops]
  exact (answerLine_eq ..).trans (upd_upd ..)

/-- A station at which a pick raised is stopped at once. -/
def pickRefused (full : Nat) (r : StopReason) (x : Station) : Station :=
  { asked full x with line := { x.line with latch := .answeredStop r, serial := nextSerial x.line } }

/-- A pick raised at a present station with an IDLE latch, stopped. -/
theorem pickAt_stop {p : SheetSpec} {r : StopReason} (present : (s.st i).line.present = true) (latch : (s.st i).line.latch = .idle)
    (stops : ∀ f : Station → Station, (f (s.st i)).session = (s.st i).session → (f (s.st i)).hold = (s.st i).hold →
      evaluate i p (s.upd i f) = (.stop r, s.upd i f)) :
    pickAt i p s = s.upd i (pickRefused s.idleFull r) := by
  unfold pickAt
  dsimp only
  rw [if_pos ⟨present, latch⟩, pickRaised_stop (by rw [State.updLine, upd_upd]; exact stops _ rfl rfl), State.updLine, upd_upd]
  refine upd_congr ?_
  simp [pickRefused, lineAnswered, asked, judged, reloaded, raiseLatch, answerLatch, idleAfter, idleEligible]

/-! ## An idle expiry that does not apply (R32) -/

theorem exec_idleExpiry (inFrame : s.inFrame i = true) : exec (.idleExpiry i) s = .next (idleExpires i s) :=
  congrArg Host.Outcome.next (if_pos inFrame)

theorem exec_finish (inFrame : s.inFrame i = true) : exec (.finish i) s = .next (deliver i .finish s) :=
  congrArg Host.Outcome.next (if_pos inFrame)

theorem idleExpires_not (h : (s.st i).idleTimer ≠ some 0 ∨ (s.st i).session.state ≠ .opened) : idleExpires i s = s :=
  if_neg fun both => h.elim (fun no => no both.1) fun no => no both.2

theorem idleExpires_opened (expired : (s.st i).idleTimer = some 0) (state : (s.st i).session.state = .opened) :
    idleExpires i s = drainAmidActivity i .idle s := if_pos ⟨expired, state⟩

/-- With nothing on the tape of the gaps the drain is followed by the close at once. -/
theorem drainAmidActivity_quiet {r : CloseReason} (quiet : s.meanwhile = []) : drainAmidActivity i r s = goDraining i r s := by
  rw [drainAmidActivity, startDraining_eq, takeGap_nil _ _ (show (s.upd i _).meanwhile = [] from quiet), goDraining,
    startDraining_eq]

/-! ## A pick between the drain and the close (R32, R118) -/

theorem popMeanwhile_cons {e : List Meanwhile} {more : List (List Meanwhile)} (tape : s.meanwhile = e :: more) :
    s.popMeanwhile = (e, { s with meanwhile := more }) := by
  rw [State.popMeanwhile, tape]

/-- A gap that holds one event, which it admits. -/
theorem takeGap_one {admits : Meanwhile → Bool} {take : Meanwhile → State → State} {e : Meanwhile}
    {more : List (List Meanwhile)} (tape : s.meanwhile = [e] :: more) (admitted : admits e = true) :
    takeGap admits take s = take e { s with meanwhile := more } := by
  rw [takeGap, popMeanwhile_cons tape]
  dsimp only
  rw [List.filter_cons_of_pos admitted, List.filter_nil]
  rfl

/-- A gap that holds one pick at the station. -/
theorem takeGap_pick {p : SheetSpec} {more : List (List Meanwhile)} (inFrame : s.inFrame i = true)
    (tape : s.meanwhile = [.pick i p] :: more) :
    takeGap (activityAt i) takeActivity s = pickAt i p { s with meanwhile := more } :=
  (takeGap_one tape (beq_self_eq_true i)).trans (if_pos inFrame)

/-- The station after a drain amid a pick, before the close is judged. -/
theorem drainedAmidPick {p : SheetSpec} {more : List (List Meanwhile)} (inFrame : s.inFrame i = true)
    (tape : s.meanwhile = [.pick i p] :: more) (present : (s.st i).line.present = true) (latch : (s.st i).line.latch = .idle)
    (idle : (s.st i).request = .idle) (r : CloseReason) :
    takeGap (activityAt i) takeActivity (startDraining i r s) =
      { s with meanwhile := more }.upd i fun x => pickRefused s.idleFull .closing (drainEntered r x) := by
  have entered : startDraining i r s = s.upd i (drainEntered r) := by
    rw [startDraining_eq]
    exact upd_congr (drained_idle idle)
  have here : ({ s.upd i (drainEntered r) with meanwhile := more }).st i = drainEntered r (s.st i) := st_upd_self s i _
  rw [entered, takeGap_pick (by exact inFrame) (by exact tape),
    pickAt_stop (r := .closing) (by rw [here]; exact present) (by rw [here]; exact latch)
      fun f session _ => evaluate_draining (by rw [st_upd_self, session, here]; rfl)]
  exact upd_upd { s with meanwhile := more } i (drainEntered r) (pickRefused s.idleFull .closing)

theorem closeStep_meanwhile (i : StationId) (reason : CloseReason) (cancel : CancelCause) (s : State) :
    (closeStep i reason cancel s).meanwhile = s.meanwhile := by
  rw [closeStep_form, stopWhenEmpty_rest]
  show (closeWorld i reason s).meanwhile = _
  have settled : ∀ n t, (payerSettled (s.st i).session n t).meanwhile = t.meanwhile := fun n t => by
    unfold payerSettled settleAccount
    split
    · split <;> rfl
    · rfl
    · rfl
  have cent : (closingCent i s).2.2.meanwhile = s.meanwhile := by
    rcases closingCent_world i s with ⟨_, _, -, -, -, e⟩ | ⟨e, -⟩ <;> rw [e] <;> rfl
  rw [closeWorld, appendRecord_eq]
  exact (settled _ _).trans cent

theorem drainAmidActivity_pick {p : SheetSpec} {more : List (List Meanwhile)} (inFrame : s.inFrame i = true)
    (tape : s.meanwhile = [.pick i p] :: more) (present : (s.st i).line.present = true) (latch : (s.st i).line.latch = .idle)
    (idle : (s.st i).request = .idle) (r : CloseReason) (t : State) (ends : drainAmidActivity i r s = t) :
    (t.st i).line.latch = .answeredStop .closing ∧ (t.st i).line.serial = ((s.st i).line.serial + 1) % 256 ∧
      (t.st i).request = .idle ∧ t.meanwhile = more ∧ (t.st i).queue = (s.st i).queue ∧
      ((∀ e ∈ (s.st i).queue, e.kind ≠ .charged) → (t.st i).session = Session.ended (s.st i).session.number) := by
  subst ends
  rw [drainAmidActivity, drainedAmidPick inFrame tape present latch idle]
  have here : ({ s with meanwhile := more }.upd i fun x => pickRefused s.idleFull .closing (drainEntered r x)).st i =
      pickRefused s.idleFull .closing (drainEntered r (s.st i)) := st_upd_self ..
  by_cases charged : ∃ e ∈ (s.st i).queue, e.kind = .charged
  · rw [drainCheck_charged (by rw [here]; exact charged), here]
    refine ⟨rfl, rfl, rfl, rfl, rfl, fun left => ?_⟩
    obtain ⟨e, mem, kind⟩ := charged
    exact absurd kind (left e mem)
  · have left : ∀ e ∈ (s.st i).queue, e.kind ≠ .charged := fun e mem kind => charged ⟨e, mem, kind⟩
    rw [drainCheck_closes (r := r) (by rw [here]; rfl) (by rw [here]; rfl) (by rw [here]; exact left) (by rw [here]; rfl),
      closeStep_meanwhile, closeStep_st, here, closedAt_rest]
    exact ⟨rfl, rfl, rfl, rfl, rfl, fun _ => rfl⟩

/-! ## The two ends (R32, R34) -/

/-- A drain with no pick waiting. -/
theorem goDraining_idle (r : CloseReason) (idle : (s.st i).request = .idle) : goDraining i r s = drainCheck i (s.upd i (drainEntered r)) := by
  rw [goDraining, startDraining_eq]
  exact congrArg _ (upd_congr (drained_idle idle))

/-- FINISH at an OPEN session, and an idle expiry that nothing comes after, are the drain with the reason. -/
theorem exec_ends {c : Instr} {reason : CloseReason} (inFrame : s.inFrame i = true)
    (which : (c, reason) = (.finish i, .finish) ∨
      ((c, reason) = (.idleExpiry i, .idle) ∧ (s.st i).idleTimer = some 0 ∧ s.meanwhile = []))
    (state : (s.st i).session.state = .opened) (idle : (s.st i).request = .idle) :
    exec c s = .next (drainCheck i (s.upd i (drainEntered reason))) := by
  rcases which with e | ⟨e, expired, quiet⟩ <;> obtain ⟨rfl, rfl⟩ := Prod.mk.inj e
  · rw [exec_finish inFrame, deliver]
    rw [takeReason_opened (by rw [activity_eq, st_upd_self]; exact state),
      goDraining_idle _ (by rw [activity_eq, st_upd_self]; exact idle), activity_eq, upd_upd]
    rfl
  · rw [exec_idleExpiry inFrame, idleExpires_opened expired state, drainAmidActivity_quiet quiet, goDraining_idle _ idle]

/-- FINISH without an OPEN session reloads a running idle timer, and is a close reason by the session's state. -/
theorem exec_finish_reason (inFrame : s.inFrame i = true) :
    exec (.finish i) s = .next (takeReason i .finish (s.upd i (reloaded s.idleFull))) := exec_finish inFrame

theorem takeReason_noSession {r : CloseReason} (state : (s.st i).session.state = .none) : takeReason i r s = s := by
  rw [takeReason, state]

section
variable (reason : CloseReason)

/-- The part with the session of station `i` in DRAINING, no pick waiting. -/
def State.draining (s : State) (i : StationId) (reason : CloseReason) : State := s.upd i (drainEntered reason)

theorem draining_st (s : State) (i : StationId) : (s.draining i reason).st i = drainEntered reason (s.st i) := st_upd_self ..

theorem closingCent_draining (idle : (s.st i).request = .idle) :
    (closingCent i (s.draining i reason)).1 = (closingCent i s).1 ∧
    (closingCent i (s.draining i reason)).2.1 = (closingCent i s).2.1 := by
  have same : s.draining i reason = s.upd i (drained s.idleFull reason) := upd_congr (drained_idle idle).symm
  rw [same]
  exact closingCent_drained reason

theorem lastSession_draining : LastSession (s.draining i reason) i ↔ LastSession s i := by
  refine and_congr Iff.rfl (forall_congr' fun j => imp_congr_right fun ne => ?_)
  rw [State.draining, st_upd_ne _ _ ne]

/-- The close after the drain. -/
def closeAfterDrain (i : StationId) (reason : CloseReason) (s : State) : State :=
  closeStep i reason .closed (s.draining i reason)

theorem closeAfterDrain_st (idle : (s.st i).request = .idle) : (closeAfterDrain i reason s).st i =
    closedAt .closed (closingCent i s).2.1 (closingCent i s).1 (drainEntered reason (s.st i)) := by
  obtain ⟨cent, spent⟩ := closingCent_draining reason idle
  rw [closeAfterDrain, closeStep_st, cent, spent, draining_st]

theorem closeAfterDrain_journal {payer : Payer} (idle : (s.st i).request = .idle) (paid : (s.st i).session.payer = some payer) :
    (closeAfterDrain i reason s).journal = s.journal.appended
      (closeRecord s i (s.st i).session payer reason (closingCent i s).1 (closingCent i s).2.1) := by
  obtain ⟨cent, spent⟩ := closingCent_draining reason idle
  have here := closeStep_journal (i := i) (reason := reason) (cancel := .closed) (s := s.draining i reason) (payer := payer)
    (by rw [draining_st]; exact paid)
  rw [cent, spent, draining_st] at here
  exact here

theorem closeStep_flag (i : StationId) (reason : CloseReason) (cancel : CancelCause) (s : State) :
    (closeStep i reason cancel s).host.journalFlag =
      (s.host.journalFlag || ((closeStep i reason cancel s).journal.level != s.journal.level)) := by
  have host := closeStep_host i reason cancel s
  generalize closeStep i reason cancel s = t at host ⊢
  rw [host]

theorem closeAfterDrain_flag (s : State) : (closeAfterDrain i reason s).host.journalFlag =
    (s.host.journalFlag || ((closeAfterDrain i reason s).journal.level != s.journal.level)) := by
  have host : (s.draining i reason).host = s.host := upd_host ..
  have journal : (s.draining i reason).journal = s.journal := upd_journal ..
  rw [closeAfterDrain, closeStep_flag, host, journal]

theorem closeAfterDrain_op (s : State) : (LastSession s i → (closeAfterDrain i reason s).host.op = .stopped) ∧
    (¬ LastSession s i → (closeAfterDrain i reason s).host.op = s.host.op) := by
  have op := closeStep_op i reason .closed (s.draining i reason)
  rw [lastSession_draining, ← closeAfterDrain] at op
  exact op

theorem closeAfterDrain_account {n : Nat} {a : Account} (idle : (s.st i).request = .idle)
    (paid : (s.st i).session.payer = some (.account n)) (found : findAccount s.accounts n = some a) :
    (closeAfterDrain i reason s).cards = s.cards ∧
    findAccount (closeAfterDrain i reason s).accounts n = some { a with
      balance := a.balance - (if (closingCent i s).1 = .posted then 1 else 0), openSessions := a.openSessions - 1
      lifetimeSpend := (a.lifetimeSpend + (closingCent i s).2.1) % 1000000000, lastUse := s.journal.clock } ∧
    ∀ m, m ≠ n → findAccount (closeAfterDrain i reason s).accounts m = findAccount s.accounts m := by
  obtain ⟨cent, spent⟩ := closingCent_draining reason idle
  have here := closeStep_account (i := i) (reason := reason) (cancel := .closed) (s := s.draining i reason) (n := n) (a := a)
    (by rw [draining_st]; exact paid) found
  rw [cent, spent] at here
  exact here

theorem closeAfterDrain_card {t : Token} (paid : (s.st i).session.payer = some (.card t)) :
    (closeAfterDrain i reason s).accounts = s.accounts ∧ (closeAfterDrain i reason s).cards = s.cards :=
  closeStep_card (s := s.draining i reason) (by rw [draining_st]; exact paid)

theorem closeAfterDrain_standIn {t : Token} (idle : (s.st i).request = .idle)
    (paid : (s.st i).session.payer = some (.standIn t)) :
    (closeAfterDrain i reason s).accounts = s.accounts ∧ (closeAfterDrain i reason s).cards =
      { s.cards with standIn := settleStandIn t (closingCent i s).2.1 s.cards.standIn } := by
  obtain ⟨-, spent⟩ := closingCent_draining reason idle
  have here := closeStep_standIn (i := i) (reason := reason) (cancel := .closed) (s := s.draining i reason) (t := t)
    (by rw [draining_st]; exact paid)
  rw [spent] at here
  exact here

theorem closeAfterDrain_entry {t : Token} (idle : (s.st i).request = .idle) (paid : (s.st i).session.payer = some (.card t)) :
    (∀ e, (s.st i).auth = some e → e.kind = .increment →
      EntryCancelled (s.st i) ((closeAfterDrain i reason s).st i) e.reference .closed) ∧
    ((s.st i).auth = none → ((closeAfterDrain i reason s).st i).auth = none ∧
      ((closeAfterDrain i reason s).st i).cond.authCancel = (s.st i).cond.authCancel) := by
  obtain ⟨-, -, request, cancelled⟩ := closedAt_cond .closed (closingCent i s).2.1 (closingCent i s).1
    (drainEntered reason (s.st i))
  have auth : (closedAt .closed (closingCent i s).2.1 (closingCent i s).1 (drainEntered reason (s.st i))).auth =
      (payerEntry .closed (drainEntered reason (s.st i))).auth := by rw [closedAt_rest]
  rw [closeAfterDrain_st reason idle]
  refine ⟨fun e held kind => ?_, fun none => ?_⟩
  · have parts := entryRemoved_cancelled (x := drainEntered reason (s.st i)) (e := e) held .closed
    rw [← payerEntry_increment (x := drainEntered reason (s.st i)) paid held kind] at parts
    unfold EntryCancelled at parts ⊢
    rw [auth, request, cancelled]
    exact parts
  · rw [auth, cancelled, payerEntry_none (x := drainEntered reason (s.st i)) none]
    exact ⟨none, rfl⟩

end

/-- Settles O58: each end is the drain with its reason, which ends in DRAINING or in the close; without an OPEN session the state
decides. -/
theorem finishAndIdleCloseSessions : Obligations.FinishAndIdleCloseSessions := by
  refine ⟨fun i s inFrame => ⟨fun not => ?notExpired, fun p more expired state present latch idle tape => ?amidPick⟩,
    fun i s c reason inFrame which => ?ends⟩
  case notExpired => rw [exec_idleExpiry inFrame, idleExpires_not not]
  case amidPick =>
    refine ⟨_, (exec_idleExpiry inFrame).trans (congrArg _ (idleExpires_opened expired state)), ?_⟩
    exact drainAmidActivity_pick inFrame tape present latch idle .idle _ rfl
  case ends =>
    intro x
    refine ⟨fun state finish => ?unaffected, fun state finish => ?pends, fun state idle charged => ?drains,
      fun payer state idle left paid => ?closes⟩
    case unaffected =>
      subst finish
      obtain rfl : c = .finish i := by
        rcases which with e | ⟨e, -⟩ <;> cases e
        rfl
      rw [exec_finish_reason inFrame]
      refine congrArg _ ?_
      rcases state with e | e
      · exact takeReason_noSession (by rw [st_upd_self]; exact e)
      · exact takeReason_draining (by rw [st_upd_self]; exact e)
    case pends =>
      subst finish
      obtain rfl : c = .finish i := by
        rcases which with e | ⟨e, -⟩ <;> cases e
        rfl
      rw [exec_finish_reason inFrame, takeReason_pends (by rw [st_upd_self]; exact state), keepReason, State.updSession, upd_upd]
      rfl
    case drains =>
      rw [exec_ends inFrame which state idle, drainCheck_charged (by rw [st_upd_self]; exact charged)]
      rfl
    case closes =>
      have ends := exec_ends inFrame which state idle
      rw [drainCheck_closes (r := reason) (by rw [st_upd_self]; rfl) (by rw [st_upd_self]; rfl)
        (by rw [st_upd_self]; exact left) (by rw [st_upd_self]; exact idle), ← State.draining, ← closeAfterDrain] at ends
      have journal := closeAfterDrain_journal reason idle paid
      obtain ⟨last, notLast⟩ := closeAfterDrain_op (i := i) reason s
      have here := closeAfterDrain_st reason idle
      refine ⟨_, (closingCent i s).1, (closingCent i s).2.1, ends, (upd_local i _ s).trans (closeStep_local i _ _ _),
        closingCent_final i s, congrArg JournalUnit.records journal, congrArg JournalUnit.nextNumber journal,
        congrArg JournalUnit.level journal, closeAfterDrain_flag reason s, last, notLast, ?_, ?_, ?_, ?_, fun present room => ?_,
        fun present full none noDisable => ?_, fun absent => ?_, fun n a account found _ => ?_, fun k card => ?_,
        fun k before e after standIn entries token others => ?_⟩
      · rw [here, closedAt_rest]; rfl
      · rw [here, closedAt_rest]
      · rw [here, closedAt_rest]; rfl
      · rw [here, closedAt_rest]; rfl
      · rw [here]; exact closedAt_down_room (by exact present) (by exact room)
      · rw [here]
        exact closedAt_full (x := drainEntered reason (s.st i)) present full none noDisable
      · rw [here, closedAt_line_absent (by exact absent)]
        exact ⟨rfl, closedAt_anomalies_absent (by exact absent)⟩
      · exact closeAfterDrain_account reason idle (account ▸ paid) found
      · obtain ⟨accounts, cards⟩ := closeAfterDrain_card reason (card ▸ paid)
        exact ⟨accounts, cards, closeAfterDrain_entry reason idle (card ▸ paid)⟩
      · obtain ⟨accounts, cards⟩ := closeAfterDrain_standIn reason idle (standIn ▸ paid)
        rw [entries, settleStandIn_one token others] at cards
        exact ⟨accounts, cards⟩

end

end Sys2Proof.Machine
end

section
/-!
PROOFS. What a station's events leave as it was: of every account record its state and its maximum of sessions, which requests alone
change (chapter 6), and of every station its presence and its codes, which arrivals alone change (sections 1.2 and 1.3).
-/

namespace Sys2Proof.Machine

/-- The fields of a record that a request alone changes. -/
def accountTerms (a : Account) : Bool × Nat := (a.frozen, a.maxSessions)

/-- What arrivals alone change of a line. -/
def lineFixed (l : StationLine) : Bool × Nat × Option Code × Option Code := (l.present, l.contrary, l.confirmed, l.candidate)

/-- The conditions of a line's states and of the anomalies. -/
def condFixed (c : Conditions) : Option LineState × Option LineState × Nat := (c.lineFirst, c.lineLatest, c.anomalies)

/-- A station keeps its presence and its codes; a line state told is the one that it has, and no condition is lost. -/
structure StationLasts (x y : Station) : Prop where
  line : lineFixed y.line = lineFixed x.line
  told : y.cond.lineLatest = x.cond.lineLatest ∨ y.cond.lineLatest = some (lineState x.line)
  first : x.cond.lineFirst ≠ none → y.cond.lineFirst ≠ none
  anomalies : min 255 x.cond.anomalies ≤ min 255 y.cond.anomalies

theorem StationLasts.plain {x y : Station} (line : lineFixed y.line = lineFixed x.line) (cond : condFixed y.cond = condFixed x.cond) :
    StationLasts x y := by
  simp only [condFixed, Prod.mk.injEq] at cond
  obtain ⟨first, latest, anomalies⟩ := cond
  exact ⟨line, .inl latest, by rw [first]; exact id, by rw [anomalies]⟩

theorem StationLasts.refl (x : Station) : StationLasts x x := .plain rfl rfl

theorem lineState_fixed {l m : StationLine} (fixed : lineFixed m = lineFixed l) : lineState m = lineState l := by
  simp only [lineFixed, Prod.mk.injEq] at fixed
  obtain ⟨present, -, confirmed, -⟩ := fixed
  unfold lineState
  rw [present, confirmed]

theorem StationLasts.trans {x y z : Station} (h : StationLasts x y) (k : StationLasts y z) : StationLasts x z where
  line := k.line.trans h.line
  told := by
    rcases k.told with same | told
    · rw [same]
      exact h.told
    · rw [told, lineState_fixed h.line]
      exact .inr rfl
  first := k.first ∘ h.first
  anomalies := h.anomalies.trans k.anomalies

/-- Every stored record stays stored, with its state and its maximum of sessions, and none is added; every station lasts, and no
slot passes. -/
structure Lasting (s t : State) : Prop where
  terms : ∀ n, (findAccount t.accounts n).map accountTerms = (findAccount s.accounts n).map accountTerms
  stations : ∀ j, StationLasts (s.st j) (t.st j)
  slot : t.slot = s.slot

theorem Lasting.refl (s : State) : Lasting s s := ⟨fun _ => rfl, fun _ => .refl _, rfl⟩

theorem Lasting.trans {s t u : State} (h : Lasting s t) (k : Lasting t u) : Lasting s u :=
  ⟨fun n => (k.terms n).trans (h.terms n), fun j => (h.stations j).trans (k.stations j), k.slot.trans h.slot⟩

theorem stationLasts_of_stations {s t : State} (h : t.stations = s.stations) (j : StationId) : StationLasts (s.st j) (t.st j) := by
  rw [State.st, State.st, h]
  exact .refl _

theorem Lasting.same {s t : State} (accounts : t.accounts = s.accounts) (stations : t.stations = s.stations)
    (slot : t.slot = s.slot) : Lasting s t :=
  ⟨fun n => by rw [accounts], stationLasts_of_stations stations, slot⟩

theorem stationLasts_upd {s : State} {i : StationId} {f : Station → Station} (keeps : StationLasts (s.st i) (f (s.st i)))
    (j : StationId) : StationLasts (s.st j) ((s.upd i f).st j) := by
  by_cases e : j = i
  · rw [e, st_upd_self]
    exact keeps
  · rw [st_upd_ne _ _ e]
    exact .refl _

/-- An update of a station that lasts. -/
theorem Lasting.upd {s : State} {i : StationId} {f : Station → Station} (keeps : StationLasts (s.st i) (f (s.st i))) :
    Lasting s (s.upd i f) := ⟨fun _ => rfl, stationLasts_upd keeps, rfl⟩

theorem oneAnomaly_lasts (k : AnomalyKind) (x : Station) : StationLasts x { x with cond := oneAnomaly k x.cond } :=
  ⟨rfl, .inl rfl, id, by
    show min 255 x.cond.anomalies ≤ min 255 (min 255 (x.cond.anomalies + 1))
    omega⟩

theorem stationRaised_lasts (x : Station) : StationLasts x (stationRaised x) := ⟨rfl, .inr rfl, fun _ => nofun, le_refl _⟩

theorem offered_lasts (m : DownMsg) (x : Station) : StationLasts x (offered m x) := by
  unfold offered
  split
  · exact .refl x
  · split
    · exact .plain rfl rfl
    · split
      · exact .plain rfl rfl
      · exact oneAnomaly_lasts _ x

theorem recoveryTold_lasts (x : Station) : StationLasts x (recoveryTold x) := by
  unfold recoveryTold
  dsimp only
  split
  · refine StationLasts.trans ?_ (stationRaised_lasts _)
    exact .plain rfl rfl
  · exact .plain rfl rfl

theorem closedAt_lasts (cancel : CancelCause) (spent : Nat) (cent : ClosingCent) (x : Station) :
    StationLasts x (closedAt cancel spent cent x) := by
  have entry : StationLasts x (payerEntry cancel x) := by
    rw [payerEntry_rest]
    exact .plain rfl rfl
  refine (entry.trans ?_).trans (recoveryTold_lasts _)
  refine StationLasts.trans ?_ (offered_lasts _ _)
  exact .plain rfl rfl

/-- What keeps everything may come before. -/
theorem Lasting.after {s t u : State} (k : Lasting t u) (h : Lasting s t) : Lasting s u := h.trans k

/-- A stored record with other figures takes its own place. -/
theorem putAccount_lasting {s : State} {n : Nat} {a b : Account} (found : findAccount s.accounts n = some a)
    (number : b.number = a.number) (terms : accountTerms b = accountTerms a) : Lasting s (putAccount b s) := by
  refine ⟨fun m => ?_, stationLasts_of_stations rfl, rfl⟩
  obtain ⟨same, others⟩ := findAccount_put (number.trans (findAccount_number found)) s
  by_cases e : m = n
  · rw [e, same, found, Option.map_some, Option.map_some, terms]
  · rw [others m e]

section
variable {i : StationId} {s : State}

theorem syncIdle_lasting : Lasting s (syncIdle i s) := .upd (.plain rfl rfl)

theorem updSession_lasting (f : Session → Session) : Lasting s (s.updSession i f) := .upd (.plain rfl rfl)

theorem updMeters_lasting (f : Meters → Meters) : Lasting s (s.updMeters i f) := .upd (.plain rfl rfl)

theorem updCond_lasting {f : Conditions → Conditions} (keeps : ∀ c, condFixed (f c) = condFixed c) : Lasting s (s.updCond i f) :=
  .upd (.plain rfl (keeps _))

theorem updRecovery_lasting (f : Recovery → Recovery) : Lasting s (s.updRecovery i f) := .upd (.plain rfl rfl)

theorem updLine_lasting {f : StationLine → StationLine} (keeps : ∀ l, lineFixed (f l) = lineFixed l) : Lasting s (s.updLine i f) :=
  .upd (.plain (keeps _) rfl)

theorem raiseSession_lasting (s : State) : Lasting s (raiseSession i s) := updCond_lasting fun _ => rfl

theorem setSession_lasting (f : Session → Session) : Lasting s (setSession i f s) :=
  ((updSession_lasting f).trans (raiseSession_lasting _)).trans syncIdle_lasting

theorem setQueue_lasting (q : List InFlight) : Lasting s (setQueue i q s) :=
  Lasting.trans (t := s.upd i fun x => { x with queue := q }) (.upd (.plain rfl rfl)) syncIdle_lasting

theorem setHold_lasting (h : HoldState) : Lasting s (setHold i h s) :=
  Lasting.trans (t := s.upd i fun x => { x with hold := h }) (.upd (.plain rfl rfl)) syncIdle_lasting

theorem setRequest_lasting (r : RequestState) : Lasting s (setRequest i r s) :=
  Lasting.trans (t := s.upd i fun x => { x with request := r }) (.upd (.plain rfl rfl)) syncIdle_lasting

theorem answerLine_lasting (n : Nat) (v : Verdict) : Lasting s (answerLine i n v s) := updLine_lasting fun _ => rfl

theorem activity_lasting : Lasting s (activity i s) := .upd (.plain rfl rfl)

theorem offer_lasting (m : DownMsg) : Lasting s (offer i m s) := by
  rw [offer_eq]
  exact .upd (offered_lasts m _)

theorem offerShow_lasting : Lasting s (offerShow i s) := offer_lasting _

theorem removeEntry_lasting (c : Option CancelCause) : Lasting s (removeEntry i c s) := by
  rw [removeEntry_eq]
  exact .upd (by rw [entryRemoved_rest]; exact .plain rfl rfl)

theorem makeEntry_lasting (k : AuthKind) (a : Nat) : Lasting s (makeEntry i k a s) := by
  unfold makeEntry raiseAuthRequest
  dsimp only
  refine Lasting.trans ?_ (updCond_lasting fun _ => rfl)
  exact Lasting.trans (t := s.updCards _) (.same rfl rfl rfl) (.upd (.plain rfl rfl))

theorem stopWhenEmpty_lasting (s : State) : Lasting s (stopWhenEmpty s) := by
  rw [stopWhenEmpty_rest]
  exact .same rfl rfl rfl

theorem sessionEnded_lasting : Lasting s (sessionEnded i s) := by
  rw [sessionEnded_eq]
  exact .upd (recoveryTold_lasts _)

/-! ## Charges and credits -/

theorem debit_lasting {n amount : Nat} {t : State} (h : debit n amount s = some t) : Lasting s t := by
  obtain ⟨a, found, -, rfl⟩ := debit_spec h
  exact putAccount_lasting found rfl rfl

theorem fundsCheck_lasting {x : Session} {d : Nat} {t : State} (h : fundsCheck x d s = some t) : Lasting s t := by
  simp only [fundsCheck] at h
  split at h
  · exact debit_lasting h
  · split at h
    · cases h; exact .refl _
    · cases h
  · split at h
    · cases h; exact .refl _
    · cases h
  · cases h

theorem chargeSheet_lasting (p : SheetSpec) : Lasting s (chargeSheet i p s).2 := by
  simp only [chargeSheet]
  split
  · exact .refl s
  · exact .refl s
  · split
    · exact .refl s
    · next h => exact (fundsCheck_lasting h).trans (updSession_lasting _)

theorem creditAccount_lasting (n a : Nat) : Lasting s (creditAccount i n a s) := by
  simp only [creditAccount]
  split
  · exact .refl s
  · next b found =>
    split
    · exact putAccount_lasting found rfl rfl
    · exact (putAccount_lasting (b := { b with balance := Config.balanceTop }) found rfl rfl).trans (updSession_lasting _)

theorem creditSheet_lasting (e : InFlight) : Lasting s (creditSheet i e s) := by
  simp only [creditSheet]
  split
  · split
    · exact (creditAccount_lasting _ _).after (updSession_lasting _)
    · exact updSession_lasting _
  · exact .refl s

/-! ## Picks -/

theorem askIncrement_lasting : Lasting s (askIncrement i s).2 := by
  simp only [askIncrement]
  split
  · split
    · exact makeEntry_lasting _ _
    · split <;> exact .refl s
  · exact .refl s

theorem afterGo_lasting : Lasting s (afterGo i s) := by
  simp only [afterGo]
  split
  · exact makeEntry_lasting _ _
  · exact .refl s

theorem pushEntry_lasting (k : EntryKind) (n c : Nat) (p : SheetSpec) : Lasting s (pushEntry i k n c p s) := by
  unfold pushEntry
  exact (setQueue_lasting _).trans (updMeters_lasting _)

theorem grantCharged_lasting (n c : Nat) (p : SheetSpec) : Lasting s (grantCharged i n c p s) := by
  have granted : Lasting s (offerShow i (pushEntry i .charged n c p s)) := (pushEntry_lasting ..).trans offerShow_lasting
  simp only [grantCharged]
  split
  · exact granted.trans afterGo_lasting
  · exact granted

theorem answerShort_lasting : Lasting s (answerShort i s).2 := by
  have h : Lasting s (askIncrement i s).2 := askIncrement_lasting
  simp only [answerShort]
  split
  · split <;> rename_i e <;> rw [e] at h <;> exact h
  · exact .refl s

theorem evaluateCharge_lasting (p : SheetSpec) : Lasting s (evaluateCharge i p s).2 := by
  have h := chargeSheet_lasting (i := i) (s := s) p
  simp only [evaluateCharge]
  split <;> rename_i e <;> rw [e] at h
  · exact h
  · exact h
  · exact h.trans (grantCharged_lasting _ _ p)
  · exact h.trans answerShort_lasting

theorem evaluate_lasting (p : SheetSpec) : Lasting s (evaluate i p s).2 := by
  rcases evaluate_cases i p s with ⟨same, -⟩ | ⟨-, -, free⟩ | ⟨-, -, -, charged⟩
  · rw [same]
    exact .refl s
  · rw [free]
    exact pushEntry_lasting ..
  · rw [charged]
    exact evaluateCharge_lasting p

theorem reevaluate_lasting : Lasting s (reevaluate i s) := by
  rcases reevaluate_cases i s with ⟨-, same⟩ | ⟨n, p, c, left, -, ⟨c', -, e⟩ | ⟨-, e⟩⟩
  · rw [same]
    exact .refl s
  · rw [e]
    exact (evaluate_lasting p).trans (setRequest_lasting _)
  · rw [e]
    exact ((evaluate_lasting p).trans (setRequest_lasting _)).trans (answerLine_lasting _ _)

theorem pickRaised_lasting (n : Nat) (p : SheetSpec) : Lasting s (pickRaised i n p s) := by
  have h : Lasting s (evaluate i p (setRequest i .idle (activity i s))).2 :=
    (evaluate_lasting p).after (activity_lasting.trans (setRequest_lasting _))
  simp only [pickRaised]
  split <;> rename_i e <;> rw [e] at h
  · exact (h.trans (setRequest_lasting _)).trans (answerLine_lasting _ _)
  · exact h.trans (answerLine_lasting _ _)

theorem pickWithdrawn_lasting (n : Nat) : Lasting s (pickWithdrawn i n s) := by
  simp only [pickWithdrawn]
  split
  · split
    · exact setRequest_lasting _
    · exact .refl s
  · exact .refl s

/-! ## Sessions -/

theorem closingCent_lasting : Lasting s (closingCent i s).2.2 := by
  rcases closingCent_world i s with ⟨n, a, -, found, -, e⟩ | ⟨e, -⟩ <;> rw [e]
  · exact putAccount_lasting found rfl rfl
  · exact .refl s

theorem payerSettled_lasting (x : Session) (n : Nat) (s : State) : Lasting s (payerSettled x n s) := by
  unfold payerSettled settleAccount
  split
  · split
    · exact .refl s
    · next found => exact putAccount_lasting found rfl rfl
  · exact .same rfl rfl rfl
  · exact .refl s

theorem closeStep_lasting (r : CloseReason) (c : CancelCause) : Lasting s (closeStep i r c s) :=
  ⟨fun n => by
    rw [(closeStep_accounts_cards i r c s).1]
    exact (closingCent_lasting.trans (payerSettled_lasting (s.st i).session (closingCent i s).2.1 _)).terms n,
  fun j => by
    by_cases e : j = i
    · rw [e, closeStep_st]
      exact closedAt_lasts ..
    · rw [(closeStep_local i r c s).others j e]
      exact .refl _,
  (closeStep_local i r c s).slot⟩

theorem drainCheck_lasting : Lasting s (drainCheck i s) := by
  simp only [drainCheck]
  split
  · split
    · exact (closeStep_lasting _ _).trans reevaluate_lasting
    · exact .refl s
  · exact .refl s

theorem startDraining_lasting (r : CloseReason) : Lasting s (startDraining i r s) := (setSession_lasting _).trans reevaluate_lasting

theorem goDraining_lasting (r : CloseReason) : Lasting s (goDraining i r s) := (startDraining_lasting r).trans drainCheck_lasting

theorem takeReason_lasting (r : CloseReason) : Lasting s (takeReason i r s) := by
  simp only [takeReason]
  split
  · exact .refl s
  · exact updSession_lasting _
  · exact goDraining_lasting r
  · exact .refl s
  · exact updSession_lasting _

theorem stallUnlessHeld_lasting : Lasting s (stallUnlessHeld i s) := by
  simp only [stallUnlessHeld]
  split
  · rw [stallSession_eq]
    exact .upd (by rw [stalledAt_rest]; exact .plain rfl rfl)
  · exact .refl s

theorem sessionOpened_lasting (k : PayerKind) (a : Nat) : Lasting s (sessionOpened i k a s) := by
  have opened : Lasting s (reevaluate i (offer i (.opened k a)
      (s.updSession i fun x => { x with openTime := some s.journal.clock }))) :=
    ((offer_lasting _).trans reevaluate_lasting).after (updSession_lasting _)
  simp only [sessionOpened]
  split <;> split
  · exact (opened.trans stallUnlessHeld_lasting).trans (goDraining_lasting _)
  · exact opened.trans (goDraining_lasting _)
  · exact opened.trans stallUnlessHeld_lasting
  · exact opened

theorem abandonAuthorizing_lasting (r : Option RefusedReason) : Lasting s (abandonAuthorizing i r s) := by
  simp only [abandonAuthorizing]
  refine Lasting.trans (Lasting.trans ?_ sessionEnded_lasting) (stopWhenEmpty_lasting _)
  cases r
  · exact setSession_lasting _
  · exact (setSession_lasting _).trans (offer_lasting _)

theorem openAccount_lasting {n : Nat} {a : Account} {r : Range} (found : findAccount s.accounts n = some a) :
    Lasting s (openAccount i a r s) := by
  have counted : Lasting s (putAccount { a with openSessions := a.openSessions + 1 } s) := putAccount_lasting found rfl rfl
  unfold openAccount
  have numbered := fun u : State => Lasting.same (s := u) (t := (takeNumber u).2) rfl rfl rfl
  exact (((sessionOpened_lasting _ _).after (setSession_lasting _)).after (numbered _)).after counted

theorem openByAccount_lasting (n : Nat) : Lasting s (openByAccount i n s) := by
  simp only [openByAccount]
  split
  · exact offer_lasting _
  · split
    · exact offer_lasting _
    · next a r check => exact openAccount_lasting (openingAccountCheck_found check)

theorem grantStandIn_lasting (t : Token) : Lasting s (grantStandIn i t s) := by
  simp only [grantStandIn]
  exact ((sessionOpened_lasting _ _).after (setSession_lasting _)).after (.same rfl rfl rfl)

theorem decideStandIn_lasting : Lasting s (decideStandIn i s) := by
  simp only [decideStandIn]
  split
  · split
    · exact grantStandIn_lasting _
    · exact (abandonAuthorizing_lasting _).trans reevaluate_lasting
  · exact .refl s

theorem openByCard_lasting (t : Token) (c : CardClass) : Lasting s (openByCard i t c s) := by
  have numbered := fun u : State => Lasting.same (s := u) (t := (takeNumber u).2) rfl rfl rfl
  simp only [openByCard, startAuthorizing]
  split
  · exact offer_lasting _
  · split
    · exact ((reevaluate_lasting.after (setSession_lasting _)).after (numbered s)).trans (makeEntry_lasting _ _)
    · exact ((reevaluate_lasting.after (setSession_lasting _)).after (numbered s)).trans decideStandIn_lasting

theorem deliver_lasting (m : UpMessage) : Lasting s (deliver i m s) := by
  cases m <;> simp only [deliver]
  · split
    · exact activity_lasting.trans (offer_lasting _)
    · exact activity_lasting.trans (openByCard_lasting _ _)
  · split
    · exact activity_lasting.trans (offer_lasting _)
    · exact activity_lasting.trans (openByAccount_lasting _)
  · exact activity_lasting.trans (takeReason_lasting _)

/-! ## The paper path -/

theorem changeHold_lasting (b : Bool) (h : HoldState) : Lasting s (changeHold b i h s) := by
  have held : Lasting s (setHold i h s) := setHold_lasting h
  simp only [changeHold]
  split
  · exact (held.trans stallUnlessHeld_lasting).trans reevaluate_lasting
  · exact held.trans reevaluate_lasting

theorem holdWhenEmpty_lasting (b : Bool) : Lasting s (holdWhenEmpty b i s) := by
  simp only [holdWhenEmpty]
  split
  · split
    · exact changeHold_lasting b _
    · exact changeHold_lasting b _
    · exact .refl s
    · exact .refl s
  · exact .refl s

theorem afterRemoval_lasting (b c : Bool) : Lasting s (afterRemoval b c i s) := by
  simp only [afterRemoval]
  split
  · exact (drainCheck_lasting.trans (holdWhenEmpty_lasting b)).trans reevaluate_lasting
  · exact (holdWhenEmpty_lasting b).trans reevaluate_lasting

theorem raiseAnomaly_lasting (k : AnomalyKind) : Lasting s (raiseAnomaly i k s) := by
  rw [raiseAnomaly, State.updCond]
  exact .upd (oneAnomaly_lasts k _)

theorem unchargedExit_lasting : Lasting s (unchargedExit i s) := by
  refine Lasting.trans ?_ (raiseAnomaly_lasting _)
  exact .upd (.plain rfl rfl)

theorem exitOne_lasting : Lasting s (exitOne i s) := by
  simp only [exitOne]
  split
  · exact unchargedExit_lasting
  · exact ((afterRemoval_lasting _ _).after (setQueue_lasting _)).after (updMeters_lasting _)

theorem takeBack_lasting (e : InFlight) (rest : List InFlight) : Lasting s (takeBack i e rest s) := by
  simp only [takeBack]
  split
  · exact (((creditSheet_lasting e).after (setQueue_lasting _)).after (updMeters_lasting _)).trans offerShow_lasting
  · exact (setQueue_lasting _).after (updMeters_lasting _)

theorem overdueOne_lasting : Lasting s (overdueOne i s) := by
  simp only [overdueOne]
  split
  · exact .refl s
  · exact (afterRemoval_lasting _ _).after ((takeBack_lasting _ _).trans (raiseAnomaly_lasting _))

theorem choose_lasting (s : State) : Lasting s s.choose.2 := by
  simp only [State.choose]
  split <;> exact .same rfl rfl rfl

theorem removalFirst_lasting (b : Bool) (s : State) : Lasting s (removalFirst b s).2 := by
  cases b
  · exact .refl s
  · exact choose_lasting s

theorem judgeHeads_lasting (b : Bool) (n : Nat) (s : State) : Lasting s (judgeHeads b i n s) := by
  induction n generalizing s with
  | zero => exact .refl s
  | succ n ih =>
    simp only [judgeHeads]
    split
    · split
      · exact ((removalFirst_lasting b s).trans overdueOne_lasting).trans (ih _)
      · exact removalFirst_lasting b s
    · exact .refl s

theorem exits_lasting (n : Nat) (s : State) : Lasting s (exits i n s) := by
  induction n generalizing s with
  | zero => exact .refl s
  | succ n ih => exact (exitOne_lasting.trans (judgeHeads_lasting _ _ _)).trans (ih _)

theorem exitsEvent_lasting (n : Nat) : Lasting s (exitsEvent i n s) := by
  unfold exitsEvent
  split
  · exact .refl s
  · exact activity_lasting.trans (exits_lasting n _)

/-! ## Activity in a gap -/

theorem pickAt_lasting (p : SheetSpec) : Lasting s (pickAt i p s) := by
  simp only [pickAt]
  split
  · exact (pickRaised_lasting _ p).after (updLine_lasting fun _ => rfl)
  · exact .refl s

theorem dropAt_lasting : Lasting s (dropAt i s) := by
  simp only [dropAt, withdrawRaised]
  split
  · split
    · exact (pickWithdrawn_lasting _).after (updLine_lasting fun _ => rfl)
    · exact updLine_lasting fun _ => rfl
  · exact .refl s

theorem atStation_lasting {f : State → State} (h : ∀ s, Lasting s (f s)) (s : State) : Lasting s (atStation i f s) := by
  unfold atStation
  split
  · exact h s
  · exact .refl s

end

theorem takeActivity_lasting (e : Meanwhile) (s : State) : Lasting s (takeActivity e s) := by
  cases e with
  | pick i p => exact atStation_lasting (fun _ => pickAt_lasting p) s
  | dropped i => exact atStation_lasting (fun _ => dropAt_lasting) s
  | exits i n =>
    refine atStation_lasting (f := fun t => if (t.st i).line.present then exitsEvent i n.val t else t) (fun t => ?_) s
    split
    · exact exitsEvent_lasting _
    · exact .refl t
  | message i m => exact atStation_lasting (fun _ => deliver_lasting m) s
  | _ => exact .refl s

theorem popMeanwhile_lasting (s : State) : Lasting s s.popMeanwhile.2 := by
  unfold State.popMeanwhile
  split <;> exact .same rfl rfl rfl

theorem takeGap_lasting (admits : Meanwhile → Bool) (s : State) : Lasting s (takeGap admits takeActivity s) := by
  have each : ∀ (es : List Meanwhile) (t : State), Lasting t (es.foldl (fun t e => takeActivity e t) t) := by
    intro es
    induction es with
    | nil => exact fun t => .refl t
    | cons e rest ih => exact fun t => (takeActivity_lasting e t).trans (ih _)
  exact (popMeanwhile_lasting s).trans (each _ _)

theorem drainAmidActivity_lasting (i : StationId) (r : CloseReason) (s : State) : Lasting s (drainAmidActivity i r s) :=
  ((startDraining_lasting r).trans (takeGap_lasting _ _)).trans drainCheck_lasting

theorem takeFrozen_lasting (i : StationId) (s : State) : Lasting s (takeFrozen i s) := by
  simp only [takeFrozen]
  split
  · exact drainAmidActivity_lasting i _ s
  · exact takeReason_lasting _

end Sys2Proof.Machine
end

section
/-!
PROOFS. The close reason FROZEN at the stations that pay from an account (section 6.4): what it does to each of them, ACCOUNT FREEZE
and ACCOUNT PUT.
-/

namespace Sys2Proof.Machine

/-! ## FROZEN at one station (R33, R114) -/

section
variable {i : StationId} {s : State}

theorem takeFrozen_reason (h : (s.st i).session.state ≠ .opened ∨ ∃ e ∈ (s.st i).queue, e.kind = .charged) :
    takeFrozen i s = takeReason i .frozen s := by
  refine if_neg fun ⟨opened, left⟩ => h.elim (fun no => no opened) fun charged => ?_
  rw [(holdsCharged_iff _).2 charged] at left
  cases left

theorem takeFrozen_amid (state : (s.st i).session.state = .opened) (left : ∀ e ∈ (s.st i).queue, e.kind ≠ .charged) :
    takeFrozen i s = drainAmidActivity i .frozen s :=
  if_pos ⟨state, by rw [(holdsCharged_false_iff _).2 left]; rfl⟩

/-- At a session that is not OPEN the reason is kept, or nothing changes. -/
theorem takeFrozen_notOpen (state : (s.st i).session.state ≠ .opened) :
    takeFrozen i s = s ∨ takeFrozen i s = keepReason i .frozen s := by
  rw [takeFrozen_reason (.inl state), takeReason]
  split
  · exact .inl rfl
  · exact .inr rfl
  · next opened => exact absurd opened state
  · exact .inl rfl
  · exact .inr rfl

theorem takeFrozen_draining (state : (s.st i).session.state = .draining) : takeFrozen i s = s := by
  rw [takeFrozen_reason (.inl (by rw [state]; nofun)), takeReason_draining state]

theorem takeFrozen_stalled (state : (s.st i).session.state = .stalled) : takeFrozen i s = keepReason i .frozen s := by
  rw [takeFrozen_reason (.inl (by rw [state]; nofun)), takeReason_pends (.inr state)]

theorem takeFrozen_charged (state : (s.st i).session.state = .opened) (charged : ∃ e ∈ (s.st i).queue, e.kind = .charged) :
    ((takeFrozen i s).st i).session = drainingSession .frozen (s.st i).session := by
  rw [takeFrozen_reason (.inr charged), takeReason_opened state]
  exact (goDraining_charged_session .frozen charged).1

theorem takeFrozen_closes (state : (s.st i).session.state = .opened) (left : ∀ e ∈ (s.st i).queue, e.kind ≠ .charged)
    (quiet : s.meanwhile = []) : ((takeFrozen i s).st i).session = Session.ended (s.st i).session.number := by
  rw [takeFrozen_amid state left, drainAmidActivity_quiet quiet]
  exact (goDraining_closes_session .frozen left).1

end

/-! ## FROZEN at one station after another -/

/-- The close reason FROZEN at each station of a list, in its order. -/
def sentFrozen (is : List StationId) (s : State) : State := is.foldl (fun t i => takeFrozen i t) s

theorem sentFrozen_append (before after : List StationId) (s : State) :
    sentFrozen (before ++ after) s = sentFrozen after (sentFrozen before s) := List.foldl_append

/-- A station that is not of the list is untouched. -/
theorem sentFrozen_others {is : List StationId} {i : StationId} (s : State) (other : i ∉ is) : (sentFrozen is s).st i = s.st i := by
  induction is generalizing s with
  | nil => rfl
  | cons j rest ih =>
    obtain ⟨ne, later⟩ := not_or.1 (mt List.mem_cons.2 other)
    exact (ih _ later).trans (takeFrozen_onlyAt j s i ne)

theorem sentFrozen_untouched (is : List StationId) {s : State} (quiet : s.meanwhile = []) : Untouched s (sentFrozen is s) := by
  induction is generalizing s with
  | nil => exact .refl s
  | cons i rest ih =>
    have first := (takeFrozen_local i quiet).toUntouched
    exact first.trans (ih (first.meanwhile.trans quiet))

theorem sentFrozen_lasting (is : List StationId) (s : State) : Lasting s (sentFrozen is s) := by
  induction is generalizing s with
  | nil => exact .refl s
  | cons i rest ih => exact (takeFrozen_lasting i s).trans (ih _)

/-- A station of the list is reached once, and found as it was. -/
theorem sentFrozen_at {is : List StationId} {i : StationId} (s : State) (once : is.Nodup) (mem : i ∈ is) :
    ∃ t, t.st i = s.st i ∧ (s.meanwhile = [] → t.meanwhile = []) ∧ (sentFrozen is s).st i = (takeFrozen i t).st i := by
  obtain ⟨before, after, rfl⟩ := List.append_of_mem mem
  obtain ⟨-, tail, apart⟩ := List.nodup_append.1 once
  have notBefore : i ∉ before := fun h => apart i h i List.mem_cons_self rfl
  have notAfter : i ∉ after := (List.nodup_cons.1 tail).1
  refine ⟨sentFrozen before s, sentFrozen_others s notBefore, fun quiet => ?_, ?_⟩
  · exact (sentFrozen_untouched before quiet).meanwhile.trans quiet
  · rw [sentFrozen_append]
    exact sentFrozen_others (takeFrozen i (sentFrozen before s)) notAfter

/-- With no OPEN session among them, the records stay as they are. -/
theorem sentFrozen_accounts {is : List StationId} {s : State} (once : is.Nodup)
    (notOpen : ∀ i ∈ is, (s.st i).session.state ≠ .opened) : (sentFrozen is s).accounts = s.accounts := by
  induction is generalizing s with
  | nil => rfl
  | cons i rest ih =>
    obtain ⟨apart, later⟩ := List.nodup_cons.1 once
    have first : (takeFrozen i s).accounts = s.accounts := by
      rcases takeFrozen_notOpen (notOpen i List.mem_cons_self) with e | e <;> rw [e]
      rfl
    refine (ih (s := takeFrozen i s) later fun j mem => ?_).trans first
    rw [takeFrozen_onlyAt i s j fun e => apart (e ▸ mem)]
    exact notOpen j (List.mem_cons_of_mem _ mem)

/-! ## The stations that pay from an account -/

theorem mem_payingStations {s : State} {n : Nat} {i : StationId} :
    i ∈ payingStations s n ↔ (s.st i).session.state ≠ .none ∧ (s.st i).session.payer = some (.account n) := by
  simp [payingStations, allStations, sessionLive_iff]

theorem payingStations_nodup (s : State) (n : Nat) : (payingStations s n).Nodup :=
  List.Nodup.filter _ (List.nodup_finRange _)

section
variable {s : State} {n : Nat}

theorem freezeSessions_eq (n : Nat) (s : State) : freezeSessions n s =
    sentFrozen (inOpenOrder (payingStations s n) s).1 (inOpenOrder (payingStations s n) s).2 := rfl

theorem mem_freezeOrder {i : StationId} : i ∈ (inOpenOrder (payingStations s n) s).1 ↔
    (s.st i).session.state ≠ .none ∧ (s.st i).session.payer = some (.account n) :=
  (inOpenOrder_perm _ s).mem_iff.trans mem_payingStations

theorem freezeOrder_nodup : (inOpenOrder (payingStations s n) s).1.Nodup :=
  (inOpenOrder_perm _ s).nodup_iff.2 (payingStations_nodup s n)

theorem freezeOrder_meanwhile {xs : List StationId} : (inOpenOrder xs s).2.meanwhile = s.meanwhile := by
  rw [inOpenOrder_state]

/-- FROZEN at the stations that pay from an account does what section 6.4 says, and nothing elsewhere. -/
theorem freezeSessions_sent (n : Nat) (s : State) : SessionsSentFrozen n s (freezeSessions n s) := by
  intro i
  rw [freezeSessions_eq]
  refine ⟨fun other => ?_, fun pays => ?_⟩
  · rw [sentFrozen_others _ fun mem => other (mem_freezeOrder.1 mem).2, inOpenOrder_st]
  · have reached : (s.st i).session.state ≠ .none → ∃ t, t.st i = s.st i ∧ (s.meanwhile = [] → t.meanwhile = []) ∧
        (sentFrozen (inOpenOrder (payingStations s n) s).1 (inOpenOrder (payingStations s n) s).2).st i =
          (takeFrozen i t).st i := fun live => by
      obtain ⟨t, here, quiet, result⟩ :=
        sentFrozen_at (inOpenOrder (payingStations s n) s).2 freezeOrder_nodup (mem_freezeOrder.2 ⟨live, pays⟩)
      rw [inOpenOrder_st] at here
      rw [freezeOrder_meanwhile] at quiet
      exact ⟨t, here, quiet, result⟩
    refine ⟨fun state => ?_, fun state => ?_, fun state charged => ?_, fun state left quiet => ?_⟩
    all_goals
      obtain ⟨t, here, empty, result⟩ := reached (by rw [state]; nofun)
      rw [result]
      rw [← here] at state
    · rw [takeFrozen_draining state, here]
    · rw [takeFrozen_stalled state, keepReason, State.updSession, st_upd_self, here]
    · rw [takeFrozen_charged state (by rw [here]; exact charged), here]
      rfl
    · rw [takeFrozen_closes state (by rw [here]; exact left) (empty quiet), here]

theorem freezeSessions_untouched (quiet : s.meanwhile = []) : Untouched s (freezeSessions n s) := by
  have ordered : Untouched s (inOpenOrder (payingStations s n) s).2 := by
    rw [inOpenOrder_state]
    exact ⟨rfl, rfl, rfl, rfl, rfl, rfl, rfl, .inl rfl, rfl, rfl, rfl⟩
  exact ordered.trans (sentFrozen_untouched _ (freezeOrder_meanwhile.trans quiet))

theorem freezeSessions_lasting : Lasting s (freezeSessions n s) := by
  refine Lasting.after (t := (inOpenOrder (payingStations s n) s).2) (sentFrozen_lasting _ _) ?_
  rw [inOpenOrder_state]
  exact .same rfl rfl rfl

theorem freezeSessions_accounts
    (notOpen : ∀ i, (s.st i).session.payer = some (.account n) → (s.st i).session.state ≠ .opened) :
    (freezeSessions n s).accounts = s.accounts := by
  rw [freezeSessions_eq, sentFrozen_accounts freezeOrder_nodup fun i mem => ?_, inOpenOrder_state]
  rw [inOpenOrder_st]
  exact notOpen i (mem_freezeOrder.1 mem).2

/-- The order of the sessions of an account that has one alone. -/
theorem freezeOrder_one {i : StationId} (live : (s.st i).session.state ≠ .none)
    (pays : (s.st i).session.payer = some (.account n)) (alone : ∀ j, j ≠ i → (s.st j).session.payer ≠ some (.account n)) :
    (inOpenOrder (payingStations s n) s).1 = [i] := by
  refine List.perm_singleton.1 ((List.perm_ext_iff_of_nodup freezeOrder_nodup (List.nodup_singleton i)).2 fun j => ?_)
  rw [mem_freezeOrder, List.mem_singleton]
  refine ⟨fun h => ?_, fun e => e ▸ ⟨live, pays⟩⟩
  by_contra ne
  exact alone j ne h.2

/-- The only station that pays is sent FROZEN alone. -/
theorem freezeSessions_one {i : StationId} (live : (s.st i).session.state ≠ .none)
    (pays : (s.st i).session.payer = some (.account n)) (alone : ∀ j, j ≠ i → (s.st j).session.payer ≠ some (.account n)) :
    ∃ t, t.st = s.st ∧ t.meanwhile = s.meanwhile ∧ t.host = s.host ∧ freezeSessions n s = takeFrozen i t := by
  refine ⟨(inOpenOrder (payingStations s n) s).2, ?_, freezeOrder_meanwhile, ?_, ?_⟩
  · funext j
    exact inOpenOrder_st _ s j
  · rw [inOpenOrder_state]
  · rw [freezeSessions_eq, freezeOrder_one live pays alone]
    rfl

end

end Sys2Proof.Machine
end

section
/-!
PROOFS. ACCOUNT FREEZE and ACCOUNT PUT (section 6.4).
-/

namespace Sys2Proof.Machine

section
variable {s : State} {a b : Account}

/-! ## A record that turns its account FROZEN -/

theorem putFreezing_turns {was : Bool} (active : was = false) (frozen : b.frozen = true) :
    putFreezing was b s = freezeSessions b.number (putAccount b s) := by
  rw [putFreezing, if_pos (by rw [active, frozen]; rfl)]

theorem putFreezing_keeps {was : Bool} (keeps : was = true ∨ b.frozen = false) : putFreezing was b s = putAccount b s := by
  rw [putFreezing, if_neg]
  rcases keeps with e | e <;> rw [e] <;> simp

/-- After FROZEN has reached its sessions, the record holds its state and its maximum of sessions. -/
theorem freezeSessions_record (b : Account) (s : State) :
    ∃ c, findAccount (freezeSessions b.number (putAccount b s)).accounts b.number = some c ∧ accountTerms c = accountTerms b := by
  have kept := (freezeSessions_lasting (s := putAccount b s) (n := b.number)).terms b.number
  rw [findAccount_putAccount_same, Option.map_some, Option.map_eq_some_iff] at kept
  exact kept

theorem freezeSessions_put_untouched {n : Nat} (b : Account) (quiet : s.meanwhile = []) :
    Untouched s (freezeSessions n (putAccount b s)) :=
  (putAccount_local 0 b s).toUntouched.trans (freezeSessions_untouched quiet)

theorem freezeSessions_put_sent (n : Nat) (b : Account) (s : State) :
    SessionsSentFrozen n s (freezeSessions n (putAccount b s)) := freezeSessions_sent n (putAccount b s)

end

/-! ## ACCOUNT FREEZE (R114) -/

section
variable {number : BitVec 24} {s : State} {a : Account}

theorem exec_accountFreeze (idle : lineIdle s) (nonzero : number.toNat ≠ 0)
    (found : findAccount s.accounts number.toNat = some a) : exec (.accountFreeze number) s = .next
      (bufferReply 0x13 (answerAccount number.toNat (if a.frozen then s else putFreezing false { a with frozen := true } s))) := by
  have taken : exec (.accountFreeze number) s = .next (bufferReply 0x13 (takeAccountFreeze number s)) :=
    exec_request_idle idle (.accountFreeze number)
  rw [taken, takeAccountFreeze, onStored_found nonzero found, findAccount_number found]

/-- FREEZE that a pick comes into: the only paying session, OPEN with no CHARGED entry, has it stopped CLOSING. -/
theorem freezeSessions_pick {n : Nat} {b : Account} {i : StationId} {p : SheetSpec} {more : List (List Meanwhile)}
    (pays : (s.st i).session.payer = some (.account n)) (state : (s.st i).session.state = .opened)
    (alone : ∀ j, j ≠ i → (s.st j).session.payer ≠ some (.account n)) (left : ∀ e ∈ (s.st i).queue, e.kind ≠ .charged)
    (inFrame : s.inFrame i = true) (present : (s.st i).line.present = true) (latch : (s.st i).line.latch = .idle)
    (idle : (s.st i).request = .idle) (tape : s.meanwhile = [.pick i p] :: more) (u : State)
    (ends : freezeSessions n (putAccount b s) = u) :
    (u.st i).line.latch = .answeredStop .closing ∧ (u.st i).line.serial = ((s.st i).line.serial + 1) % 256 ∧
      (u.st i).queue = (s.st i).queue ∧ u.meanwhile = more := by
  obtain ⟨t, st, meanwhile, host, result⟩ :=
    freezeSessions_one (s := putAccount b s) (n := n) (i := i) (by show (s.st i).session.state ≠ .none; rw [state]; nofun) pays alone
  have here : t.st i = s.st i := congrFun st i
  have frame : t.inFrame i = true := by
    rw [State.inFrame, State.frameSize, host]
    exact inFrame
  rw [result, takeFrozen_amid (by rw [here]; exact state) (by rw [here]; exact left)] at ends
  have parts := drainAmidActivity_pick frame (meanwhile.trans tape) (by rw [here]; exact present) (by rw [here]; exact latch)
    (by rw [here]; exact idle) .frozen u ends
  rw [here] at parts
  obtain ⟨stopped, serial, -, taken, queue, -⟩ := parts
  exact ⟨stopped, serial, queue, taken⟩

/-- Settles O32: a FROZEN account answers as it stands; an ACTIVE one has its record put and FROZEN reach its sessions. -/
theorem accountFreezeReachesItsSessions : Obligations.AccountFreezeReachesItsSessions := by
  intro number s a idle nonzero found
  have number_ : a.number = number.toNat := findAccount_number found
  have taken := exec_accountFreeze idle nonzero found
  refine ⟨fun frozen => ?same, fun active => ?turned⟩
  case same =>
    rw [if_pos frozen, answerAccount_found found, bufferReply_ok] at taken
    exact ⟨_, taken, bodyIs_accountBody _ _⟩
  case turned =>
    obtain ⟨c, stored, terms⟩ := freezeSessions_record { a with frozen := true } s
    rw [show ({ a with frozen := true } : Account).number = number.toNat from number_] at stored
    rw [if_neg (by simp [active]), putFreezing_turns rfl rfl,
      show ({ a with frozen := true } : Account).number = number.toNat from number_, answerAccount_found stored,
      bufferReply_ok] at taken
    exact ⟨_, _, taken, ⟨c, stored, congrArg Prod.fst terms, bodyIs_accountBody _ _⟩, freezeSessions_put_untouched _,
      freezeSessions_put_sent _ _ s, fun i p more pays state alone left inFrame present latch free tape =>
        freezeSessions_pick pays state alone left inFrame present latch free tape _ rfl⟩

end

/-! ## ACCOUNT PUT (R111, R112) -/

theorem putRecord_length {a : Account} {xs : List Account} (new : xs.find? (fun x => x.number == a.number) = none) :
    (putRecord a xs).length = xs.length + 1 := by
  induction xs with
  | nil => rfl
  | cons x rest ih =>
    have ne : a.number ≠ x.number := fun e => by
      rw [List.find?_cons_of_pos (by rw [e]; exact beq_self_eq_true _)] at new
      cases new
    have later : rest.find? (fun x => x.number == a.number) = none := by
      rwa [List.find?_cons_of_neg (by simpa using ne.symm)] at new
    unfold putRecord
    split
    · rfl
    · rw [List.length_cons, ih later, List.length_cons]

section
variable {number : BitVec 24} {balance : BitVec 32} {st max : Byte} {s : State} {a : Account}

theorem accountStateOf_bit (h : st.toNat ≤ 1) : accountStateOf st = some (decide (st = 1)) := by
  have cases_ : st = 0 ∨ st = 1 := by
    rcases Nat.le_one_iff_eq_zero_or_eq_one.1 h with e | e
    · exact .inl (BitVec.eq_of_toNat_eq e)
    · exact .inr (BitVec.eq_of_toNat_eq e)
  rcases cases_ with rfl | rfl <;> rfl

theorem accountStateOf_other (h : 1 < st.toNat) : accountStateOf st = none := by
  have zero : st ≠ 0 := fun e => by rw [e] at h; exact absurd h (by decide)
  have one : st ≠ 1 := fun e => by rw [e] at h; exact absurd h (by decide)
  rw [accountStateOf, if_neg zero, if_neg one]

theorem putInRange_iff {b : Int} {m : Byte} :
    putInRange b m = true ↔ 1 ≤ m.toNat ∧ m.toNat ≤ 4 ∧ -99999 ≤ b ∧ b ≤ 9999999 := by
  simp only [putInRange, Bool.and_eq_true, and_assoc]
  exact and_congr decide_eq_true_iff (and_congr decide_eq_true_iff (and_congr decide_eq_true_iff decide_eq_true_iff))

theorem exec_accountPut_bad (idle : lineIdle s) (bad : number.toNat = 0 ∨ 1 < st.toNat ∨ max.toNat = 0 ∨ 4 < max.toNat ∨
    balance.toInt < -99999 ∨ 9999999 < balance.toInt) :
    exec (.accountPut number balance st max) s = .next (s.replied 0x10 .range []) := by
  have taken : exec (.accountPut number balance st max) s = .next (bufferReply 0x10 (takeAccountPut number balance st max s)) :=
    exec_request_idle idle (.accountPut number balance st max)
  have refused : takeAccountPut number balance st max s = answerRefused .range s := by
    unfold takeAccountPut
    by_cases zero : number = 0
    · rw [if_pos zero]
    · rw [if_neg zero]
      have nonzero : number.toNat ≠ 0 := fun e => zero (BitVec.eq_of_toNat_eq e)
      by_cases other : 1 < st.toNat
      · rw [accountStateOf_other other]
      · rw [accountStateOf_bit (by omega)]
        dsimp only
        rw [if_neg]
        rw [putInRange_iff]
        omega
  rw [taken, refused, bufferReply_refused]

theorem exec_accountPut_good (idle : lineIdle s) (nonzero : number.toNat ≠ 0) (state : st.toNat ≤ 1) (least : 1 ≤ max.toNat)
    (most : max.toNat ≤ 4) (bottom : -99999 ≤ balance.toInt) (top : balance.toInt ≤ 9999999) :
    exec (.accountPut number balance st max) s = .next
      (bufferReply 0x10 (putChecked number.toNat balance.toInt (decide (st = 1)) max.toNat s)) := by
  have taken : exec (.accountPut number balance st max) s = .next (bufferReply 0x10 (takeAccountPut number balance st max s)) :=
    exec_request_idle idle (.accountPut number balance st max)
  rw [taken, takeAccountPut, if_neg (bitVec_ne_zero nonzero), accountStateOf_bit state]
  dsimp only
  rw [if_pos (putInRange_iff.2 ⟨least, most, bottom, top⟩)]

theorem putChecked_new {n : Nat} {b : Int} {frozen : Bool} {m : Nat} (new : findAccount s.accounts n = none) :
    putChecked n b frozen m s = if 2048 ≤ s.accounts.accounts.length then answerRefused .full s
      else if b < floorOf s.accounts.ranges n then answerRefused .range s
      else answerAccount n (putAccount ⟨n, b, frozen, m, 0, 0, s.journal.clock⟩ s) := by
  rw [putChecked, new]
  rfl

theorem putChecked_stored {n : Nat} {b : Int} {frozen : Bool} {m : Nat} (found : findAccount s.accounts n = some a) :
    putChecked n b frozen m s = if b < floorOf s.accounts.ranges n then answerRefused .range s
      else if m < a.openSessions then answerRefused .conflict s
      else answerAccount n (putFreezing a.frozen { a with balance := b, frozen := frozen, maxSessions := m } s) := by
  rw [putChecked, found]

/-- Settles O29: the values are checked first; a new record is created, and a stored one replaced with its sessions sent FROZEN where
it turns. -/
theorem accountPutStoresARecord : Obligations.AccountPutStoresARecord := by
  refine ⟨fun number balance st max s idle => ⟨fun bad => exec_accountPut_bad idle bad,
    fun nonzero state least most bottom top new => ?created⟩,
    fun number balance st max s a idle nonzero state least most bottom top found => ?stored⟩
  case created =>
    rw [exec_accountPut_good idle nonzero state least most bottom top, putChecked_new new]
    refine ⟨fun full => ?_, fun room low => ?_, fun room floor => ?_⟩
    · rw [if_pos full, bufferReply_refused]
    · rw [if_neg (by omega), if_pos low, bufferReply_refused]
    · rw [if_neg (by omega), if_neg (by omega), answerAccount_put (b := ⟨number.toNat, balance.toInt, _, _, 0, 0, _⟩) rfl,
        bufferReply_ok]
      exact ⟨_, _, rfl, findAccount_putAccount_same _ s, putRecord_length new,
        fun n other => findAccount_putAccount_other _ s other, bodyIs_accountBody _ _⟩
  case stored =>
    intro stored
    have number_ : stored.number = number.toNat := findAccount_number (a := a) found
    rw [exec_accountPut_good idle nonzero state least most bottom top, putChecked_stored found]
    refine ⟨fun low => ?_, fun floor few => ?_, fun floor enough keeps => ?_, fun floor enough active turns => ?_⟩
    · rw [if_pos low, bufferReply_refused]
    · rw [if_neg (by omega), if_pos few, bufferReply_refused]
    · have keeps_ : a.frozen = true ∨ stored.frozen = false := keeps.imp id fun zero => by
        have e : st = 0 := BitVec.eq_of_toNat_eq zero
        show decide (st = 1) = false
        rw [e]
        rfl
      rw [if_neg (by omega), if_neg (by omega), putFreezing_keeps keeps_, answerAccount_put number_, bufferReply_ok]
      obtain ⟨same, others⟩ := findAccount_put number_ s
      exact ⟨_, _, rfl, same, others, bodyIs_accountBody _ _⟩
    · have turned : stored.frozen = true := by
        have e : st = 1 := BitVec.eq_of_toNat_eq turns
        exact decide_eq_true e
      obtain ⟨c, found_, terms⟩ := freezeSessions_record stored s
      rw [number_] at found_
      rw [if_neg (by omega), if_neg (by omega), putFreezing_turns active turned, number_, answerAccount_found found_,
        bufferReply_ok]
      refine ⟨_, _, rfl, freezeSessions_put_untouched _, ⟨c, found_, (congrArg Prod.fst terms).trans turned,
        congrArg Prod.snd terms, bodyIs_accountBody _ _⟩, fun notOpen => ?_, freezeSessions_put_sent _ _ s⟩
      rw [freezeSessions_accounts (s := putAccount stored s) notOpen]
      exact (findAccount_put number_ s).1

end

end Sys2Proof.Machine
end

section
/-!
PROOFS. The pick wait timer and the two message limits run out (sections 1.7, 1.8 and 4.3).
-/

namespace Sys2Proof.Machine

section
variable {i : StationId} {s : State}

theorem exec_pickWaitExpiry (inFrame : s.inFrame i = true) : exec (.pickWaitExpiry i) s = .next (pickWaitExpires i s) :=
  congrArg Host.Outcome.next (if_pos inFrame)

theorem exec_receiveLimit (inFrame : s.inFrame i = true) : exec (.receiveLimit i) s = .next (receiveLimitAt i s) :=
  congrArg Host.Outcome.next (if_pos inFrame)

theorem exec_noAcknowledgement (inFrame : s.inFrame i = true) :
    exec (.noAcknowledgement i) s = .next (noAcknowledgementAt i s) :=
  congrArg Host.Outcome.next (if_pos inFrame)

theorem pickWaitExpires_idle (idle : (s.st i).request = .idle) : pickWaitExpires i s = s := by
  rw [pickWaitExpires, idle]

theorem pickWaitExpires_running {n : Nat} {p : SheetSpec} {c : WaitCause} {k : Nat} (waits : (s.st i).request = .waiting n p c k)
    (running : k ≠ 0) : pickWaitExpires i s = s := by
  obtain ⟨k, rfl⟩ := Nat.exists_eq_succ_of_ne_zero running
  rw [pickWaitExpires, waits]

theorem pickWaitExpires_zero {n : Nat} {p : SheetSpec} {c : WaitCause} (waits : (s.st i).request = .waiting n p c 0) :
    pickWaitExpires i s = s.upd i (answered s.idleFull n (.stop (expiryReason c))) := by
  rw [pickWaitExpires, waits]
  exact answerLine_setRequest ..

theorem answered_latch {full n : Nat} {v : Verdict} {x : Station} {l : Latch} (h : answerLatch n v x.line.latch = l) :
    answered full n v x = { x with
      request := .idle, idleTimer := (answered full n v x).idleTimer, line := { x.line with latch := l } } := by
  rw [← h]
  rfl

/-- A station left eligible by the end of its waiting pick has its idle timer running. -/
theorem answered_timer {full n : Nat} {v : Verdict} {x : Station} (eligible : idleEligible { x with request := .idle } = true) :
    (answered full n v x).idleTimer = some (x.idleTimer.getD full) := by
  show (judged full { x with request := .idle }).idleTimer = _
  rw [judged, idleAfter, eligible]
  rfl

theorem answerLatch_other {n : Nat} {v : Verdict} {l : Latch} (other : ∀ q w, l ≠ .raised n q w) : answerLatch n v l = l := by
  unfold answerLatch
  split
  · next held q w =>
    rw [if_neg fun e => other q w (by rw [e])]
  · rfl

theorem answerLatch_held {n : Nat} {v : Verdict} {q : SheetSpec} {w : Bool} :
    answerLatch n v (.raised n q w) = match v with
      | .go => .answeredGo
      | .wait _ => .raised n q true
      | .stop r => .answeredStop r := if_pos rfl

end

/-- Settles O53: each event where its condition holds, and that it changes nothing where it does not. -/
theorem timersAndLimitsOfAStationRunOut : Obligations.TimersAndLimitsOfAStationRunOut := by
  refine ⟨fun i s inFrame => ⟨fun idle => ?idle, fun n p c k waits running => ?running, fun n p c k waits zero => ?expired⟩,
    fun i s inFrame => ⟨fun idle => ?noReception, fun held quiet receiving => ?received, fun none => ?noByte,
      fun n waits => ?abandoned⟩⟩
  case idle => rw [exec_pickWaitExpiry inFrame, pickWaitExpires_idle idle]
  case running => rw [exec_pickWaitExpiry inFrame, pickWaitExpires_running waits running]
  case expired =>
    subst zero
    intro reason
    have same : reason = expiryReason c := by cases c <;> rfl
    rw [exec_pickWaitExpiry inFrame, pickWaitExpires_zero waits, same]
    refine ⟨_, rfl, fun state hold queue confirmed => ?_, fun q w latch => upd_congr ?_, fun other => upd_congr ?_⟩
    all_goals rw [st_upd_self]
    · exact answered_timer ((idleEligible_iff _).2 ⟨state, hold, queue, rfl, confirmed⟩)
    · exact answered_latch (by rw [latch, answerLatch_held])
    · exact answered_latch (answerLatch_other other)
  case noReception =>
    rw [exec_receiveLimit inFrame, receiveLimitAt, idle]
  case received =>
    rw [exec_receiveLimit inFrame, receiveLimitAt, receiving]
    dsimp only
    rw [applyLine_anomaly (l := { (s.st i).line with up := .idle, ackOwed := .abort }) rfl, raiseAnomaly, State.updLine,
      State.updCond, upd_upd]
    rfl
  case noByte =>
    rw [exec_noAcknowledgement inFrame, noAcknowledgementAt, if_neg (by rw [none]; nofun)]
  case abandoned =>
    rw [exec_noAcknowledgement inFrame, noAcknowledgementAt, if_pos (by rw [waits]; rfl)]
    rw [applyLine_anomaly rfl, raiseAnomaly, State.updLine, State.updCond, upd_upd]
    rfl

end Sys2Proof.Machine
end

section
/-!
PROOFS. SERVICE HOLD and SERVICE RELEASE (chapter 9), and the grant of a service sheet.
-/

namespace Sys2Proof.Machine

/-! ## A sheet granted (R65) -/

/-- A station whose queue takes an entry at its tail, the entry's impressions granted. -/
def pushed (full : Nat) (e : InFlight) (x : Station) : Station :=
  let y := judged full { x with queue := x.queue ++ [e] }
  { y with meters := { x.meters with granted := addMeter x.meters.granted e.impressions } }

section
variable {i : StationId} {s : State} {p : SheetSpec}

theorem pushEntry_eq (i : StationId) (k : EntryKind) (n c : Nat) (p : SheetSpec) (s : State) :
    pushEntry i k n c p s = s.upd i (pushed s.idleFull ⟨k, n, p.colour, p.media, c, 0, s.host.timers.transit⟩) := by
  simp only [pushEntry, setQueue, syncIdle_eq, State.updMeters, upd_upd]
  rfl

theorem grantService_eq (i : StationId) (p : SheetSpec) (s : State) :
    grantService i p s = s.upd i (pushed s.idleFull (sheetEntry s .service p 0)) := pushEntry_eq ..

/-- A station's queue is never empty after a grant, so its idle timer stands. -/
theorem pushed_rest (full : Nat) (e : InFlight) (x : Station) : pushed full e x = { x with
    queue := x.queue ++ [e], idleTimer := none
    meters := { x.meters with granted := (x.meters.granted + e.impressions) % 1000000000 } } := by
  have busy : idleEligible { x with queue := x.queue ++ [e] } = false := by
    rw [← Bool.not_eq_true, idleEligible_iff]
    exact fun h => List.append_ne_nil_of_right_ne_nil x.queue (by simp) h.2.2.1
  rw [pushed, judged_ineligible busy]
  rfl

/-- The hold that serves free grants a service sheet (R64, R165). -/
theorem evaluate_free (session : (s.st i).session.state = .none ∨ (s.st i).session.state = .authorizing ∨
      (s.st i).session.state = .opened) (hold : servesFree (s.st i).hold = true) (sides : p.sides = 1 ∨ p.sides = 2)
    (room : (s.st i).queue.length < 8) :
    evaluate i p s = (.go, s.upd i (pushed s.idleFull (sheetEntry s .service p 0))) := by
  have notRequested : (s.st i).hold ≠ .requested := fun e => by rw [e] at hold; cases hold
  have sided : ¬ (p.sides = 0 ∨ p.sides = 3) := by rcases sides with e | e <;> rw [e] <;> decide
  have notStalled : (s.st i).session.state ≠ .stalled := by rcases session with e | e | e <;> rw [e] <;> nofun
  have notDraining : (s.st i).session.state ≠ .draining := by rcases session with e | e | e <;> rw [e] <;> nofun
  unfold evaluate
  dsimp only
  rw [if_neg (by rw [hold]; simp), if_neg notStalled, if_neg notDraining, if_neg notRequested, if_neg sided,
    if_neg (show ¬ Config.inFlightRoom ≤ _ from Nat.not_le.2 room), if_pos hold, grantService_eq]

/-- A waiting pick that the evaluation answers GO. -/
theorem reevaluate_go {n : Nat} {c : WaitCause} {k : Nat} {g : Station → Station} (waits : (s.st i).request = .waiting n p c k)
    (go : evaluate i p s = (.go, s.upd i g)) : reevaluate i s = s.upd i fun x => answered s.idleFull n .go (g x) := by
  unfold reevaluate
  rw [waits]
  dsimp only
  rw [go]
  exact (answerLine_setRequest ..).trans (upd_upd ..)

/-- What an evaluation that charges nothing can change of a station. -/
def FreelyAnswered (x y : Station) : Prop := y = { x with
  request := y.request, idleTimer := y.idleTimer, queue := y.queue, line := { x.line with latch := y.line.latch }
  meters := { x.meters with granted := y.meters.granted } }

/-- A waiting pick evaluated again, where nothing can be charged. -/
theorem reevaluate_free (free : ¬ ((s.st i).session.state = .opened ∧ (s.st i).hold = .none)) :
    ∃ g, reevaluate i s = s.upd i g ∧ FreelyAnswered (s.st i) (g (s.st i)) := by
  have evaluated : ∀ p, ∃ g, (evaluate i p s).2 = s.upd i g ∧ FreelyAnswered (s.st i) (g (s.st i)) := fun p => by
    rcases evaluate_cases i p s with ⟨same, -⟩ | ⟨-, -, granted⟩ | ⟨-, state, hold, -⟩
    · exact ⟨id, same.trans (upd_id s i rfl).symm, rfl⟩
    · rw [granted, grantService_eq]
      refine ⟨_, rfl, ?_⟩
      rw [FreelyAnswered, pushed_rest]
    · exact absurd ⟨state, hold⟩ free
  rcases reevaluate_cases i s with ⟨-, same⟩ | ⟨n, p, c, left, -, ⟨c', -, e⟩ | ⟨-, e⟩⟩
  · exact ⟨id, same.trans (upd_id s i rfl).symm, rfl⟩
  all_goals
    obtain ⟨g, result, parts⟩ := evaluated p
    rw [e, result]
    unfold FreelyAnswered at parts
  · simp only [setRequest, syncIdle_eq, upd_upd]
    refine ⟨_, rfl, ?_⟩
    rw [parts]
    rfl
  · rw [answerLine_setRequest, upd_upd]
    refine ⟨_, rfl, ?_⟩
    rw [parts]
    rfl

/-- A waiting pick evaluated again, where nothing can be charged, leaves the session. -/
theorem reevaluate_free_session (free : ¬ ((s.st i).session.state = .opened ∧ (s.st i).hold = .none)) :
    ((reevaluate i s).st i).session = (s.st i).session := by
  obtain ⟨g, result, parts⟩ := reevaluate_free free
  rw [result, st_upd_self, parts]

/-! ## A change of hold (R162) -/

/-- A station whose hold has changed, its idle timer judged. -/
def holdSet (full : Nat) (h : HoldState) (x : Station) : Station := judged full { x with hold := h }

theorem setHold_eq (i : StationId) (h : HoldState) (s : State) : setHold i h s = s.upd i (holdSet s.idleFull h) := by
  rw [setHold, syncIdle_eq, upd_upd]
  rfl

/-- A change of hold that stalls no session. -/
theorem changeHold_plain {b : Bool} {h : HoldState} (plain : h ≠ .none ∨ (s.st i).recovery.stoppage = none ∨ b = true) :
    changeHold b i h s = reevaluate i (s.upd i (holdSet s.idleFull h)) := by
  unfold changeHold
  dsimp only
  rw [setHold_eq, st_upd_self, if_neg]
  rintro ⟨none, stopped, notRecovering⟩
  rcases plain with e | e | e
  · exact e none
  · rw [show (holdSet s.idleFull h (s.st i)).recovery.stoppage = _ from e] at stopped
    cases stopped
  · rw [e] at notRecovering
    cases notRecovering

/-- A release to NONE with the stoppage condition set. -/
theorem changeHold_stopped (stopped : (s.st i).recovery.stoppage ≠ none) :
    changeHold false i .none s = reevaluate i (stallUnlessHeld i (s.upd i (holdSet s.idleFull .none))) := by
  unfold changeHold
  dsimp only
  rw [setHold_eq, st_upd_self, if_pos ⟨rfl, Option.isSome_iff_ne_none.2 stopped, rfl⟩]

/-- A release to NONE with the stoppage condition set stalls a session that is OPEN or DRAINING, and a waiting pick ends. -/
theorem changeHold_stalls (stopped : (s.st i).recovery.stoppage ≠ none)
    (session : (s.st i).session.state = .opened ∨ (s.st i).session.state = .draining) : changeHold false i .none s =
      s.upd i fun x => stalledAt s.idleFull (minutes s.host.timers.stall) (holdSet s.idleFull .none x) := by
  have stalls : stallsAt ((s.upd i (holdSet s.idleFull .none)).st i) = true := by
    rw [st_upd_self, stallsAt, Bool.and_eq_true]
    exact ⟨(canStall_iff _).2 session, rfl⟩
  rw [changeHold_stopped stopped, stallUnlessHeld_stalls stalls, stallSession_eq, upd_upd,
    reevaluate_idle (by rw [st_upd_self, stalledAt_rest])]
  rfl

/-- With no pick waiting a change of hold leaves the queue and the entry of the change. -/
theorem changeHold_idle (idle : (s.st i).request = .idle) (h : HoldState) :
    ((changeHold false i h s).st i).hold = h ∧ ((changeHold false i h s).st i).queue = (s.st i).queue ∧
      (h ≠ .none ∨ (s.st i).recovery.stoppage = none → ((changeHold false i h s).st i).session = (s.st i).session) := by
  by_cases plain : h ≠ .none ∨ (s.st i).recovery.stoppage = none
  · rw [changeHold_plain (plain.imp_right .inl), reevaluate_idle (by rw [st_upd_self]; exact idle), st_upd_self]
    exact ⟨rfl, rfl, fun _ => rfl⟩
  · obtain ⟨none, stopped⟩ := not_or.1 plain
    obtain rfl := not_not.1 none
    refine ⟨?_, ?_, fun no => absurd no plain⟩ <;> rw [changeHold_stopped stopped]
    all_goals
      by_cases stalls : stallsAt ((s.upd i (holdSet s.idleFull .none)).st i) = true
      · rw [stallUnlessHeld_stalls stalls, stallSession_eq, upd_upd, reevaluate_idle (by rw [st_upd_self, stalledAt_rest]),
          st_upd_self, stalledAt_rest]
        rfl
      · rw [stallUnlessHeld_not (Bool.eq_false_iff.2 stalls), reevaluate_idle (by rw [st_upd_self]; exact idle), st_upd_self]
        rfl

/-! ## The reply (R169) -/

/-- A hold state's number on the line (spec/11 section 11.8). -/
def holdNumber (h : HoldState) : Nat := (holdValue h).toNat

/-- The fields of the reply of both requests. -/
def holdFields (i : StationId) (x : Station) : List (Nat × Nat) :=
  [(1, i.val), (1, holdNumber x.hold), (1, x.queue.length), (1, (x.queue.filter fun e => e.kind == .charged).length)]

/-- The bytes of the reply of both requests. -/
def holdBytes (i : StationId) (x : Station) : List Byte :=
  [stationByte i, holdValue x.hold] ++ beBytes 1 x.queue.length ++ beBytes 1 (chargedCount x.queue)

theorem bodyIs_holdBytes (i : StationId) (x : Station) : bodyIs (holdBytes i x) (holdFields i x) := by
  refine bodyIs_of_bytes ?_
  have hold : beBytes 1 (holdNumber x.hold) = [holdValue x.hold] := beBytes_one_toNat _
  simp only [holdFields, holdBytes, stationByte, List.flatMap_cons, List.flatMap_nil, hold, beBytes_one,
    List.cons_append, List.nil_append, List.append_nil, chargedCount]

/-- What SERVICE HOLD makes of the part. -/
def serviceHeld (i : StationId) (s : State) : State :=
  match (s.st i).hold with
  | .none => changeHold false i (if (s.st i).queue.isEmpty then .held else .requested) s
  | .requested => s
  | .held => s
  | .releasing => s

/-- What SERVICE RELEASE makes of the part. -/
def serviceReleased (i : StationId) (s : State) : State :=
  match (s.st i).hold with
  | .held => changeHold false i (if (s.st i).queue.isEmpty then .none else .releasing) s
  | .requested => changeHold false i .none s
  | .none => s
  | .releasing => s

theorem bufferReply_holdAnswer (kind : Byte) (u : State) :
    bufferReply kind (holdAnswer i u) = u.replied kind .ok (holdBytes i (u.st i)) := rfl

theorem exec_serviceHold (idle : lineIdle s) (inFrame : s.inFrame i = true) : exec (.serviceHold (stationByte i)) s =
    .next ((serviceHeld i s).replied 0x2C .ok (holdBytes i ((serviceHeld i s).st i))) := by
  have taken : exec (.serviceHold (stationByte i)) s = .next (bufferReply 0x2C (takeServiceHold (stationByte i) s)) :=
    exec_request_idle idle (.serviceHold (stationByte i))
  rw [taken, takeServiceHold, onStation_stationByte inFrame, ← bufferReply_holdAnswer, serviceHeld]
  cases (s.st i).hold <;> rfl

theorem exec_serviceRelease (idle : lineIdle s) (inFrame : s.inFrame i = true) : exec (.serviceRelease (stationByte i)) s =
    .next ((serviceReleased i s).replied 0x2D .ok (holdBytes i ((serviceReleased i s).st i))) := by
  have taken : exec (.serviceRelease (stationByte i)) s = .next (bufferReply 0x2D (takeServiceRelease (stationByte i) s)) :=
    exec_request_idle idle (.serviceRelease (stationByte i))
  rw [taken, takeServiceRelease, onStation_stationByte inFrame, ← bufferReply_holdAnswer, serviceReleased]
  cases (s.st i).hold <;> rfl

theorem serviceHeld_local (i : StationId) (s : State) : LocalTo i s (serviceHeld i s) := by
  unfold serviceHeld
  split
  · exact changeHold_local false i _ s
  all_goals exact .refl i s

theorem serviceReleased_local (i : StationId) (s : State) : LocalTo i s (serviceReleased i s) := by
  unfold serviceReleased
  split
  · exact changeHold_local false i _ s
  · exact changeHold_local false i _ s
  all_goals exact .refl i s

/-! ### Each hold state -/

theorem serviceHeld_taken (hold : (s.st i).hold = .none) :
    serviceHeld i s = changeHold false i (if (s.st i).queue.isEmpty then .held else .requested) s := by
  rw [serviceHeld, hold]

theorem serviceHeld_same (hold : (s.st i).hold ≠ .none) : serviceHeld i s = s := by
  unfold serviceHeld
  split
  · next e => exact absurd e hold
  all_goals rfl

theorem serviceReleased_held (hold : (s.st i).hold = .held) :
    serviceReleased i s = changeHold false i (if (s.st i).queue.isEmpty then .none else .releasing) s := by
  rw [serviceReleased, hold]

theorem serviceReleased_requested (hold : (s.st i).hold = .requested) : serviceReleased i s = changeHold false i .none s := by
  rw [serviceReleased, hold]

theorem serviceReleased_same (hold : (s.st i).hold = .none ∨ (s.st i).hold = .releasing) : serviceReleased i s = s := by
  rcases hold with e | e <;> rw [serviceReleased, e]

/-- The reply of a station whose hold and queue are known. -/
theorem bodyIs_holdBytes_of {x y : Station} {h : HoldState} (hold : y.hold = h) (queue : y.queue = x.queue) :
    bodyIs (holdBytes i y) [(1, i.val), (1, holdNumber h), (1, x.queue.length),
      (1, (x.queue.filter fun e => e.kind == .charged).length)] := by
  have body := bodyIs_holdBytes i y
  rw [holdFields, hold, queue] at body
  exact body

/-! ### With no pick waiting -/

theorem serviceHeld_idle (idle : (s.st i).request = .idle) :
    ((serviceHeld i s).st i).queue = (s.st i).queue ∧ ((serviceHeld i s).st i).session = (s.st i).session := by
  by_cases hold : (s.st i).hold = .none
  · rw [serviceHeld_taken hold]
    obtain ⟨-, queue, session⟩ := changeHold_idle idle (if (s.st i).queue.isEmpty then .held else .requested)
    exact ⟨queue, session (.inl (by split <;> nofun))⟩
  · rw [serviceHeld_same hold]
    exact ⟨rfl, rfl⟩

theorem serviceReleased_idle (idle : (s.st i).request = .idle) :
    ((serviceReleased i s).st i).queue = (s.st i).queue ∧
      ((s.st i).recovery.stoppage = none → ((serviceReleased i s).st i).session = (s.st i).session) := by
  rcases hold : (s.st i).hold
  · rw [serviceReleased_same (.inl hold)]
    exact ⟨rfl, fun _ => rfl⟩
  · rw [serviceReleased_requested hold]
    obtain ⟨-, queue, session⟩ := changeHold_idle idle .none
    exact ⟨queue, fun clear => session (.inr clear)⟩
  · rw [serviceReleased_held hold]
    obtain ⟨-, queue, session⟩ := changeHold_idle idle (if (s.st i).queue.isEmpty then .none else .releasing)
    exact ⟨queue, fun clear => session (.inr clear)⟩
  · rw [serviceReleased_same (.inr hold)]
    exact ⟨rfl, fun _ => rfl⟩

/-! ### With a pick waiting -/

/-- A hold taken over a queue stops a waiting pick of an OPEN session HOLD. -/
theorem changeHold_requested (state : (s.st i).session.state = .opened) : changeHold false i .requested s =
    s.upd i fun x => pickStopped s.idleFull .hold (holdSet s.idleFull .requested x) := by
  rw [changeHold_plain (.inl (by decide)), reevaluate_stopped fun p => evaluate_requested (by rw [st_upd_self]; exact state)
    (by rw [st_upd_self]; rfl), upd_upd]
  rfl

/-- A hold taken on an empty queue grants a waiting pick of an OPEN session as a service sheet. -/
theorem changeHold_held {n : Nat} {c : WaitCause} {k : Nat} (waits : (s.st i).request = .waiting n p c k)
    (state : (s.st i).session.state = .opened) (empty : (s.st i).queue = []) (sides : p.sides = 1 ∨ p.sides = 2) :
    changeHold false i .held s = s.upd i fun x => answered s.idleFull n .go
      (pushed s.idleFull (sheetEntry s .service p 0) (holdSet s.idleFull .held x)) := by
  have here := st_upd_self s i (holdSet s.idleFull .held)
  rw [changeHold_plain (.inl (by decide)), reevaluate_go (by rw [here]; exact waits) (evaluate_free (by rw [here]; exact .inr (.inr state))
    (by rw [here]; rfl) sides (by rw [here, show (holdSet s.idleFull .held (s.st i)).queue = [] from empty]; decide)), upd_upd]
  rfl

end

/-- Settles O45: each request answers by the hold; a change of hold stalls the session or evaluates the waiting pick. -/
theorem serviceHoldAndRelease : Obligations.ServiceHoldAndRelease := by
  refine ⟨fun i s line inFrame idle => ?idle, fun i s line inFrame => ?reported⟩
  case idle =>
    intro reply
    have body : ∀ {u : State} {h : HoldState}, (u.st i).hold = h → (u.st i).queue = (s.st i).queue →
        bodyIs (holdBytes i (u.st i)) (reply (holdNumber h)) := fun hold queue => bodyIs_holdBytes_of hold queue
    have empty_iff : ∀ {α : Type} {q : List α}, q = [] → q.isEmpty = true := List.isEmpty_iff.2
    constructor
    · obtain ⟨queue, session⟩ := serviceHeld_idle idle
      refine ⟨_, _, exec_serviceHold line inFrame, serviceHeld_local i s, queue, session, fun hold empty => ?_,
        fun hold some => ?_, fun hold => ?_, fun hold => ?_, fun hold => ?_⟩
      · have taken : ((serviceHeld i s).st i).hold = .held := by
          rw [serviceHeld_taken hold, if_pos (List.isEmpty_iff.2 empty)]
          exact (changeHold_idle idle .held).1
        exact ⟨taken, body taken queue⟩
      · have taken : ((serviceHeld i s).st i).hold = .requested := by
          rw [serviceHeld_taken hold, if_neg (mt List.isEmpty_iff.1 some)]
          exact (changeHold_idle idle .requested).1
        exact ⟨taken, body taken queue⟩
      all_goals
        have same : serviceHeld i s = s := serviceHeld_same (by rw [hold]; nofun)
        rw [same]
        exact ⟨rfl, body hold rfl⟩
    · obtain ⟨queue, session⟩ := serviceReleased_idle idle
      refine ⟨_, _, exec_serviceRelease line inFrame, serviceReleased_local i s, queue, fun hold empty => ?_,
        fun hold some => ?_, fun hold => ?_, fun hold => ?_, fun hold => ?_, session⟩
      · have released : ((serviceReleased i s).st i).hold = .none := by
          rw [serviceReleased_held hold, if_pos (List.isEmpty_iff.2 empty)]
          exact (changeHold_idle idle .none).1
        exact ⟨released, body released queue⟩
      · have released : ((serviceReleased i s).st i).hold = .releasing := by
          rw [serviceReleased_held hold, if_neg (mt List.isEmpty_iff.1 some)]
          exact (changeHold_idle idle .releasing).1
        exact ⟨released, body released queue⟩
      · have released : ((serviceReleased i s).st i).hold = .none := by
          rw [serviceReleased_requested hold]
          exact (changeHold_idle idle .none).1
        exact ⟨released, body released queue⟩
      · rw [serviceReleased_same (.inl hold)]
        exact ⟨rfl, body hold rfl⟩
      · rw [serviceReleased_same (.inr hold)]
        exact ⟨rfl, body hold rfl⟩
  case reported =>
    intro x
    refine ⟨fun stopped session hold => ?stalls, fun n p c k waits state hold => ?evaluates⟩
    case stalls =>
      have released : serviceReleased i s = changeHold false i .none s := by
        rcases hold with e | ⟨e, empty⟩
        · exact serviceReleased_requested e
        · rw [serviceReleased_held e, if_pos (List.isEmpty_iff.2 empty)]
      refine ⟨_, _, exec_serviceRelease line inFrame, serviceReleased_local i s, ?_⟩
      rw [released, changeHold_stalls stopped session, st_upd_self, stalledAt_rest]
      exact ⟨rfl, rfl, rfl, rfl⟩
    case evaluates =>
      have latched : ∀ {v : Verdict} {q : SheetSpec} {w : Bool} (y : Station), y.line = x.line → x.line.latch = .raised n q w →
          (answered s.idleFull n v y).line.latch = answerLatch n v (.raised n q w) := fun y line latch => by
        rw [← latch, ← line]
        rfl
      refine ⟨_, _, exec_serviceHold line inFrame, serviceHeld_local i s, ?_, fun some => ?_, fun empty sides => ?_⟩
      all_goals rw [serviceHeld_taken hold]
      · have taken : (if (s.st i).queue.isEmpty then HoldState.held else .requested) ≠ .none := by split <;> decide
        rw [changeHold_plain (.inl taken), reevaluate_free_session fun h => taken (by rw [st_upd_self] at h; exact h.2), st_upd_self]
        rfl
      · rw [if_neg (mt List.isEmpty_iff.1 some), changeHold_requested state, st_upd_self]
        have stopped : pickStopped s.idleFull .hold (holdSet s.idleFull .requested (s.st i)) =
            answered s.idleFull n (.stop .hold) (holdSet s.idleFull .requested (s.st i)) := by
          rw [pickStopped, show (holdSet s.idleFull .requested (s.st i)).request = _ from waits]
        rw [stopped]
        exact ⟨rfl, rfl, rfl, fun q w latch => (latched (holdSet s.idleFull .requested (s.st i)) rfl latch).trans answerLatch_held⟩
      · have granted := pushed_rest s.idleFull (sheetEntry s .service p 0) (holdSet s.idleFull .held (s.st i))
        have queue : (pushed s.idleFull (sheetEntry s .service p 0) (holdSet s.idleFull .held (s.st i))).queue =
            [sheetEntry s .service p 0] := by
          rw [granted]
          exact congrArg (· ++ [sheetEntry s .service p 0]) empty
        have line_ : (pushed s.idleFull (sheetEntry s .service p 0) (holdSet s.idleFull .held (s.st i))).line = x.line := by
          rw [granted]
          rfl
        rw [if_pos (List.isEmpty_iff.2 empty), changeHold_held waits state empty sides, st_upd_self]
        refine ⟨?_, queue, rfl, fun q w latch => (latched _ line_ latch).trans answerLatch_held, ?_⟩
        · show (pushed s.idleFull (sheetEntry s .service p 0) (holdSet s.idleFull .held (s.st i))).hold = .held
          rw [granted]
          rfl
        · refine bodyIs_holdBytes_of (x := { s.st i with queue := [sheetEntry s .service p 0] }) (h := .held) ?_ queue
          show (pushed s.idleFull (sheetEntry s .service p 0) (holdSet s.idleFull .held (s.st i))).hold = .held
          rw [granted]
          rfl

end Sys2Proof.Machine
end

section
/-!
PROOFS. A station lost and regained (sections 1.2, 2.3, 5.1 and 5.2).
-/

namespace Sys2Proof.Machine

/-- What no change of a station's presence reaches: accounts, cards, journal and the session counter. -/
structure MoneyStays (s t : State) : Prop where
  accounts : t.accounts = s.accounts
  cards : t.cards = s.cards
  journal : t.journal = s.journal
  nextSession : t.nextSession = s.nextSession

theorem MoneyStays.refl (s : State) : MoneyStays s s := ⟨rfl, rfl, rfl, rfl⟩

theorem MoneyStays.trans {s t u : State} (h : MoneyStays s t) (k : MoneyStays t u) : MoneyStays s u :=
  ⟨k.accounts.trans h.accounts, k.cards.trans h.cards, k.journal.trans h.journal, k.nextSession.trans h.nextSession⟩

theorem MoneyStays.upd (s : State) (i : StationId) (f : Station → Station) : MoneyStays s (s.upd i f) := ⟨rfl, rfl, rfl, rfl⟩

theorem MoneyStays.stopWhenEmpty (s : State) : MoneyStays s (stopWhenEmpty s) := by
  rw [stopWhenEmpty_rest]
  exact ⟨rfl, rfl, rfl, rfl⟩

/-! ## What an entry removed, a message offered and the end of a session leave -/

@[simp] theorem entryRemoved_line (c : Option CancelCause) (x : Station) : (entryRemoved c x).line = x.line := by rw [entryRemoved_rest]

@[simp] theorem entryRemoved_session (c : Option CancelCause) (x : Station) : (entryRemoved c x).session = x.session := by rw [entryRemoved_rest]

@[simp] theorem entryRemoved_idleTimer (c : Option CancelCause) (x : Station) : (entryRemoved c x).idleTimer = x.idleTimer := by rw [entryRemoved_rest]

@[simp] theorem entryRemoved_request (c : Option CancelCause) (x : Station) : (entryRemoved c x).request = x.request := by rw [entryRemoved_rest]

@[simp] theorem entryRemoved_queue (c : Option CancelCause) (x : Station) : (entryRemoved c x).queue = x.queue := by rw [entryRemoved_rest]

@[simp] theorem entryRemoved_meters (c : Option CancelCause) (x : Station) : (entryRemoved c x).meters = x.meters := by rw [entryRemoved_rest]

@[simp] theorem entryRemoved_hold (c : Option CancelCause) (x : Station) : (entryRemoved c x).hold = x.hold := by rw [entryRemoved_rest]

@[simp] theorem entryRemoved_recovery (c : Option CancelCause) (x : Station) : (entryRemoved c x).recovery = x.recovery := by rw [entryRemoved_rest]

@[simp] theorem entryRemoved_auth (c : Option CancelCause) (x : Station) : (entryRemoved c x).auth = none := by rw [entryRemoved_rest]

@[simp] theorem entryRemoved_lineFirst (c : Option CancelCause) (x : Station) : (entryRemoved c x).cond.lineFirst = x.cond.lineFirst := by rw [entryRemoved_rest]

@[simp] theorem entryRemoved_lineLatest (c : Option CancelCause) (x : Station) : (entryRemoved c x).cond.lineLatest = x.cond.lineLatest := by rw [entryRemoved_rest]

@[simp] theorem offered_session (m : DownMsg) (x : Station) : (offered m x).session = x.session := by rw [offered_rest]

@[simp] theorem offered_idleTimer (m : DownMsg) (x : Station) : (offered m x).idleTimer = x.idleTimer := by rw [offered_rest]

@[simp] theorem offered_request (m : DownMsg) (x : Station) : (offered m x).request = x.request := by rw [offered_rest]

@[simp] theorem offered_queue (m : DownMsg) (x : Station) : (offered m x).queue = x.queue := by rw [offered_rest]

@[simp] theorem offered_meters (m : DownMsg) (x : Station) : (offered m x).meters = x.meters := by rw [offered_rest]

@[simp] theorem offered_hold (m : DownMsg) (x : Station) : (offered m x).hold = x.hold := by rw [offered_rest]

@[simp] theorem offered_recovery (m : DownMsg) (x : Station) : (offered m x).recovery = x.recovery := by rw [offered_rest]

@[simp] theorem offered_auth (m : DownMsg) (x : Station) : (offered m x).auth = x.auth := by rw [offered_rest]

@[simp] theorem offered_present (m : DownMsg) (x : Station) : (offered m x).line.present = x.line.present := by rw [offered_rest]

@[simp] theorem offered_latch (m : DownMsg) (x : Station) : (offered m x).line.latch = x.line.latch := by rw [offered_rest]

@[simp] theorem recoveryTold_line (x : Station) : (recoveryTold x).line = x.line := by rw [recoveryTold_rest]

@[simp] theorem recoveryTold_session (x : Station) : (recoveryTold x).session = x.session := by rw [recoveryTold_rest]

@[simp] theorem recoveryTold_idleTimer (x : Station) : (recoveryTold x).idleTimer = x.idleTimer := by rw [recoveryTold_rest]

@[simp] theorem recoveryTold_request (x : Station) : (recoveryTold x).request = x.request := by rw [recoveryTold_rest]

@[simp] theorem recoveryTold_queue (x : Station) : (recoveryTold x).queue = x.queue := by rw [recoveryTold_rest]

@[simp] theorem recoveryTold_meters (x : Station) : (recoveryTold x).meters = x.meters := by rw [recoveryTold_rest]

@[simp] theorem recoveryTold_hold (x : Station) : (recoveryTold x).hold = x.hold := by rw [recoveryTold_rest]

@[simp] theorem recoveryTold_auth (x : Station) : (recoveryTold x).auth = x.auth := by rw [recoveryTold_rest]

@[simp] theorem recoveryTold_stoppage (x : Station) : (recoveryTold x).recovery.stoppage = x.recovery.stoppage := by rw [recoveryTold_rest]

section
variable {i : StationId} {s : State}

/-! ## The return from AUTHORIZING to NONE (R29) -/

/-- A station whose session has returned from AUTHORIZING to NONE, its refusal not yet offered. -/
def returned (x : Station) : Station :=
  { x with session := Session.ended x.session.number, idleTimer := none, cond := { x.cond with session := true } }

theorem setSession_ended (i : StationId) (s : State) :
    setSession i (fun x => Session.ended x.number) s = s.upd i returned := by
  rw [setSession_eq, syncIdle_eq, upd_upd]
  exact upd_congr (judged_notOpen (by simp [Session.ended]))

theorem abandonAuthorizing_none (i : StationId) (s : State) :
    abandonAuthorizing i none s = stopWhenEmpty (s.upd i fun x => recoveryTold (returned x)) := by
  unfold abandonAuthorizing
  dsimp only
  rw [setSession_ended, sessionEnded_eq, upd_upd]

theorem abandonAuthorizing_some (i : StationId) (r : RefusedReason) (s : State) :
    abandonAuthorizing i (some r) s = stopWhenEmpty (s.upd i fun x => recoveryTold (offered (.refused r) (returned x))) := by
  unfold abandonAuthorizing
  dsimp only
  rw [setSession_ended, offer_eq, sessionEnded_eq, upd_upd, upd_upd]

/-! ## The parts of a loss (R4) -/

/-- The line state cleared, and the raised pick withdrawn: no pick waits. -/
theorem withdrawn_lost (held : ∀ n p c k, (s.st i).request = .waiting n p c k → ∃ q w, (s.st i).line.latch = .raised n q w) :
    ∃ timer, withdrawRaised i (s.st i).line.latch (s.updLine i lineLost) = s.upd i fun x =>
      { x with line := lineLost x.line, request := .idle, idleTimer := timer } := by
  rcases request : (s.st i).request with _ | ⟨n, p, c, k⟩
  · have idle : ((s.updLine i lineLost).st i).request = .idle := by rw [st_updLine]; exact request
    have same : withdrawRaised i (s.st i).line.latch (s.updLine i lineLost) = s.updLine i lineLost := by
      unfold withdrawRaised
      split
      · rw [pickWithdrawn, idle]
      · rfl
    exact ⟨(s.st i).idleTimer, same.trans (upd_congr (by rw [← request]))⟩
  · obtain ⟨q, w, latch⟩ := held n p c k request
    have waits : ((s.updLine i lineLost).st i).request = .waiting n p c k := by rw [st_updLine]; exact request
    have ended : withdrawRaised i (s.st i).line.latch (s.updLine i lineLost) = setRequest i .idle (s.updLine i lineLost) := by
      rw [latch]
      show pickWithdrawn i n (s.updLine i lineLost) = _
      rw [pickWithdrawn, waits]
      exact if_pos rfl
    rw [ended, setRequest, syncIdle_eq, State.updLine, upd_upd, upd_upd]
    exact ⟨_, upd_congr rfl⟩

theorem abandonLost_other (state : (s.st i).session.state ≠ .authorizing) : abandonLost i s = s := if_neg state

/-- An AUTHORIZING session of a lost station. -/
theorem abandonLost_authorizing (state : (s.st i).session.state = .authorizing) (idle : (s.st i).request = .idle) :
    abandonLost i s = stopWhenEmpty (s.upd i fun x => recoveryTold (returned (entryRemoved (some .absent) x))) := by
  have here : ((stopWhenEmpty (s.upd i fun x => recoveryTold (returned (entryRemoved (some .absent) x)))).st i).request = .idle := by
    rw [stopWhenEmpty_st, st_upd_self, recoveryTold_rest, ← idle]
    show (entryRemoved (some .absent) (s.st i)).request = _
    rw [entryRemoved_rest]
  rw [abandonLost, if_pos state, removeEntry_eq, abandonAuthorizing_none, upd_upd, reevaluate_idle here]

/-- A station with the stoppage condition set and reported. -/
def stopSet (cause : Cause) (x : Station) : Station :=
  { x with
    recovery := { x.recovery with stoppage := some cause }
    cond := { x.cond with jam := some ⟨.stoppage, cause, 0⟩ } }

theorem stoppage_plain {cause : Cause} (plain : (s.st i).recovery.stoppage ≠ none ∨ stallsAt (s.st i) = false) :
    stoppage i cause s = s.upd i (stopSet cause) := by
  have raised : raiseJam i .stoppage cause 0 (s.updRecovery i fun r => { r with stoppage := some cause }) =
      s.upd i (stopSet cause) := by
    rw [raiseJam, State.updCond, State.updRecovery, upd_upd]
    rfl
  unfold stoppage
  dsimp only
  rw [raised]
  split
  · next clear =>
    have left : stallsAt (s.st i) = false := plain.resolve_left fun set => set (Option.isNone_iff_eq_none.1 clear)
    exact stallUnlessHeld_not (by rw [st_upd_self]; exact left)
  · rfl

theorem stoppage_stalls {cause : Cause} (clear : (s.st i).recovery.stoppage = none) (stalls : stallsAt (s.st i) = true) :
    stoppage i cause s =
      s.upd i fun x => stalledAt s.idleFull (minutes s.host.timers.stall) (stopSet cause x) := by
  have raised : raiseJam i .stoppage cause 0 (s.updRecovery i fun r => { r with stoppage := some cause }) =
      s.upd i (stopSet cause) := by
    rw [raiseJam, State.updCond, State.updRecovery, upd_upd]
    rfl
  unfold stoppage
  dsimp only
  rw [raised, if_pos (by rw [clear]; rfl), stallUnlessHeld_stalls (by rw [st_upd_self]; exact stalls), stallSession_eq, upd_upd]
  rfl

/-- A loss whose parts are known up to the stoppage, and the stoppage. -/
theorem loseStation_form {v : State} {f : Station → Station}
    (parts : abandonLost i (withdrawRaised i (s.st i).line.latch (s.updLine i lineLost)) = v)
    (stopped : stoppage i .absent v = v.upd i f) :
    loseStation i s = v.upd i fun x => stationRaised (judged v.idleFull (f x)) := by
  unfold loseStation
  dsimp only
  rw [parts, stopped, syncIdle_eq, raiseStation_eq, upd_upd, upd_upd]
  rfl

theorem stallsAt_iff (x : Station) : stallsAt x = true ↔
    (x.session.state = .opened ∨ x.session.state = .draining) ∧ (x.hold = .none ∨ x.hold = .requested) := by
  rw [stallsAt, Bool.and_eq_true, canStall_iff, Bool.not_eq_true', servesFree_false_iff]

/-- A recovery unit told of a session's end at an ABSENT station reports the line state as ABSENT. -/
theorem recoveryTold_lineFirst {x : Station} (line : lineState x.line = .absent) :
    (recoveryTold x).cond.lineFirst.getD .absent = x.cond.lineFirst.getD .absent := by
  unfold recoveryTold
  dsimp only
  split
  · show (some (x.cond.lineFirst.getD (lineState x.line))).getD .absent = _
    rw [line]
    rfl
  · rfl

/-- What the loss of a station has made of it before the stoppage is taken. -/
structure LostParts (x y : Station) : Prop where
  line : y.line = lineLost x.line
  request : y.request = .idle
  queue : y.queue = x.queue
  hold : y.hold = x.hold
  stoppage : y.recovery.stoppage = x.recovery.stoppage
  lineFirst : y.cond.lineFirst.getD .absent = x.cond.lineFirst.getD .absent
  authorizing : x.session.state = .authorizing → y.session = Session.ended x.session.number ∧ y.auth = none
  other : x.session.state ≠ .authorizing → y.session = x.session ∧ y.recovery = x.recovery ∧ y.meters = x.meters

theorem lost_parts (held : ∀ n p c k, (s.st i).request = .waiting n p c k → ∃ q w, (s.st i).line.latch = .raised n q w) :
    ∃ v, abandonLost i (withdrawRaised i (s.st i).line.latch (s.updLine i lineLost)) = v ∧ MoneyStays s v ∧
      v.host.timers = s.host.timers ∧ LostParts (s.st i) (v.st i) := by
  obtain ⟨timer, withdrawn⟩ := withdrawn_lost held
  rw [withdrawn]
  by_cases state : (s.st i).session.state = .authorizing
  · rw [abandonLost_authorizing (by rw [st_upd_self]; exact state) (by rw [st_upd_self])]
    refine ⟨_, rfl, ((MoneyStays.upd s i _).trans (.upd _ i _)).trans (.stopWhenEmpty _), ?_, ?_⟩
    · rw [stopWhenEmpty_rest]
      rfl
    · rw [stopWhenEmpty_st, st_upd_self, st_upd_self]
      refine ⟨?_, ?_, ?_, ?_, ?_, ?_, fun _ => ⟨?_, ?_⟩, fun other => absurd state other⟩
      case refine_6 =>
        rw [recoveryTold_lineFirst (by simp [returned, lineLost, lineState, StationLine.reset])]
        simp [returned]
      all_goals simp [returned]
  · rw [abandonLost_other (by rw [st_upd_self]; exact state)]
    refine ⟨_, rfl, .upd s i _, rfl, ?_⟩
    rw [st_upd_self]
    exact ⟨rfl, rfl, rfl, rfl, rfl, rfl, fun yes => absurd yes state, fun _ => ⟨rfl, rfl, rfl⟩⟩

end

theorem exec_stationLost {i : StationId} {s : State} (inFrame : s.inFrame i = true) :
    exec (.stationLost i) s = .next (stationLostAt i s) := congrArg Host.Outcome.next (if_pos inFrame)

theorem exec_stationPresent {i : StationId} {s : State} (inFrame : s.inFrame i = true) :
    exec (.stationPresent i) s = .next (stationPresentAt i s) := congrArg Host.Outcome.next (if_pos inFrame)

theorem stationLostAt_local (i : StationId) (s : State) : LocalTo i s (stationLostAt i s) := by
  unfold stationLostAt
  split
  · exact loseStation_local i s
  · exact .refl i s

/-- Settles O47: each event by the presence state; a loss by its parts, which end in the stoppage. -/
theorem presenceIsLostAndRegained : Obligations.PresenceIsLostAndRegained := by
  intro i s inFrame x
  refine ⟨fun absent => ?stillLost, fun present => ?stillPresent, fun absent => ?regained, fun present held => ?lost⟩
  case stillLost => rw [exec_stationLost inFrame, stationLostAt, if_neg (by rw [absent]; nofun)]
  case stillPresent => rw [exec_stationPresent inFrame, stationPresentAt, if_pos present]
  case regained =>
    rw [exec_stationPresent inFrame, stationPresentAt, if_neg (by rw [absent]; nofun)]
    rfl
  case lost =>
    have loses : stationLostAt i s = loseStation i s := if_pos present
    obtain ⟨v, e, money, timers, parts⟩ := lost_parts held
    refine ⟨_, (exec_stationLost inFrame).trans (congrArg _ loses), loses ▸ stationLostAt_local i s, ?_⟩
    have stalls_iff : stallsAt (v.st i) = true ↔
        (x.session.state = .opened ∨ x.session.state = .draining) ∧ (x.hold = .none ∨ x.hold = .requested) := by
      rw [stallsAt_iff, parts.hold]
      by_cases state : x.session.state = .authorizing
      · rw [(parts.authorizing state).1, state]
        simp [Session.ended]
      · rw [(parts.other state).1]
    by_cases stalls : x.recovery.stoppage = none ∧ stallsAt (v.st i) = true
    · obtain ⟨clear, free⟩ := stalls
      obtain ⟨live, hold⟩ := stalls_iff.1 free
      have notAuthorizing : x.session.state ≠ .authorizing := by rcases live with h | h <;> rw [h] <;> nofun
      obtain ⟨session, recovery, meters⟩ := parts.other notAuthorizing
      have result := loseStation_form e (stoppage_stalls (parts.stoppage.trans clear) free)
      have stalled : stalledAt v.idleFull (minutes v.host.timers.stall) (stopSet .absent (v.st i)) =
          stallEntered (minutes v.host.timers.stall) (stopSet .absent (v.st i)) := stalledAt_idle (by exact parts.request)
      obtain ⟨accounts, cards, journal, nextSession⟩ := money.trans (.upd v i _)
      rw [result]
      refine ⟨accounts, cards, journal, nextSession, ?_⟩
      rw [st_upd_self, stalled]
      have minute : minutes v.host.timers.stall = s.host.timers.stall * 60 * 2000 := by rw [timers]; rfl
      have line : lineState (v.st i).line = .absent := by rw [parts.line]; rfl
      refine ⟨parts.line, parts.request, parts.queue, parts.hold, rfl, rfl, ?_, ?_, fun no => ?_, fun no => ?_, fun _ =>
        ⟨fun _ => ⟨?_, ?_, ?_⟩, fun no => ?_⟩⟩
      · exact congrArg some ((congrArg _ line).trans parts.lineFirst)
      · exact congrArg some line
      · rcases live with h | h <;> rw [h] at no <;> cases no
      · exact absurd no notAuthorizing
      · show stalledRecord (v.st i).session = _
        rw [session]
        rfl
      · exact congrArg some minute
      · show (stallEntered (minutes v.host.timers.stall) (v.st i)).meters = _
        rw [stallEntered, meters]
        rfl
      · rcases no with h | h | h
        · exact absurd clear h
        all_goals rw [h] at hold; rcases hold with k | k <;> cases k
    · have plain : (v.st i).recovery.stoppage ≠ none ∨ stallsAt (v.st i) = false := by
        rw [parts.stoppage]
        by_cases clear : x.recovery.stoppage = none
        · exact .inr (Bool.eq_false_iff.2 fun yes => stalls ⟨clear, yes⟩)
        · exact .inl clear
      have result := loseStation_form e (stoppage_plain plain)
      obtain ⟨accounts, cards, journal, nextSession⟩ := money.trans (.upd v i _)
      rw [result]
      refine ⟨accounts, cards, journal, nextSession, ?_⟩
      rw [st_upd_self]
      have line : lineState (v.st i).line = .absent := by rw [parts.line]; rfl
      refine ⟨parts.line, parts.request, parts.queue, parts.hold, rfl, rfl, congrArg some ((congrArg _ line).trans parts.lineFirst),
        congrArg some line, fun no => (parts.other (by rw [no]; nofun)).1, parts.authorizing, fun live =>
        ⟨fun calm => absurd ⟨calm.1, stalls_iff.2 ⟨live, calm.2⟩⟩ stalls, fun _ => ?_⟩⟩
      obtain ⟨session, recovery, -⟩ := parts.other (by rcases live with h | h <;> rw [h] <;> nofun)
      refine ⟨session, ?_⟩
      show (v.st i).recovery.stallTimer = _
      rw [recovery]

end Sys2Proof.Machine
end

section
/-!
PROOFS. Opening a session (sections 2.3, 6.3 and 7.2): a refusal, and a session that has just opened with no pick waiting.
-/

namespace Sys2Proof.Machine

section
variable {i : StationId} {s : State}

/-! ## A session that has just opened (R30) -/

/-- A station whose session has just opened: the open time is taken, and OPENED is offered. -/
def openedAt (k : PayerKind) (amount clock : Nat) (x : Station) : Station :=
  offered (.opened k amount) { x with session := { x.session with openTime := some clock } }

@[simp] theorem openedAt_session (k : PayerKind) (a c : Nat) (x : Station) :
    (openedAt k a c x).session = { x.session with openTime := some c } := offered_session ..

@[simp] theorem openedAt_hold (k : PayerKind) (a c : Nat) (x : Station) : (openedAt k a c x).hold = x.hold := offered_hold ..

@[simp] theorem openedAt_queue (k : PayerKind) (a c : Nat) (x : Station) : (openedAt k a c x).queue = x.queue := offered_queue ..

@[simp] theorem openedAt_recovery (k : PayerKind) (a c : Nat) (x : Station) : (openedAt k a c x).recovery = x.recovery :=
  offered_recovery ..

@[simp] theorem openedAt_request (k : PayerKind) (a c : Nat) (x : Station) : (openedAt k a c x).request = x.request :=
  offered_request ..

@[simp] theorem openedAt_meters (k : PayerKind) (a c : Nat) (x : Station) : (openedAt k a c x).meters = x.meters :=
  offered_meters ..

@[simp] theorem openedAt_auth (k : PayerKind) (a c : Nat) (x : Station) : (openedAt k a c x).auth = x.auth := offered_auth ..

/-- The part of an opening before a stall or a close pending is judged. -/
theorem opened_reevaluated (idle : (s.st i).request = .idle) (k : PayerKind) (a : Nat) :
    reevaluate i (offer i (.opened k a) (s.updSession i fun x => { x with openTime := some s.journal.clock })) =
      s.upd i (openedAt k a s.journal.clock) := by
  have formed : offer i (.opened k a) (s.updSession i fun x => { x with openTime := some s.journal.clock }) =
      s.upd i (openedAt k a s.journal.clock) := by
    rw [offer_eq, State.updSession, upd_upd]
    rfl
  rw [formed, reevaluate_idle (by rw [st_upd_self, openedAt_request]; exact idle)]

/-- A session that opens where the station has stopped and the hold lets it stall. -/
theorem sessionOpened_stalls {k : PayerKind} {a : Nat} (idle : (s.st i).request = .idle)
    (state : (s.st i).session.state = .opened) (stopped : (s.st i).recovery.stoppage ≠ none)
    (hold : (s.st i).hold = .none ∨ (s.st i).hold = .requested) :
    sessionOpened i k a s = s.upd i fun x =>
      stallEntered (minutes s.host.timers.stall) (openedAt k a s.journal.clock x) := by
  have here := st_upd_self s i (openedAt k a s.journal.clock)
  have stalls : stallsAt ((s.upd i (openedAt k a s.journal.clock)).st i) = true := by
    rw [here, stallsAt_iff, openedAt_session, openedAt_hold]
    exact ⟨.inl state, hold⟩
  have stalled : stallSession i (s.upd i (openedAt k a s.journal.clock)) =
      s.upd i fun x => stallEntered (minutes s.host.timers.stall) (openedAt k a s.journal.clock x) := by
    rw [stallSession_eq, upd_upd]
    exact upd_congr (stalledAt_idle (by rw [openedAt_request]; exact idle))
  unfold sessionOpened
  dsimp only
  rw [opened_reevaluated idle, if_pos (by rw [here, openedAt_recovery]; exact Option.isSome_iff_ne_none.2 stopped),
    stallUnlessHeld_stalls stalls, stalled, st_upd_self]
  rfl

/-- A session that opens where nothing stalls it. -/
theorem sessionOpened_plain {k : PayerKind} {a : Nat} (idle : (s.st i).request = .idle)
    (free : (s.st i).recovery.stoppage = none ∨ servesFree (s.st i).hold = true) :
    sessionOpened i k a s = match (s.st i).session.state, (s.st i).session.closePending with
      | .opened, some r => goDraining i r (s.upd i (openedAt k a s.journal.clock))
      | _, _ => s.upd i (openedAt k a s.journal.clock) := by
  have here := st_upd_self s i (openedAt k a s.journal.clock)
  have session : ((s.upd i (openedAt k a s.journal.clock)).st i).session =
      { (s.st i).session with openTime := some s.journal.clock } := by rw [here, openedAt_session]
  have plain : (if ((s.upd i (openedAt k a s.journal.clock)).st i).recovery.stoppage.isSome then
      stallUnlessHeld i (s.upd i (openedAt k a s.journal.clock)) else s.upd i (openedAt k a s.journal.clock)) =
      s.upd i (openedAt k a s.journal.clock) := by
    rw [here, openedAt_recovery]
    split
    · next stopped =>
      refine stallUnlessHeld_not ?_
      have held := free.resolve_left (Option.isSome_iff_ne_none.1 stopped)
      rw [here, stallsAt, openedAt_hold, held]
      simp
    · rfl
  unfold sessionOpened
  dsimp only
  rw [opened_reevaluated idle, plain, session] <;> rfl

theorem sessionOpened_opens {k : PayerKind} {a : Nat} (idle : (s.st i).request = .idle)
    (free : (s.st i).recovery.stoppage = none ∨ servesFree (s.st i).hold = true)
    (noPending : (s.st i).session.closePending = none) :
    sessionOpened i k a s = s.upd i (openedAt k a s.journal.clock) := by
  rw [sessionOpened_plain idle free, noPending]
  cases (s.st i).session.state <;> rfl

theorem sessionOpened_pending {k : PayerKind} {a : Nat} {r : CloseReason} (idle : (s.st i).request = .idle)
    (state : (s.st i).session.state = .opened)
    (free : (s.st i).recovery.stoppage = none ∨ servesFree (s.st i).hold = true)
    (pending : (s.st i).session.closePending = some r) :
    sessionOpened i k a s = goDraining i r (s.upd i (openedAt k a s.journal.clock)) := by
  rw [sessionOpened_plain idle free, state, pending]

/-! ## A refusal (R25, R26) -/

/-- A station whose message is refused: a running idle timer is reloaded, and REFUSED is offered. -/
def refusedAt (full : Nat) (r : RefusedReason) (x : Station) : Station := offered (.refused r) (reloaded full x)

theorem offer_refused_activity (r : RefusedReason) : offer i (.refused r) (activity i s) = s.upd i (refusedAt s.idleFull r) := by
  rw [offer_eq, activity_eq, upd_upd]
  rfl

theorem refusedAt_room {full : Nat} {r : RefusedReason} {x : Station} (present : x.line.present = true)
    (room : x.line.down.length < 4) : refusedAt full r x = { x with
      idleTimer := x.idleTimer.map fun _ => full, line := { x.line with down := x.line.down ++ [.refused r] } } :=
  offered_room present room

theorem refusedAt_absent {full : Nat} {r : RefusedReason} {x : Station} (absent : x.line.present = false) :
    refusedAt full r x = { x with idleTimer := x.idleTimer.map fun _ => full } := offered_absent absent

/-! ## The opening checks (R26) -/

theorem activity_sessions (i : StationId) (s : State) : (activity i s).sessions = s.sessions := by
  rw [sessions_eq_filter, sessions_eq_filter]
  congr 1
  refine List.filter_congr fun j _ => ?_
  by_cases e : j = i
  · rw [e, activity_eq, st_upd_self]
    rfl
  · rw [activity_eq, st_upd_ne s _ e]

theorem openingCheck_activity (isCard : Bool) : openingCheck i isCard (activity i s) = openingCheck i isCard s := by
  have recovery : ((activity i s).st i).recovery = (s.st i).recovery := by rw [activity_eq, st_upd_self]; rfl
  unfold openingCheck
  rw [recovery, activity_sessions]
  rfl

/-- The journal has room for one more session. -/
def RoomToOpen (s : State) : Prop :=
  s.journal.records.length + (allStations.filter fun j => (s.st j).session.state ≠ .none).length < 512

theorem roomToOpen_iff (s : State) : RoomToOpen s ↔ ¬ Config.journalRoom ≤ s.journal.records.length + s.sessions := by
  rw [RoomToOpen, sessions_eq_filter]
  exact Nat.not_le.symm

theorem openingCheck_stopped {isCard : Bool} (op : s.host.op ≠ .running) : openingCheck i isCard s = some .stopped := if_pos op

theorem openingCheck_out {isCard : Bool} (op : s.host.op = .running) (out : (s.st i).recovery.availability = .outOfService) :
    openingCheck i isCard s = some .outOfService := by
  rw [openingCheck, if_neg (not_not.2 op), if_pos out]

theorem urgencyRank_must (l : Urgency) : urgencyRank .must ≤ urgencyRank l ↔ l = .must := by cases l <;> decide

theorem openingCheck_journal {isCard : Bool} (op : s.host.op = .running) (enabled : (s.st i).recovery.availability = .enabled)
    (full : (isCard = true ∧ s.journal.level = .must) ∨ ¬ RoomToOpen s) : openingCheck i isCard s = some .journal := by
  rw [openingCheck, if_neg (not_not.2 op), if_neg (by rw [enabled]; nofun)]
  split
  · rfl
  · next low =>
    refine if_pos (not_not.1 (mt (roomToOpen_iff s).2 (full.resolve_left fun h => low ?_)))
    rw [h.1, h.2]
    rfl

theorem openingCheck_enabled {isCard : Bool} (op : s.host.op = .running) (enabled : (s.st i).recovery.availability = .enabled)
    (level : isCard = true → s.journal.level ≠ .must) (room : RoomToOpen s) :
    openingCheck i isCard s = if isCard && s.cards.policy.initialHold == 0 then some .cardsOff else none := by
  rw [openingCheck, if_neg (not_not.2 op), if_neg (by rw [enabled]; nofun), if_neg, if_neg ((roomToOpen_iff s).1 room)]
  rw [Bool.and_eq_true, decide_eq_true_iff, urgencyRank_must]
  exact fun h => level h.1 h.2

end

end Sys2Proof.Machine
end

section
/-!
PROOFS. ACCOUNT (sections 2.3 and 6.3): the first check that fails, and the session that opens.
-/

namespace Sys2Proof.Machine

section
variable {i : StationId} {s : State} {n : Nat} {r : Range} {a : Account}

/-! ## The account unit's checks (R104) -/

theorem openingAccountCheck_unknown (h : containingRange s.accounts.ranges n = none ∨ findAccount s.accounts n = none) :
    openingAccountCheck s n = .error .unknown := by
  unfold openingAccountCheck
  split
  · rfl
  · next within =>
    rw [h.resolve_left (by rw [within]; nofun)]

theorem openingAccountCheck_known (within : containingRange s.accounts.ranges n = some r) (found : findAccount s.accounts n = some a) :
    openingAccountCheck s n = if a.frozen then .error .frozen
      else if a.maxSessions ≤ a.openSessions then .error .inUse
      else if a.balance - floorOf s.accounts.ranges n < 1 then .error .funds
      else .ok (a, r) := by
  unfold openingAccountCheck
  rw [within, found]
  dsimp only
  rw [availableFunds, findAccount_number found]

/-- The reason that refuses an ACCOUNT at a station, if one does: the first check that fails (R25 to R27). -/
def accountRefusal (i : StationId) (n : Nat) (s : State) : Option RefusedReason :=
  if (s.st i).session.state ≠ .none then some .session
  else
    match openingCheck i false s with
    | some r => some r
    | none =>
      match openingAccountCheck s n with
      | .error r => some r
      | .ok _ => none

theorem exec_account {number : BitVec 24} (inFrame : s.inFrame i = true) :
    exec (.account i number) s = .next (deliver i (.account number.toNat) s) := congrArg Host.Outcome.next (if_pos inFrame)

theorem openingAccountCheck_activity : openingAccountCheck (activity i s) n = openingAccountCheck s n := rfl

theorem deliver_account_refused {reason : RefusedReason} (h : accountRefusal i n s = some reason) :
    deliver i (.account n) s = s.upd i (refusedAt s.idleFull reason) := by
  have refused : deliver i (.account n) s = offer i (.refused reason) (activity i s) := by
    unfold accountRefusal at h
    simp only [deliver]
    by_cases live : (s.st i).session.state = .none
    · rw [if_neg (not_not.2 live)] at h
      rw [if_neg (by rw [sessionLive_iff, live]; simp), openByAccount, openingCheck_activity, openingAccountCheck_activity]
      rcases check : openingCheck i false s with _ | c <;> rw [check] at h
      · rcases account : openingAccountCheck s n with c | c <;> rw [account] at h
        · cases h; rfl
        · cases h
      · cases h; rfl
    · rw [if_pos live] at h
      rw [if_pos ((sessionLive_iff _).2 live)]
      cases h
      rfl
  rw [refused, offer_refused_activity]

theorem deliver_account_opens (state : (s.st i).session.state = .none) (check : openingCheck i false s = none)
    (account : openingAccountCheck s n = .ok (a, r)) : deliver i (.account n) s = openAccount i a r (activity i s) := by
  simp only [deliver]
  rw [if_neg (by rw [sessionLive_iff, state]; simp), openByAccount, openingCheck_activity, check]
  dsimp only
  rw [openingAccountCheck_activity, account]

/-! ### The refusals by name -/

theorem accountRefusal_session (state : (s.st i).session.state ≠ .none) : accountRefusal i n s = some .session := if_pos state

theorem accountRefusal_check {reason : RefusedReason} (state : (s.st i).session.state = .none)
    (check : openingCheck i false s = some reason) : accountRefusal i n s = some reason := by
  rw [accountRefusal, if_neg (not_not.2 state), check]

theorem accountRefusal_account {reason : RefusedReason} (state : (s.st i).session.state = .none)
    (check : openingCheck i false s = none) (account : openingAccountCheck s n = .error reason) :
    accountRefusal i n s = some reason := by
  rw [accountRefusal, if_neg (not_not.2 state), check, account]

/-- What lets a station open an account session, the account apart. -/
structure AccountPass (i : StationId) (s : State) : Prop where
  state : (s.st i).session.state = .none
  op : s.host.op = .running
  enabled : (s.st i).recovery.availability = .enabled
  room : RoomToOpen s

theorem AccountPass.check (pass : AccountPass i s) : openingCheck i false s = none :=
  openingCheck_enabled pass.op pass.enabled nofun pass.room

theorem accountRefusal_unless_pass (h : ¬ AccountPass i s) : ∃ reason, accountRefusal i n s = some reason := by
  by_cases state : (s.st i).session.state = .none
  · by_cases op : s.host.op = .running
    · rcases available : (s.st i).recovery.availability
      · exact ⟨_, accountRefusal_check state (openingCheck_journal op available (.inr fun room => h ⟨state, op, available, room⟩))⟩
      · exact ⟨_, accountRefusal_check state (openingCheck_out op available)⟩
    · exact ⟨_, accountRefusal_check state (openingCheck_stopped op)⟩
  · exact ⟨_, accountRefusal_session state⟩

theorem accountRefusal_unless_known (pass : AccountPass i s)
    (h : containingRange s.accounts.ranges n = none ∨ findAccount s.accounts n = none ∨
      ∃ a, findAccount s.accounts n = some a ∧
        (a.frozen = true ∨ a.maxSessions ≤ a.openSessions ∨ a.balance - floorOf s.accounts.ranges n < 1)) :
    ∃ reason, accountRefusal i n s = some reason := by
  have errors : ∃ reason, openingAccountCheck s n = .error reason := by
    rcases range : containingRange s.accounts.ranges n with _ | r
    · exact ⟨_, openingAccountCheck_unknown (.inl range)⟩
    · rcases h with none | none | ⟨a, found, bad⟩
      · rw [range] at none; cases none
      · exact ⟨_, openingAccountCheck_unknown (.inr none)⟩
      · rw [openingAccountCheck_known range found]
        split_ifs with frozen full short
        · exact ⟨_, rfl⟩
        · exact ⟨_, rfl⟩
        · exact ⟨_, rfl⟩
        · exact absurd bad (by simp [frozen, full, short])
  obtain ⟨reason, e⟩ := errors
  exact ⟨reason, accountRefusal_account pass.state pass.check e⟩

end

end Sys2Proof.Machine
end

section
/-!
PROOFS. The session that an ACCOUNT opens (sections 2.3, 5.2 and 6.3).
-/

namespace Sys2Proof.Machine

section
variable {i : StationId} {s : State} {n : Nat} {r : Range} {a : Account}

/-- The session that an ACCOUNT opens, its open time not yet taken. -/
def accountSession (number : Nat) (a : Account) (r : Range) : Session :=
  { Session.ended number with state := .opened, payer := some (.account a.number), tariffClass := some r.tariffClass }

/-- A station whose session has been replaced by one that opens. -/
def entered (full : Nat) (ns : Session) (x : Station) : Station :=
  judged full { reloaded full x with session := ns, cond := { x.cond with session := true } }

/-- The part with an account's open sessions counted and the session number taken. -/
def accountTaken (a : Account) (s : State) : State :=
  { putAccount { a with openSessions := a.openSessions + 1 } s with nextSession := nextShort s.nextSession }

theorem openAccount_eq (i : StationId) (a : Account) (r : Range) (s : State) : openAccount i a r (activity i s) =
    sessionOpened i .account (availableFunds s.accounts a).toNat
      ((accountTaken a s).upd i (entered s.idleFull (accountSession s.nextSession a r))) := by
  unfold openAccount
  dsimp only
  refine congrArg (sessionOpened i .account _) ?_
  rw [setSession_eq, syncIdle_eq, upd_upd]
  exact upd_upd (accountTaken a s) i (reloaded s.idleFull) _

/-- An ACCOUNT that opens where nothing stalls it. -/
theorem openAccount_opens (idle : (s.st i).request = .idle)
    (free : (s.st i).recovery.stoppage = none ∨ servesFree (s.st i).hold = true) :
    openAccount i a r (activity i s) = (accountTaken a s).upd i fun x =>
      openedAt .account (availableFunds s.accounts a).toNat s.journal.clock
        (entered s.idleFull (accountSession s.nextSession a r) x) := by
  have here : ((accountTaken a s).upd i (entered s.idleFull (accountSession s.nextSession a r))).st i =
      entered s.idleFull (accountSession s.nextSession a r) (s.st i) := st_upd_self ..
  rw [openAccount_eq, sessionOpened_opens (by rw [here]; exact idle) (by rw [here]; exact free) (by rw [here]; rfl), upd_upd]
  rfl

/-- An ACCOUNT that opens into a stall. -/
theorem openAccount_stalls (idle : (s.st i).request = .idle) (stopped : (s.st i).recovery.stoppage ≠ none)
    (hold : (s.st i).hold = .none ∨ (s.st i).hold = .requested) :
    openAccount i a r (activity i s) = (accountTaken a s).upd i fun x => stallEntered (minutes s.host.timers.stall)
      (openedAt .account (availableFunds s.accounts a).toNat s.journal.clock
        (entered s.idleFull (accountSession s.nextSession a r) x)) := by
  have here : ((accountTaken a s).upd i (entered s.idleFull (accountSession s.nextSession a r))).st i =
      entered s.idleFull (accountSession s.nextSession a r) (s.st i) := st_upd_self ..
  rw [openAccount_eq, sessionOpened_stalls (by rw [here]; exact idle) (by rw [here]; rfl) (by rw [here]; exact stopped)
    (by rw [here]; exact hold), upd_upd]
  rfl

/-- An opening that is offered OPENED at a station with room in its queue, or absent. -/
theorem openedAt_room {k : PayerKind} {amount clock : Nat} {x : Station} (room : x.line.present = true → x.line.down.length < 4) :
    openedAt k amount clock x = { x with
      session := { x.session with openTime := some clock }
      line := if x.line.present then { x.line with down := x.line.down ++ [.opened k amount] } else x.line } := by
  unfold openedAt
  cases present : x.line.present with
  | true =>
    rw [offered_room (by exact present) (by exact room present)]
    rfl
  | false =>
    rw [offered_absent (by exact present)]
    rfl

/-- The part after an opening, written over the state before it. -/
theorem accountTaken_upd {f g : Station → Station} (same : f (s.st i) = g (s.st i)) : (accountTaken a s).upd i f =
    { s.upd i g with
      nextSession := if s.nextSession < 65535 then s.nextSession + 1 else 1
      accounts := { s.accounts with accounts := ((accountTaken a s).upd i f).accounts.accounts } } :=
  (upd_congr (s := accountTaken a s) (f := f) (g := g) same).trans rfl

theorem accountTaken_found (found : findAccount s.accounts n = some a) :
    findAccount (accountTaken a s).accounts n = some { a with openSessions := a.openSessions + 1 } ∧
    ∀ m, m ≠ n → findAccount (accountTaken a s).accounts m = findAccount s.accounts m :=
  findAccount_put (a := { a with openSessions := a.openSessions + 1 }) (findAccount_number (a := a) found) s

end

/-- Settles O57: the first check that fails refuses; an ACCOUNT that passes opens its session, into a stall where one is due. -/
theorem accountsOpenSessions : Obligations.AccountsOpenSessions := by
  intro i number s inFrame x n refused room pass
  have refuses : ∀ {reason : RefusedReason}, accountRefusal i n s = some reason → x.line.present = true → x.line.down.length < 4 →
      refused reason := fun h present space => by
    show exec (.account i number) s = _
    rw [exec_account inFrame, deliver_account_refused h]
    exact congrArg _ (upd_congr (refusedAt_room present space))
  have passes : pass → AccountPass i s := fun ⟨state, op, enabled, space⟩ => ⟨state, op, enabled, space⟩
  refine ⟨fun present space => ⟨fun live => ?session, fun state => ⟨fun op => ?stopped, fun op out => ?out, fun op enabled full => ?journal⟩,
    fun ok unknown => ?unknown, fun r a ok within found _ => ⟨fun frozen => ?frozen, fun active full => ?inUse,
      fun active free short => ?funds⟩⟩, fun present full live => ?fullQueue, fun absent fails => ?absent,
    fun r a ok within found _ active free funds idle space => ?opens⟩
  case session => exact refuses (accountRefusal_session live) present space
  case stopped => exact refuses (accountRefusal_check state (openingCheck_stopped op)) present space
  case out => exact refuses (accountRefusal_check state (openingCheck_out op out)) present space
  case journal => exact refuses (accountRefusal_check state (openingCheck_journal op enabled (.inr full))) present space
  case unknown =>
    exact refuses (accountRefusal_account (passes ok).state (passes ok).check (openingAccountCheck_unknown unknown)) present space
  case frozen =>
    refine refuses (accountRefusal_account (passes ok).state (passes ok).check ?_) present space
    rw [openingAccountCheck_known within found, if_pos frozen]
  case inUse =>
    refine refuses (accountRefusal_account (passes ok).state (passes ok).check ?_) present space
    rw [openingAccountCheck_known within found, if_neg (by simp [active]), if_pos full]
  case funds =>
    refine refuses (accountRefusal_account (passes ok).state (passes ok).check ?_) present space
    rw [openingAccountCheck_known within found, if_neg (by simp [active]), if_neg (Nat.not_le.2 free), if_pos short]
  case fullQueue =>
    refine ⟨_, exec_account inFrame, deliver_local i _ s, ?_⟩
    rw [deliver_account_refused (accountRefusal_session live), st_upd_self, refusedAt]
    refine ⟨offered_session .., ?_⟩
    exact offered_full (m := .refused .session) (x := reloaded s.idleFull (s.st i)) present full
  case absent =>
    have refusal : ∃ reason, accountRefusal i n s = some reason := by
      by_cases ok : AccountPass i s
      · refine accountRefusal_unless_known ok ((fails.resolve_left fun h => h ⟨ok.state, ok.op, ok.enabled, ok.room⟩).imp_right
          (Or.imp_right fun ⟨a, found, _, bad⟩ => ⟨a, found, bad⟩))
      · exact accountRefusal_unless_pass ok
    obtain ⟨reason, h⟩ := refusal
    rw [exec_account inFrame, deliver_account_refused h]
    exact congrArg _ (upd_congr (refusedAt_absent absent))
  case opens =>
    intro stalls
    have number_ : a.number = n := findAccount_number found
    have check : openingAccountCheck s n = .ok (a, r) := by
      rw [openingAccountCheck_known within found, if_neg (by simp [active]), if_neg (Nat.not_le.2 free), if_neg (by omega)]
    obtain ⟨stored, others⟩ := accountTaken_found found
    have opened := deliver_account_opens (passes ok).state (passes ok).check check
    have amount : (availableFunds s.accounts a).toNat = (a.balance - floorOf s.accounts.ranges n).toNat := by
      rw [availableFunds, number_]
    have session : accountSession s.nextSession a r = { Session.ended s.nextSession with
        state := .opened, payer := some (.account n), tariffClass := some r.tariffClass } := by rw [accountSession, number_]
    by_cases stall : x.recovery.stoppage ≠ none ∧ (x.hold = .none ∨ x.hold = .requested)
    · have yes : stalls = true := by
        rw [Bool.and_eq_true, decide_eq_true_iff, Option.isSome_iff_ne_none]
        exact stall
      rw [openAccount_stalls idle stall.1 stall.2, amount] at opened
      refine ⟨_, (exec_account inFrame).trans (congrArg _ opened), accountTaken_upd ?_, stored, others⟩
      rw [openedAt_room (by exact space), yes, session]
      rfl
    · have no : stalls = false := by
        rw [← Bool.not_eq_true, Bool.and_eq_true, decide_eq_true_iff, Option.isSome_iff_ne_none]
        exact stall
      have plain : x.recovery.stoppage = none ∨ servesFree x.hold = true := by
        by_cases clear : x.recovery.stoppage = none
        · exact .inl clear
        · exact .inr (by rw [← Bool.not_eq_false, servesFree_false_iff]; exact fun h => stall ⟨clear, h⟩)
      rw [openAccount_opens idle plain, amount] at opened
      refine ⟨_, (exec_account inFrame).trans (congrArg _ opened), accountTaken_upd ?_, stored, others⟩
      rw [openedAt_room (by exact space), no, st_upd_self, openedAt_room (by exact space), session]
      rfl

end Sys2Proof.Machine
end

section
/-!
PROOFS. CARD, and the stand-in decision (sections 2.3, 7.2, 7.3 and 7.6).
-/

namespace Sys2Proof.Machine

section
variable {i : StationId} {s : State} {t : Token} {k : CardClass}

/-! ## The stand-in decision (R133, R134) -/

theorem standInAllowed_iff (s : State) (t : Token) : standInAllowed s t = true ↔ StandInMayGrant s t := by
  have level : urgencyRank s.journal.level < urgencyRank .need ↔ s.journal.level = .release ∨ s.journal.level = .may := by
    cases s.journal.level <;> decide
  have holds : standInHolds s.cards t = false ↔ ∀ e ∈ s.cards.standIn, e.token ≠ t := by simp [standInHolds]
  have deny : s.cards.deny.contains t = false ↔ t ∉ s.cards.deny := by simp
  unfold standInAllowed StandInMayGrant
  simp only [Bool.and_eq_true, Bool.not_eq_true', decide_eq_true_iff, level, holds, deny, and_assoc]
  exact Iff.rfl

/-- The stand-in list with a grant's entry. -/
def standInAdded (i : StationId) (t : Token) (s : State) : State :=
  { s with cards := { s.cards with
    standIn := s.cards.standIn ++ [⟨t, grantOf s, (s.st i).session.number, i, false⟩] } }

/-- A session that stand-in opens, its open time not yet taken. -/
def standInSession (t : Token) (grant : Nat) (x : Session) : Session :=
  { x with state := .opened, payer := some (.standIn t), authority := some grant, increments := 0, noMoreIncrements := false }

/-- A station whose session stand-in opens, OPENED not yet offered. -/
def standInEntered (full : Nat) (t : Token) (grant : Nat) (x : Station) : Station :=
  judged full { x with session := standInSession t grant x.session, cond := { x.cond with session := true } }

theorem grantStandIn_eq (i : StationId) (t : Token) (s : State) : grantStandIn i t s =
    sessionOpened i .standIn (grantOf s) ((standInAdded i t s).upd i (standInEntered s.idleFull t (grantOf s))) := by
  unfold grantStandIn
  dsimp only
  refine congrArg (sessionOpened i .standIn (grantOf s)) ?_
  rw [setSession_eq, syncIdle_eq, upd_upd]
  rfl

theorem decideStandIn_grants (state : (s.st i).session.state = .authorizing) (payer : (s.st i).session.payer = some (.card t))
    (may : StandInMayGrant s t) : decideStandIn i s = grantStandIn i t s := by
  unfold decideStandIn
  dsimp only
  have token : payerToken (s.st i).session.payer = t := by rw [payer]; rfl
  rw [if_pos state, token, if_pos ((standInAllowed_iff s t).2 may)]

/-- A grant of stand-in at a session with nothing pending, no pick waiting and no stoppage opens it. -/
theorem grantStandIn_opens (idle : (s.st i).request = .idle) (clear : (s.st i).recovery.stoppage = none)
    (noPending : (s.st i).session.closePending = none) : grantStandIn i t s = (standInAdded i t s).upd i fun x =>
      openedAt .standIn (grantOf s) s.journal.clock (standInEntered s.idleFull t (grantOf s) x) := by
  have here : ((standInAdded i t s).upd i (standInEntered s.idleFull t (grantOf s))).st i =
      standInEntered s.idleFull t (grantOf s) (s.st i) := st_upd_self ..
  rw [grantStandIn_eq, sessionOpened_opens (by rw [here]; exact idle) (by rw [here]; exact .inl clear)
    (by rw [here]; exact noPending), upd_upd]
  rfl

/-- A stand-in decision against the card returns the session to NONE. -/
theorem decideStandIn_refuses (state : (s.st i).session.state = .authorizing) (payer : (s.st i).session.payer = some (.card t))
    (not : ¬ StandInMayGrant s t) : decideStandIn i s = reevaluate i (abandonAuthorizing i (some .offline) s) := by
  unfold decideStandIn
  dsimp only
  have token : payerToken (s.st i).session.payer = t := by rw [payer]; rfl
  rw [if_pos state, token, if_neg (mt (standInAllowed_iff s t).1 not)]

@[simp] theorem offered_authRequest (m : DownMsg) (x : Station) : (offered m x).cond.authRequest = x.cond.authRequest := by
  rcases offered_cond m x with e | e <;> rw [e] <;> rfl

@[simp] theorem offered_authCancel (m : DownMsg) (x : Station) : (offered m x).cond.authCancel = x.cond.authCancel := by
  rcases offered_cond m x with e | e <;> rw [e] <;> rfl

@[simp] theorem recoveryTold_authRequest (x : Station) : (recoveryTold x).cond.authRequest = x.cond.authRequest := by
  rw [recoveryTold_rest]

@[simp] theorem recoveryTold_authCancel (x : Station) : (recoveryTold x).cond.authCancel = x.cond.authCancel := by
  rw [recoveryTold_rest]

/-- A station whose AUTHORIZING session has been refused. -/
def refusedReturn (r : RefusedReason) (x : Station) : Station := recoveryTold (offered (.refused r) (returned x))

@[simp] theorem refusedReturn_session (r : RefusedReason) (x : Station) :
    (refusedReturn r x).session = Session.ended x.session.number := by simp [refusedReturn, returned]

@[simp] theorem refusedReturn_request (r : RefusedReason) (x : Station) : (refusedReturn r x).request = x.request := by
  simp [refusedReturn, returned]

@[simp] theorem refusedReturn_auth (r : RefusedReason) (x : Station) : (refusedReturn r x).auth = x.auth := by
  simp [refusedReturn, returned]

theorem refusedReturn_line {r : RefusedReason} {x : Station} (present : x.line.present = true) (room : x.line.down.length < 4) :
    (refusedReturn r x).line = { x.line with down := x.line.down ++ [.refused r] } := by
  rw [refusedReturn, recoveryTold_line, offered_room (by exact present) (by exact room)]
  rfl

theorem refusedReturn_authConds (r : RefusedReason) (x : Station) : (refusedReturn r x).cond.authRequest = x.cond.authRequest ∧
    (refusedReturn r x).cond.authCancel = x.cond.authCancel := by
  simp [refusedReturn, returned]

theorem abandonAuthorizing_refused (r : RefusedReason) (idle : (s.st i).request = .idle) :
    reevaluate i (abandonAuthorizing i (some r) s) = stopWhenEmpty (s.upd i (refusedReturn r)) := by
  rw [abandonAuthorizing_some]
  exact reevaluate_idle (by rw [stopWhenEmpty_st, st_upd_self]; exact (refusedReturn_request r _).trans idle)

/-! ## A new entry (R121 to R123) -/

/-- A station that takes an entry of the pending authorization table and raises its AUTH REQUEST. -/
def entryMade (reference : Nat) (kind : AuthKind) (amount left : Nat) (x : Station) : Station :=
  { x with
    auth := some ⟨reference, x.session.number, kind, amount, payerToken x.session.payer, left⟩
    cond := { x.cond with
      authRequest := some ⟨reference, x.session.number, kind, amount, payerToken x.session.payer⟩ } }

/-- The reference counter moved past a reference. -/
def referenceTaken (n : Nat) (s : State) : State := { s with cards := { s.cards with nextReference := nextShort n } }

theorem makeEntry_eq (i : StationId) (kind : AuthKind) (amount : Nat) (s : State) : makeEntry i kind amount s =
    (referenceTaken (freeReference s 16 s.cards.nextReference) s).upd i
      (entryMade (freeReference s 16 s.cards.nextReference) kind amount (seconds s.host.timers.auth)) := by
  unfold makeEntry
  dsimp only
  rw [raiseAuthRequest, State.updCond, upd_upd]
  exact upd_congr (s := referenceTaken (freeReference s 16 s.cards.nextReference) s) rfl

/-- A reference that no entry holds is taken as it comes. -/
theorem freeReference_free {n : Nat} (free : ∀ j e, (s.st j).auth = some e → e.reference ≠ n) : freeReference s 16 n = n := by
  have notHeld : referenceHeld s n = false := by
    simpa [referenceHeld, allStations, Option.any_eq_true] using free
  rw [freeReference, notHeld]
  rfl

end

end Sys2Proof.Machine
end

section
/-!
PROOFS. CARD (sections 2.3, 7.2, 7.3 and 7.6): the first check that fails, the entry made, or the stand-in decision.
-/

namespace Sys2Proof.Machine

section
variable {i : StationId} {s : State} {t : Token} {k : CardClass}

/-! ## The checks (R25, R26) -/

/-- The reason that refuses a CARD at a station, if one does. -/
def cardRefusal (i : StationId) (s : State) : Option RefusedReason :=
  if (s.st i).session.state ≠ .none then some .session else openingCheck i true s

theorem exec_card (inFrame : s.inFrame i = true) : exec (.card i t k) s = .next (deliver i (.card t k) s) :=
  congrArg Host.Outcome.next (if_pos inFrame)

theorem deliver_card_refused {reason : RefusedReason} (h : cardRefusal i s = some reason) :
    deliver i (.card t k) s = s.upd i (refusedAt s.idleFull reason) := by
  have refused : deliver i (.card t k) s = offer i (.refused reason) (activity i s) := by
    unfold cardRefusal at h
    simp only [deliver]
    by_cases live : (s.st i).session.state = .none
    · rw [if_neg (not_not.2 live)] at h
      rw [if_neg (by rw [sessionLive_iff, live]; simp), openByCard, openingCheck_activity, h]
    · rw [if_pos live] at h
      rw [if_pos ((sessionLive_iff _).2 live)]
      cases h
      rfl
  rw [refused, offer_refused_activity]

theorem cardRefusal_session (state : (s.st i).session.state ≠ .none) : cardRefusal i s = some .session := if_pos state

theorem cardRefusal_check (state : (s.st i).session.state = .none) : cardRefusal i s = openingCheck i true s :=
  if_neg (not_not.2 state)

/-- What lets a station open a card session. -/
structure CardPass (i : StationId) (s : State) : Prop where
  state : (s.st i).session.state = .none
  op : s.host.op = .running
  enabled : (s.st i).recovery.availability = .enabled
  level : s.journal.level ≠ .must
  room : RoomToOpen s
  cardsOn : s.cards.policy.initialHold ≠ 0

theorem openingCheck_cardsOff (op : s.host.op = .running) (enabled : (s.st i).recovery.availability = .enabled)
    (level : s.journal.level ≠ .must) (room : RoomToOpen s) (off : s.cards.policy.initialHold = 0) :
    openingCheck i true s = some .cardsOff := by
  rw [openingCheck_enabled op enabled (fun _ => level) room, off]
  rfl

theorem CardPass.check (pass : CardPass i s) : openingCheck i true s = none := by
  rw [openingCheck_enabled pass.op pass.enabled (fun _ => pass.level) pass.room, if_neg]
  simpa using pass.cardsOn

theorem cardRefusal_unless_pass (h : ¬ CardPass i s) : ∃ reason, cardRefusal i s = some reason := by
  by_cases state : (s.st i).session.state = .none
  · rw [cardRefusal_check state]
    by_cases op : s.host.op = .running
    · rcases available : (s.st i).recovery.availability
      · by_cases full : s.journal.level = .must ∨ ¬ RoomToOpen s
        · exact ⟨_, openingCheck_journal op available (full.imp_left fun must => ⟨rfl, must⟩)⟩
        · obtain ⟨level, room⟩ := not_or.1 full
          by_cases off : s.cards.policy.initialHold = 0
          · exact ⟨_, openingCheck_cardsOff op available level (not_not.1 room) off⟩
          · exact absurd ⟨state, op, available, level, not_not.1 room, off⟩ h
      · exact ⟨_, openingCheck_out op available⟩
    · exact ⟨_, openingCheck_stopped op⟩
  · exact ⟨_, cardRefusal_session state⟩

/-! ## The session that a CARD opens (R28, R124) -/

/-- The session that a CARD puts in AUTHORIZING. -/
def cardSession (s : State) (t : Token) (k : CardClass) : Session :=
  { Session.ended s.nextSession with
    state := .authorizing, payer := some (.card t), cardClass := some k, tariffClass := some s.cards.policy.tariffClass }

/-- The part with the session number taken. -/
def numberTaken (s : State) : State := { s with nextSession := nextShort s.nextSession }

/-- A station whose session enters AUTHORIZING. -/
def authorizingAt (s : State) (t : Token) (k : CardClass) (x : Station) : Station :=
  { x with session := cardSession s t k, idleTimer := none, cond := { x.cond with session := true } }

/-- The part with the session of station `i` in AUTHORIZING. -/
def authorizingState (i : StationId) (t : Token) (k : CardClass) (s : State) : State := (numberTaken s).upd i (authorizingAt s t k)

theorem authorizingState_st (i : StationId) (t : Token) (k : CardClass) (s : State) :
    (authorizingState i t k s).st i = authorizingAt s t k (s.st i) := st_upd_self ..

theorem authorizing_entered (idle : (s.st i).request = .idle) :
    reevaluate i (setSession i (fun _ => cardSession s t k) (takeNumber (activity i s)).2) = authorizingState i t k s := by
  have set : setSession i (fun _ => cardSession s t k) (takeNumber (activity i s)).2 = authorizingState i t k s := by
    rw [setSession_eq, syncIdle_eq, upd_upd]
    refine (upd_upd (numberTaken s) i (reloaded s.idleFull) _).trans (upd_congr ?_)
    exact judged_notOpen (by simp [cardSession])
  rw [set]
  exact reevaluate_idle (by rw [authorizingState_st]; exact idle)

theorem deliver_card_opens (pass : CardPass i s) (idle : (s.st i).request = .idle) : deliver i (.card t k) s =
    if s.host.linkUp then makeEntry i .initial s.cards.policy.initialHold (authorizingState i t k s)
    else decideStandIn i (authorizingState i t k s) := by
  simp only [deliver]
  rw [if_neg (by rw [sessionLive_iff, pass.state]; simp), openByCard, openingCheck_activity, pass.check]
  dsimp only
  unfold startAuthorizing
  dsimp only
  have entered_ := authorizing_entered (t := t) (k := k) idle
  unfold cardSession at entered_
  refine (congrArg (fun v : State => if v.host.linkUp then makeEntry i .initial v.cards.policy.initialHold v
    else decideStandIn i v) entered_).trans ?_
  rfl

/-- The card unit after a grant to the session of a CARD that has just been taken. -/
theorem standInAdded_cards {v : State} {x : Station} {f : Station → Station} (here : v.st i = x) :
    ((standInAdded i t v).upd i f).cards = { v.cards with
      standIn := v.cards.standIn ++ [⟨t, grantOf v, x.session.number, i, false⟩] } := by
  rw [← here]
  rfl

end

/-- Settles O56: the first check that fails refuses; a CARD that passes is sent for authorization, or decided by stand-in. -/
theorem cardsOpenSessions : Obligations.CardsOpenSessions := by
  intro i t k s inFrame x refused room pass next
  have refuses : ∀ {reason : RefusedReason}, cardRefusal i s = some reason → x.line.present = true → x.line.down.length < 4 →
      refused reason := fun h present space => by
    show exec (.card i t k) s = _
    rw [exec_card inFrame, deliver_card_refused h]
    exact congrArg _ (upd_congr (refusedAt_room present space))
  have passes : pass → CardPass i s := fun ⟨state, op, enabled, level, space, on⟩ => ⟨state, op, enabled, level, space, on⟩
  refine ⟨fun present space => ⟨fun live => ?session, fun state => ⟨fun op => ?stopped, fun op out => ?out,
      fun op enabled full => ?journal, fun op enabled level space_ off => ?cardsOff⟩⟩, fun absent fails => ?absent,
    fun ok idle up free => ?sent, fun ok idle down clear => ?standIn⟩
  case session => exact refuses (cardRefusal_session live) present space
  case stopped => exact refuses ((cardRefusal_check state).trans (openingCheck_stopped op)) present space
  case out => exact refuses ((cardRefusal_check state).trans (openingCheck_out op out)) present space
  case journal =>
    exact refuses ((cardRefusal_check state).trans
      (openingCheck_journal op enabled (full.imp_left fun must => ⟨rfl, must⟩))) present space
  case cardsOff =>
    exact refuses ((cardRefusal_check state).trans (openingCheck_cardsOff op enabled level space_ off)) present space
  case absent =>
    obtain ⟨reason, h⟩ := cardRefusal_unless_pass (i := i) (s := s)
      fun p => fails ⟨p.state, p.op, p.enabled, p.level, p.room, p.cardsOn⟩
    rw [exec_card inFrame, deliver_card_refused h]
    exact congrArg _ (upd_congr (refusedAt_absent absent))
  case sent =>
    have unheld : freeReference (authorizingState i t k s) 16 s.cards.nextReference = s.cards.nextReference := by
      refine freeReference_free fun j e held => free j e ?_
      by_cases same : j = i
      · subst same
        rw [authorizingState_st] at held
        exact held
      · rwa [authorizingState, st_upd_ne _ _ same] at held
    rw [exec_card inFrame, deliver_card_opens (passes ok) idle, if_pos up, makeEntry_eq]
    have counter : (authorizingState i t k s).cards.nextReference = s.cards.nextReference := rfl
    rw [counter, unheld]
    refine congrArg _ ((upd_upd (referenceTaken s.cards.nextReference (numberTaken s)) i (authorizingAt s t k) _).trans ?_)
    exact (upd_congr (s := referenceTaken s.cards.nextReference (numberTaken s)) rfl).trans rfl
  case standIn =>
    have here := authorizingState_st i t k s
    have moved := deliver_card_opens (t := t) (k := k) (passes ok) idle
    rw [if_neg (by rw [down]; nofun)] at moved
    have may : StandInMayGrant (authorizingState i t k s) t ↔ StandInMayGrant s t := Iff.rfl
    have idle_ : ((authorizingState i t k s).st i).request = .idle := by rw [here]; exact idle
    have state : ((authorizingState i t k s).st i).session.state = .authorizing := by rw [here]; rfl
    have payer : ((authorizingState i t k s).st i).session.payer = some (.card t) := by rw [here]; rfl
    refine ⟨_, exec_card inFrame, deliver_local i _ s, ?_⟩
    rw [moved]
    by_cases grants : StandInMayGrant s t
    · rw [decideStandIn_grants state payer (may.2 grants), grantStandIn_opens idle_ (by rw [here]; exact clear) (by rw [here]; rfl),
        st_upd_self, show (standInAdded i t (authorizingState i t k s)).st i = _ from here]
      refine ⟨rfl, rfl, rfl, fun _ => ⟨?_, ?_, fun present space => ?_⟩, fun not => absurd grants not⟩
      · rw [openedAt_session]
        rfl
      · exact standInAdded_cards here
      · rw [openedAt, offered_room (by exact present) (by exact space)]
        rfl
    · rw [decideStandIn_refuses state payer (mt may.1 grants), abandonAuthorizing_refused _ idle_, stopWhenEmpty_st, st_upd_self,
        here]
      obtain ⟨accounts, cards, journal, number⟩ :=
        (MoneyStays.upd (authorizingState i t k s) i (refusedReturn .offline)).trans (.stopWhenEmpty _)
      refine ⟨number, journal, accounts, fun yes => absurd yes grants, fun _ => ⟨?_, cards, fun present space => ?_⟩⟩
      · rw [refusedReturn_session]
        rfl
      · rw [refusedReturn_line (by exact present) (by exact space)]
        rfl

end Sys2Proof.Machine
end

section
/-!
PROOFS. The charge of a sheet (chapters 3 and 4): its price, its funds, the grant, and the increment that follows.
-/

namespace Sys2Proof.Machine

/-! ## The price and the quote (R49, R50) -/

theorem sheetPrice_eq (t : TierSet) (base count n : Nat) : sheetPrice t base count n =
    ((List.range n).map fun d => base * (100 - discountAt t (count + 1 + d)) / 100).sum := by
  induction n with
  | zero => rfl
  | succ n ih =>
    rw [sheetPrice, ih, List.range_succ, List.map_append, List.sum_append, Nat.add_right_comm]
    simp [impressionPrice]

section
variable {i : StationId} {s : State} {p : SheetSpec} {x : Session} {k : Fin 8} {base : Nat}

theorem quote_notPriced (tariff : x.tariffClass = some k) (unset : basePrice s.charge k p.media p.colour = none) :
    quote s.charge x p = .notPriced := by
  rw [quote, tariff]
  dsimp only
  rw [unset]

theorem quote_limit (tariff : x.tariffClass = some k) (priced : basePrice s.charge k p.media p.colour = some base)
    (past : PastLimits x p (costOf s k base x p)) : quote s.charge x p = .limit := by
  have price : sheetPrice s.charge.tiers[k] base x.impressions (sheetImpressions p) = costOf s k base x p := sheetPrice_eq ..
  rw [quote, tariff]
  dsimp only
  rw [priced]
  dsimp only
  rw [price]
  by_cases many : Config.impressionTop < x.impressions + sheetImpressions p
  · rw [if_pos many]
  · have dear : Config.fineTop < x.fineTotal + costOf s k base x p := past.resolve_left many
    rw [if_neg many, if_pos dear]

theorem quote_priced (tariff : x.tariffClass = some k) (priced : basePrice s.charge k p.media p.colour = some base)
    (within : ¬ PastLimits x p (costOf s k base x p)) : quote s.charge x p =
      .priced p.sides.val (costOf s k base x p) (unitsPosted x (costOf s k base x p)) := by
  have price : sheetPrice s.charge.tiers[k] base x.impressions (sheetImpressions p) = costOf s k base x p := sheetPrice_eq ..
  have few : ¬ Config.impressionTop < x.impressions + sheetImpressions p := (not_or.1 within).1
  have cheap : ¬ Config.fineTop < x.fineTotal + costOf s k base x p := (not_or.1 within).2
  rw [quote, tariff]
  dsimp only
  rw [priced]
  dsimp only
  rw [price, if_neg few, if_neg cheap]
  rfl

/-! ## Funds (R52, R53) -/

theorem fundsCheck_authority {delta : Nat} (payer : (∃ t, x.payer = some (.card t)) ∨ ∃ t, x.payer = some (.standIn t)) :
    fundsCheck x delta s = if x.spent + delta ≤ x.authority.getD 0 then some s else none := by
  have covers : authorityCovers x delta = true ↔ x.spent + delta ≤ x.authority.getD 0 := decide_eq_true_iff
  rcases payer with ⟨t, e⟩ | ⟨t, e⟩ <;> simp only [fundsCheck, e, covers]

theorem fundsCheck_account {n delta : Nat} {a : Account} (payer : x.payer = some (.account n))
    (found : findAccount s.accounts n = some a) : fundsCheck x delta s =
      if delta = 0 ∨ floorOf s.accounts.ranges n ≤ a.balance - delta then some (putAccount { a with balance := a.balance - delta } s)
      else none := by
  rw [fundsCheck, payer]
  dsimp only
  rw [debit, found]

/-! ## The grant of a charged sheet (R51, R61, R65) -/

/-- A station whose session has been charged for a sheet, which has joined the queue, and that is shown the amounts. -/
def chargedAt (full : Nat) (e : InFlight) (y : Session) (left : Nat) (x : Station) : Station :=
  offered (.showing y.spent left) (pushed full e { x with session := y })

theorem offerShow_eq (i : StationId) (s : State) : offerShow i s =
    s.upd i fun x => offered (.showing x.session.spent (remainingFor x.session s)) x := by
  rw [offerShow, offer_eq]
  exact upd_congr rfl

theorem pushed_session (full : Nat) (e : InFlight) (x : Station) : (pushed full e x).session = x.session := by rw [pushed_rest]

theorem grantCharged_form {y : Session} {n price : Nat} {f : Session → Session} (posted : f (s.st i).session = y) :
    grantCharged i n price p (s.updSession i f) =
      let v := s.upd i (chargedAt s.idleFull ⟨.charged, n, p.colour, p.media, price, 0, s.host.timers.transit⟩ y (remainingFor y s))
      if payerIsCard y.payer then afterGo i v else v := by
  have session : ((s.updSession i f).st i).session = y := by rw [st_updSession, posted]
  have shown : offerShow i (pushEntry i .charged n price p (s.updSession i f)) =
      s.upd i (chargedAt s.idleFull ⟨.charged, n, p.colour, p.media, price, 0, s.host.timers.transit⟩ y (remainingFor y s)) := by
    rw [offerShow_eq, pushEntry_eq, State.updSession, upd_upd, upd_upd]
    refine upd_congr ?_
    rw [posted, pushed_session]
    rfl
  unfold grantCharged
  dsimp only
  rw [session, shown]

/-- The charge of a priced sheet that the payer covers. -/
theorem evaluateCharge_go {t : State} (tariff : (s.st i).session.tariffClass = some k)
    (priced : basePrice s.charge k p.media p.colour = some base)
    (within : ¬ PastLimits (s.st i).session p (costOf s k base (s.st i).session p))
    (funds : fundsCheck (s.st i).session (unitsPosted (s.st i).session (costOf s k base (s.st i).session p)) s = some t) :
    evaluateCharge i p s =
      let y := chargedSession (s.st i).session p (costOf s k base (s.st i).session p)
      let v := t.upd i (chargedAt t.idleFull (sheetEntry t .charged p (costOf s k base (s.st i).session p)) y (remainingFor y t))
      (.go, if payerIsCard y.payer then afterGo i v else v) := by
  have st : t.st i = s.st i := fundsCheck_st funds i
  unfold evaluateCharge chargeSheet
  dsimp only
  rw [quote_priced tariff priced within]
  dsimp only
  rw [funds]
  dsimp only
  rw [grantCharged_form (y := chargedSession (s.st i).session p (costOf s k base (s.st i).session p)) (by rw [st]; rfl)]
  rfl

theorem evaluateCharge_short (tariff : (s.st i).session.tariffClass = some k)
    (priced : basePrice s.charge k p.media p.colour = some base)
    (within : ¬ PastLimits (s.st i).session p (costOf s k base (s.st i).session p))
    (short : fundsCheck (s.st i).session (unitsPosted (s.st i).session (costOf s k base (s.st i).session p)) s = none) :
    evaluateCharge i p s = answerShort i s := by
  unfold evaluateCharge chargeSheet
  dsimp only
  rw [quote_priced tariff priced within]
  dsimp only
  rw [short]

theorem evaluateCharge_notPriced (tariff : (s.st i).session.tariffClass = some k)
    (unset : basePrice s.charge k p.media p.colour = none) : evaluateCharge i p s = (.stop .notPriced, s) := by
  unfold evaluateCharge chargeSheet
  dsimp only
  rw [quote_notPriced tariff unset]

theorem evaluateCharge_limit (tariff : (s.st i).session.tariffClass = some k)
    (priced : basePrice s.charge k p.media p.colour = some base)
    (past : PastLimits (s.st i).session p (costOf s k base (s.st i).session p)) : evaluateCharge i p s = (.stop .limit, s) := by
  unfold evaluateCharge chargeSheet
  dsimp only
  rw [quote_limit tariff priced past]

/-! ## The evaluation at an OPEN session with hold NONE (R64) -/

theorem sides_not {p : SheetSpec} (sides : p.sides = 1 ∨ p.sides = 2) : ¬ (p.sides = 0 ∨ p.sides = 3) := by
  rcases sides with e | e <;> rw [e] <;> decide

section
variable (state : (s.st i).session.state = .opened) (hold : (s.st i).hold = .none)
include state hold

theorem evaluate_badSpec (sides : p.sides = 0 ∨ p.sides = 3) : evaluate i p s = (.stop .badSpec, s) := by
  unfold evaluate
  dsimp only
  rw [if_neg (by rw [state]; simp [noSession]), if_neg (by rw [state]; nofun), if_neg (by rw [state]; nofun),
    if_neg (by rw [hold]; nofun), if_pos sides]

theorem evaluate_charge (sides : p.sides = 1 ∨ p.sides = 2) (room : (s.st i).queue.length < 8) :
    evaluate i p s = evaluateCharge i p s := by
  unfold evaluate
  dsimp only
  rw [if_neg (by rw [state]; simp [noSession]), if_neg (by rw [state]; nofun), if_neg (by rw [state]; nofun),
    if_neg (by rw [hold]; nofun), if_neg (sides_not sides), if_neg (show ¬ Config.inFlightRoom ≤ _ from Nat.not_le.2 room),
    if_neg (by rw [hold]; nofun)]

end

/-- A full queue makes a pick wait, whether it would be charged or free. -/
theorem evaluate_pathFull (session : ((s.st i).session.state = .opened ∧ (s.st i).hold = .none) ∨
      (((s.st i).session.state = .none ∨ (s.st i).session.state = .authorizing ∨ (s.st i).session.state = .opened) ∧
        servesFree (s.st i).hold = true)) (sides : p.sides = 1 ∨ p.sides = 2) (full : 8 ≤ (s.st i).queue.length) :
    evaluate i p s = (.wait .pathFull, s) := by
  have first : ¬ (noSession (s.st i).session.state && !servesFree (s.st i).hold) = true := by
    rcases session with ⟨state, -⟩ | ⟨-, free⟩
    · rw [state]; simp [noSession]
    · rw [free]; simp
  have notStalled : (s.st i).session.state ≠ .stalled := by
    rcases session with ⟨state, -⟩ | ⟨state | state | state, -⟩ <;> rw [state] <;> nofun
  have notDraining : (s.st i).session.state ≠ .draining := by
    rcases session with ⟨state, -⟩ | ⟨state | state | state, -⟩ <;> rw [state] <;> nofun
  have notRequested : (s.st i).hold ≠ .requested := by
    rcases session with ⟨-, hold⟩ | ⟨-, free⟩
    · rw [hold]; nofun
    · exact fun e => by rw [e] at free; cases free
  unfold evaluate
  dsimp only
  rw [if_neg first, if_neg notStalled, if_neg notDraining, if_neg notRequested, if_neg (sides_not sides),
    if_pos (show Config.inFlightRoom ≤ _ from full)]

/-! ## Increments (R65, R67, R129) -/

theorem incrementOpen_iff {t : Token} (card : x.payer = some (.card t)) : incrementOpen s x = true ↔
    x.noMoreIncrements = false ∧ s.host.linkUp = true ∧ x.authority.getD 0 + s.cards.policy.increment ≤ 200000 := by
  simp only [incrementOpen, card, Bool.true_and, Bool.and_eq_true, Bool.not_eq_true', decide_eq_true_iff, and_assoc]
  exact Iff.rfl

theorem answerShort_notCard (other : payerIsCard (s.st i).session.payer = false) : answerShort i s = (.stop .funds, s) :=
  if_neg (by rw [other]; nofun)

theorem answerShort_card {t : Token} (card : (s.st i).session.payer = some (.card t)) : answerShort i s =
    match askIncrement i s with
    | (.asked, s') => (.wait .funds, s')
    | (.pending, s') => (.wait .funds, s')
    | (.no, s') => (.stop .funds, s') := if_pos (by rw [card]; rfl)

theorem answerShort_no {t : Token} (card : (s.st i).session.payer = some (.card t))
    (closed : ¬ incrementOpen s (s.st i).session = true) : answerShort i s = (.stop .funds, s) := by
  rw [answerShort_card card, askIncrement]
  rw [if_neg closed]

theorem answerShort_pending {t : Token} {e : AuthEntry} (card : (s.st i).session.payer = some (.card t))
    (isOpen : incrementOpen s (s.st i).session = true) (held : (s.st i).auth = some e) (kind : e.kind = .increment)
    (own : e.sessionNumber = (s.st i).session.number) : answerShort i s = (.wait .funds, s) := by
  rw [answerShort_card card, askIncrement]
  rw [if_pos isOpen, held]
  dsimp only
  rw [if_pos ⟨kind, own⟩]

theorem answerShort_asks {t : Token} (card : (s.st i).session.payer = some (.card t))
    (isOpen : incrementOpen s (s.st i).session = true) (none : (s.st i).auth = none) :
    answerShort i s = (.wait .funds, makeEntry i .increment s.cards.policy.increment s) := by
  rw [answerShort_card card, askIncrement]
  rw [if_pos isOpen, none]

end

/-! ## A waiting pick evaluated again (R68) -/

section
variable {i : StationId} {s t : State} {n m : Nat} {p : SheetSpec} {c : WaitCause}

/-- The pick is answered GO or STOP. -/
theorem reevaluate_answered {v : Verdict} (waits : (s.st i).request = .waiting n p c m) (final : ∀ c', v ≠ .wait c')
    (judged_ : evaluate i p s = (v, t)) : reevaluate i s = t.upd i (answered t.idleFull n v) := by
  unfold reevaluate
  rw [waits]
  dsimp only
  rw [judged_]
  split
  · next e => exact absurd (congrArg Prod.fst e) (final _)
  · next e =>
    obtain ⟨rfl, rfl⟩ := Prod.mk.inj e
    exact answerLine_setRequest ..

/-- The pick waits on, its wait timer running on. -/
theorem reevaluate_waits {c' : WaitCause} (waits : (s.st i).request = .waiting n p c m)
    (judged_ : evaluate i p s = (.wait c', t)) :
    reevaluate i s = t.upd i fun x => judged t.idleFull { x with request := .waiting n p c' m } := by
  unfold reevaluate
  rw [waits]
  dsimp only
  rw [judged_]
  dsimp only
  rw [setRequest, syncIdle_eq, upd_upd]
  rfl

end

end Sys2Proof.Machine
end

section
/-!
PROOFS. A waiting pick of a CARD session evaluated again (sections 4.3 and 7.4), and the authorization timeouts (section 7.3).
-/

namespace Sys2Proof.Machine

section
variable {i : StationId} {s : State} {p : SheetSpec} {price n m : Nat} {c : WaitCause}

/-! ## A sheet that a CARD session affords but for the funds -/

/-- The charge of a sheet that a CARD session affords, its authority covering it. -/
theorem evaluate_affords_covered (affords : CardAffords s (s.st i) p price)
    (covered : (s.st i).session.spent + unitsPosted (s.st i).session price ≤ (s.st i).session.authority.getD 0) :
    evaluate i p s = (.go, afterGo i (s.upd i (chargedAt s.idleFull (sheetEntry s .charged p price)
      (chargedSession (s.st i).session p price)
      ((s.st i).session.authority.getD 0 - (chargedSession (s.st i).session p price).spent)))) := by
  obtain ⟨opened, hold, sides, room, ⟨t, card⟩, ⟨k, base, tariff, priced, rfl⟩, limits⟩ := affords
  have funds : fundsCheck (s.st i).session (unitsPosted (s.st i).session (costOf s k base (s.st i).session p)) s = some s := by
    rw [fundsCheck_authority (.inl ⟨t, card⟩), if_pos covered]
  have isCard : payerIsCard (chargedSession (s.st i).session p (costOf s k base (s.st i).session p)).payer = true := by
    rw [show (chargedSession (s.st i).session p (costOf s k base (s.st i).session p)).payer = some (.card t) from card]
    rfl
  have left : remainingFor (chargedSession (s.st i).session p (costOf s k base (s.st i).session p)) s =
      (s.st i).session.authority.getD 0 - (chargedSession (s.st i).session p (costOf s k base (s.st i).session p)).spent := by
    unfold remainingFor
    rw [show (chargedSession (s.st i).session p (costOf s k base (s.st i).session p)).payer = some (.card t) from card]
    rfl
  rw [evaluate_charge opened hold sides room, evaluateCharge_go tariff priced limits funds]
  dsimp only
  rw [if_pos isCard, left]

/-- A sheet that the authority of a CARD session does not cover. -/
theorem evaluate_affords_short (affords : CardAffords s (s.st i) p price)
    (short : (s.st i).session.authority.getD 0 < (s.st i).session.spent + unitsPosted (s.st i).session price) :
    evaluate i p s = answerShort i s := by
  obtain ⟨opened, hold, sides, room, ⟨t, card⟩, ⟨k, base, tariff, priced, rfl⟩, limits⟩ := affords
  rw [evaluate_charge opened hold sides room]
  refine evaluateCharge_short tariff priced limits ?_
  rw [fundsCheck_authority (.inl ⟨t, card⟩), if_neg (Nat.not_le.2 short)]

theorem evaluate_affords_refused (affords : CardAffords s (s.st i) p price)
    (short : (s.st i).session.authority.getD 0 < (s.st i).session.spent + unitsPosted (s.st i).session price)
    (closed : ¬ incrementOpen s (s.st i).session = true) : evaluate i p s = (.stop .funds, s) := by
  obtain ⟨t, card⟩ := affords.card
  rw [evaluate_affords_short affords short, answerShort_no card closed]

/-! ## The increment after a charged GO -/

theorem afterGo_closed (closed : ¬ incrementOpen s (s.st i).session = true) : afterGo i s = s :=
  if_neg fun h => closed h.1

/-- What follows a charged GO changes the entry and the AUTH REQUEST of the station alone. -/
theorem afterGo_st (i : StationId) (s : State) : (afterGo i s).st i = { s.st i with
    auth := ((afterGo i s).st i).auth
    cond := { (s.st i).cond with authRequest := ((afterGo i s).st i).cond.authRequest } } := by
  unfold afterGo
  dsimp only
  split
  · rw [makeEntry_eq, st_upd_self]
    rfl
  · rfl

/-! ## What an answered pick leaves of the station -/

@[simp] theorem answered_session (full n : Nat) (v : Verdict) (x : Station) : (answered full n v x).session = x.session := rfl

@[simp] theorem answered_queue (full n : Nat) (v : Verdict) (x : Station) : (answered full n v x).queue = x.queue := rfl

@[simp] theorem answered_request (full n : Nat) (v : Verdict) (x : Station) : (answered full n v x).request = .idle := rfl

@[simp] theorem answered_auth (full n : Nat) (v : Verdict) (x : Station) : (answered full n v x).auth = x.auth := rfl

@[simp] theorem answered_cond (full n : Nat) (v : Verdict) (x : Station) : (answered full n v x).cond = x.cond := rfl

@[simp] theorem chargedAt_session (full : Nat) (e : InFlight) (y : Session) (left : Nat) (x : Station) :
    (chargedAt full e y left x).session = y := by simp [chargedAt, pushed_rest]

@[simp] theorem chargedAt_queue (full : Nat) (e : InFlight) (y : Session) (left : Nat) (x : Station) :
    (chargedAt full e y left x).queue = x.queue ++ [e] := by simp [chargedAt, pushed_rest]

@[simp] theorem chargedAt_latch (full : Nat) (e : InFlight) (y : Session) (left : Nat) (x : Station) :
    (chargedAt full e y left x).line.latch = x.line.latch := by simp [chargedAt, pushed_rest]

@[simp] theorem chargedAt_auth (full : Nat) (e : InFlight) (y : Session) (left : Nat) (x : Station) :
    (chargedAt full e y left x).auth = x.auth := by simp [chargedAt, pushed_rest]

@[simp] theorem chargedAt_authRequest (full : Nat) (e : InFlight) (y : Session) (left : Nat) (x : Station) :
    (chargedAt full e y left x).cond.authRequest = x.cond.authRequest := by simp [chargedAt, pushed_rest]

@[simp] theorem chargedAt_authCancel (full : Nat) (e : InFlight) (y : Session) (left : Nat) (x : Station) :
    (chargedAt full e y left x).cond.authCancel = x.cond.authCancel := by simp [chargedAt, pushed_rest]

/-- The answer goes to the latch that holds the pick. -/
theorem answered_latch_held {full : Nat} {v : Verdict} {w : Bool} {x : Station} (latch : x.line.latch = .raised n p w) :
    (answered full n v x).line.latch = match v with
      | .go => .answeredGo
      | .wait _ => .raised n p true
      | .stop r => .answeredStop r := by
  refine Eq.trans ?_ (answerLatch_held (n := n) (q := p) (w := w))
  rw [← latch]
  rfl

/-! ## A waiting pick of a CARD session whose increments have ended -/

/-- A station whose session asks no more increments. -/
def noMore (x : Station) : Station := { x with session := { x.session with noMoreIncrements := true } }

theorem noMore_closed : ¬ incrementOpen (s.upd i noMore) ((s.upd i noMore).st i).session = true := by
  rw [st_upd_self]
  simp [incrementOpen, noMore]

theorem endIncrements_idle (idle : (s.st i).request = .idle) : endIncrements i s = s.upd i noMore :=
  reevaluate_idle (by rw [State.updSession, st_upd_self]; exact idle)

theorem noMore_affords (affords : CardAffords s (s.st i) p price) : CardAffords (s.upd i noMore) ((s.upd i noMore).st i) p price := by
  obtain ⟨opened, hold, sides, room, card, priced, limits⟩ := affords
  rw [st_upd_self]
  exact ⟨opened, hold, sides, room, card, priced, limits⟩

theorem endIncrements_short (waits : (s.st i).request = .waiting n p c m) (affords : CardAffords s (s.st i) p price)
    (short : (s.st i).session.authority.getD 0 < (s.st i).session.spent + unitsPosted (s.st i).session price) :
    endIncrements i s = s.upd i fun x => answered s.idleFull n (.stop .funds) (noMore x) := by
  have result := reevaluate_answered (i := i) (s := s.upd i noMore) (v := .stop .funds) (by rw [st_upd_self]; exact waits) nofun
    (evaluate_affords_refused (noMore_affords affords) (by rw [st_upd_self]; exact short) noMore_closed)
  exact result.trans (upd_upd ..)

theorem endIncrements_covered (waits : (s.st i).request = .waiting n p c m) (affords : CardAffords s (s.st i) p price)
    (covered : (s.st i).session.spent + unitsPosted (s.st i).session price ≤ (s.st i).session.authority.getD 0) :
    endIncrements i s = s.upd i fun x => answered s.idleFull n .go (chargedAt s.idleFull (sheetEntry s .charged p price)
      (chargedSession (noMore (s.st i)).session p price)
      ((s.st i).session.authority.getD 0 - (chargedSession (s.st i).session p price).spent) (noMore x)) := by
  have here := st_upd_self s i noMore
  have judged_ := evaluate_affords_covered (noMore_affords affords) (by rw [here]; exact covered)
  have closed : ∀ g, (g (noMore (s.st i))).session = chargedSession (noMore (s.st i)).session p price →
      afterGo i ((s.upd i noMore).upd i g) = (s.upd i noMore).upd i g := fun g session => by
    refine afterGo_closed ?_
    rw [st_upd_self, here, session]
    simp [incrementOpen, noMore, chargedSession]
  rw [here, closed _ (chargedAt_session ..)] at judged_
  have result := reevaluate_answered (i := i) (s := s.upd i noMore) (v := .go) (by rw [here]; exact waits) nofun judged_
  refine result.trans ?_
  rw [upd_upd, upd_upd]
  rfl

/-! ## The timeouts (R127, R131) -/

theorem exec_initialAuthTimeout (inFrame : s.inFrame i = true) : exec (.initialAuthTimeout i) s = .next (authTimesOut i .initial s) :=
  congrArg Host.Outcome.next (if_pos inFrame)

theorem exec_incrementAuthTimeout (inFrame : s.inFrame i = true) :
    exec (.incrementAuthTimeout i) s = .next (authTimesOut i .increment s) := congrArg Host.Outcome.next (if_pos inFrame)

theorem authTimesOut_not {k : AuthKind} (h : ∀ e, (s.st i).auth = some e → e.kind ≠ k ∨ e.left ≠ 0) : authTimesOut i k s = s := by
  refine if_neg fun yes => ?_
  obtain ⟨e, held, both⟩ := (Option.any_eq_true ..).1 yes
  rw [Bool.and_eq_true, beq_iff_eq, beq_iff_eq] at both
  exact (h e held).elim (fun no => no both.1) fun no => no both.2

theorem authTimesOut_runs {k : AuthKind} {e : AuthEntry} (held : (s.st i).auth = some e) (kind : e.kind = k) (left : e.left = 0) :
    authTimesOut i k s = endEntry i .timeout s :=
  if_pos (by rw [held, Option.any_some, kind, left]; simp)

theorem endEntry_initial {e : AuthEntry} {cause : CancelCause} (held : (s.st i).auth = some e) (kind : e.kind = .initial) :
    endEntry i cause s = decideStandIn i (s.upd i (entryRemoved (some cause))) := by
  unfold endEntry
  rw [held]
  dsimp only
  rw [kind, removeEntry_eq]

theorem endEntry_increment {e : AuthEntry} {cause : CancelCause} (held : (s.st i).auth = some e) (kind : e.kind = .increment) :
    endEntry i cause s = endIncrements i (s.upd i (entryRemoved (some cause))) := by
  unfold endEntry
  rw [held]
  dsimp only
  rw [kind, removeEntry_eq]

end

end Sys2Proof.Machine
end

section
/-!
PROOFS. The authorization timeouts (sections 7.3, 7.4 and 7.6).
-/

namespace Sys2Proof.Machine

section
variable {i : StationId} {s : State} {p : SheetSpec} {price : Nat} {e : AuthEntry} {cause : CancelCause}

/-! ## An INCREMENT entry that ends without a result -/

theorem entryRemoved_affords {c : Option CancelCause} (affords : CardAffords s (s.st i) p price) :
    CardAffords (s.upd i (entryRemoved c)) ((s.upd i (entryRemoved c)).st i) p price := by
  obtain ⟨opened, hold, sides, room, card, priced, limits⟩ := affords
  rw [st_upd_self]
  refine ⟨by rw [entryRemoved_session]; exact opened, by rw [entryRemoved_hold]; exact hold, sides,
    by rw [entryRemoved_queue]; exact room, by rw [entryRemoved_session]; exact card, ?_,
    by rw [entryRemoved_session]; exact limits⟩
  rw [entryRemoved_session]
  exact priced

theorem entryRemoved_unsent {x : Station} {c : Option CancelCause} (held : x.auth = some e) (unsent : Unsent x e.reference) :
    entryRemoved c x = { x with auth := none, cond := { x.cond with authRequest := none } } := by
  simp only [entryRemoved, held, if_pos ((requestUnsent_iff x _).2 unsent)]

theorem entryRemoved_sent {x : Station} (held : x.auth = some e) (sent : ¬ Unsent x e.reference) :
    entryRemoved (some cause) x = { x with
      auth := none, cond := { x.cond with authCancel := some ⟨e.reference, cause⟩ } } := by
  simp only [entryRemoved, held, if_neg (mt (requestUnsent_iff x _).1 sent)]

theorem endEntry_increment_idle (held : (s.st i).auth = some e) (kind : e.kind = .increment) (idle : (s.st i).request = .idle) :
    endEntry i cause s = s.upd i fun x => noMore (entryRemoved (some cause) x) := by
  rw [endEntry_increment held kind, endIncrements_idle (by rw [st_upd_self, entryRemoved_request]; exact idle), upd_upd]

theorem entryCancelled_of {x y : Station} (held : x.auth = some e) (auth : y.auth = none)
    (request : y.cond.authRequest = (entryRemoved (some cause) x).cond.authRequest)
    (cancel : y.cond.authCancel = (entryRemoved (some cause) x).cond.authCancel) : EntryCancelled x y e.reference cause := by
  obtain ⟨-, unsent, sent⟩ := entryRemoved_cancelled held cause
  exact ⟨auth, fun h => ⟨request.trans (unsent h).1, cancel.trans (unsent h).2⟩, fun h => cancel.trans (sent h)⟩

/-- The entry's end leaves the waiting pick of a session that cannot afford it stopped FUNDS. -/
theorem endEntry_increment_short (held : (s.st i).auth = some e) (kind : e.kind = .increment) (waits : WaitsFor (s.st i) p)
    (affords : CardAffords s (s.st i) p price)
    (short : (s.st i).session.authority.getD 0 < (s.st i).session.spent + unitsPosted (s.st i).session price) :
    ∃ f, endEntry i cause s = s.upd i f ∧ EntryCancelled (s.st i) (f (s.st i)) e.reference cause ∧
      (f (s.st i)).request = .idle ∧ (f (s.st i)).line.latch = .answeredStop .funds ∧ (f (s.st i)).queue = (s.st i).queue ∧
      (f (s.st i)).session = { (s.st i).session with noMoreIncrements := true } := by
  obtain ⟨n, c, k, w, waiting, latch⟩ := waits
  rw [endEntry_increment held kind, endIncrements_short (n := n) (p := p) (c := c) (m := k)
    (by rw [st_upd_self, entryRemoved_request]; exact waiting)
    (entryRemoved_affords affords) (by rw [st_upd_self, entryRemoved_session]; exact short), upd_upd]
  refine ⟨_, rfl, entryCancelled_of held (entryRemoved_auth ..) rfl rfl, rfl, ?_, ?_, ?_⟩
  · exact answered_latch_held (w := w) (by show (entryRemoved _ _).line.latch = _; rw [entryRemoved_line]; exact latch)
  · exact entryRemoved_queue ..
  · show { (entryRemoved (some cause) (s.st i)).session with noMoreIncrements := true } = _
    rw [entryRemoved_session]

/-- The entry's end grants the waiting pick that the authority covers. -/
theorem endEntry_increment_covered (held : (s.st i).auth = some e) (kind : e.kind = .increment) (waits : WaitsFor (s.st i) p)
    (affords : CardAffords s (s.st i) p price)
    (covered : (s.st i).session.spent + unitsPosted (s.st i).session price ≤ (s.st i).session.authority.getD 0) :
    ∃ f, endEntry i cause s = s.upd i f ∧ EntryCancelled (s.st i) (f (s.st i)) e.reference cause ∧
      (f (s.st i)).request = .idle ∧ (f (s.st i)).line.latch = .answeredGo ∧
      (f (s.st i)).queue = (s.st i).queue ++ [sheetEntry s .charged p price] ∧
      (f (s.st i)).session = { chargedSession (s.st i).session p price with noMoreIncrements := true } := by
  obtain ⟨n, c, k, w, waiting, latch⟩ := waits
  rw [endEntry_increment held kind, endIncrements_covered (n := n) (p := p) (c := c) (m := k) (price := price)
    (by rw [st_upd_self, entryRemoved_request]; exact waiting)
    (entryRemoved_affords affords) (by rw [st_upd_self, entryRemoved_session]; exact covered), upd_upd, st_upd_self]
  refine ⟨_, rfl, entryCancelled_of held ?_ ?_ ?_, rfl, ?_, ?_, ?_⟩
  · rw [answered_auth, chargedAt_auth]
    exact entryRemoved_auth ..
  · rw [answered_cond, chargedAt_authRequest]
    rfl
  · rw [answered_cond, chargedAt_authCancel]
    rfl
  · refine answered_latch_held (p := p) (w := w) ?_
    rw [chargedAt_latch]
    show (entryRemoved _ _).line.latch = _
    rw [entryRemoved_line]
    exact latch
  · rw [answered_queue, chargedAt_queue]
    show (entryRemoved (some cause) (s.st i)).queue ++ _ = _
    rw [entryRemoved_queue]
    rfl
  · rw [answered_session, chargedAt_session]
    show chargedSession { (entryRemoved (some cause) (s.st i)).session with noMoreIncrements := true } p price = _
    rw [entryRemoved_session]
    rfl

/-! ## An INITIAL entry that ends without a result -/

/-- The card of an AUTHORIZING session, nothing pending and no pick waiting, is left to stand-in. -/
theorem endEntry_initial_decided {t : Token} (held : (s.st i).auth = some e) (kind : e.kind = .initial)
    (state : (s.st i).session.state = .authorizing) (payer : (s.st i).session.payer = some (.card t))
    (noPending : (s.st i).session.closePending = none) (clear : (s.st i).recovery.stoppage = none)
    (idle : (s.st i).request = .idle) :
    EntryCancelled (s.st i) ((endEntry i cause s).st i) e.reference cause ∧ (endEntry i cause s).journal = s.journal ∧
    (endEntry i cause s).accounts = s.accounts ∧
    (StandInMayGrant s t →
      ((endEntry i cause s).st i).session = { (s.st i).session with
        state := .opened, payer := some (.standIn t), authority := some (grantOf s), increments := 0
        noMoreIncrements := false, openTime := some s.journal.clock } ∧
      (endEntry i cause s).cards = { s.cards with
        standIn := s.cards.standIn ++ [⟨t, grantOf s, (s.st i).session.number, i, false⟩] } ∧
      ((s.st i).line.present = true → (s.st i).line.down.length < 4 →
        ((endEntry i cause s).st i).line =
          { (s.st i).line with down := (s.st i).line.down ++ [.opened .standIn (grantOf s)] })) ∧
    (¬ StandInMayGrant s t →
      ((endEntry i cause s).st i).session = Session.ended (s.st i).session.number ∧ (endEntry i cause s).cards = s.cards ∧
      ((s.st i).line.present = true → (s.st i).line.down.length < 4 →
        ((endEntry i cause s).st i).line = { (s.st i).line with down := (s.st i).line.down ++ [.refused .offline] })) := by
  have here := st_upd_self s i (entryRemoved (some cause))
  have may : StandInMayGrant (s.upd i (entryRemoved (some cause))) t ↔ StandInMayGrant s t := Iff.rfl
  have grant : grantOf (s.upd i (entryRemoved (some cause))) = grantOf s := rfl
  have state_ : ((s.upd i (entryRemoved (some cause))).st i).session.state = .authorizing := by
    rw [here, entryRemoved_session]; exact state
  have payer_ : ((s.upd i (entryRemoved (some cause))).st i).session.payer = some (.card t) := by
    rw [here, entryRemoved_session]; exact payer
  have idle_ : ((s.upd i (entryRemoved (some cause))).st i).request = .idle := by
    rw [here, entryRemoved_request]; exact idle
  rw [endEntry_initial held kind]
  by_cases grants : StandInMayGrant s t
  · have opens := grantStandIn_opens (t := t) idle_ (by rw [here, entryRemoved_recovery]; exact clear)
      (by rw [here, entryRemoved_session]; exact noPending)
    rw [grant] at opens
    rw [decideStandIn_grants state_ payer_ (may.2 grants), opens, st_upd_self,
      show (standInAdded i t (s.upd i (entryRemoved (some cause)))).st i = _ from here]
    refine ⟨entryCancelled_of held ?_ ?_ ?_, rfl, rfl, fun _ => ⟨?_, ?_, fun present room => ?_⟩, fun no => absurd grants no⟩
    · rw [openedAt_auth]
      exact entryRemoved_auth ..
    · exact offered_authRequest ..
    · exact offered_authCancel ..
    · rw [openedAt_session]
      have session : (standInEntered (s.upd i (entryRemoved (some cause))).idleFull t (grantOf s)
          (entryRemoved (some cause) (s.st i))).session = standInSession t (grantOf s) (s.st i).session :=
        congrArg (standInSession t (grantOf s)) (entryRemoved_session ..)
      rw [session]
      rfl
    · rw [standInAdded_cards here, entryRemoved_session]
      rfl
    · have line : (standInEntered (s.upd i (entryRemoved (some cause))).idleFull t (grantOf s)
          (entryRemoved (some cause) (s.st i))).line = (s.st i).line := entryRemoved_line ..
      rw [openedAt, offered_room (by show StationLine.present (Station.line _) = true; exact line ▸ present)
        (by show (StationLine.down (Station.line _)).length < 4; exact line ▸ room)]
      exact congrArg (fun l : StationLine => { l with down := l.down ++ [DownMsg.opened .standIn (grantOf s)] }) line
  · rw [decideStandIn_refuses state_ payer_ (mt may.1 grants), abandonAuthorizing_refused _ idle_, stopWhenEmpty_st, st_upd_self, here]
    obtain ⟨accounts, cards, journal, -⟩ :=
      (MoneyStays.upd (s.upd i (entryRemoved (some cause))) i (refusedReturn .offline)).trans (.stopWhenEmpty _)
    obtain ⟨request, cancel⟩ := refusedReturn_authConds .offline (entryRemoved (some cause) (s.st i))
    refine ⟨entryCancelled_of held (by simp) request cancel, journal, accounts, fun yes => absurd yes grants,
      fun _ => ⟨by simp, cards, fun present room => ?_⟩⟩
    rw [refusedReturn_line (by rw [entryRemoved_line]; exact present) (by rw [entryRemoved_line]; exact room), entryRemoved_line]

end

/-- Settles O60: a timer that has not run out changes nothing; an entry that has ends by its kind. -/
theorem authorizationTimeouts : Obligations.AuthorizationTimeouts := by
  intro i s inFrame x
  refine ⟨fun not => ?initial, fun not => ?increment, fun e held left kind p price waits affords => ?waiting,
    fun e held left idle => ⟨fun kind => ?idleIncrement, fun t kind state payer noPending clear => ?decided⟩⟩
  case initial => rw [exec_initialAuthTimeout inFrame, authTimesOut_not not]
  case increment => rw [exec_incrementAuthTimeout inFrame, authTimesOut_not not]
  case waiting =>
    have runs := authTimesOut_runs held kind left
    refine ⟨_, (exec_incrementAuthTimeout inFrame).trans (congrArg _ runs), endEntry_local i _ s, ?_⟩
    by_cases covered : x.session.spent + unitsPosted x.session price ≤ x.session.authority.getD 0
    · obtain ⟨f, result, cancelled, idle, latch, queue, session⟩ :=
        endEntry_increment_covered (cause := .timeout) held kind waits affords covered
      rw [result, st_upd_self]
      exact ⟨cancelled, idle, fun short => absurd covered (Nat.not_le.2 short), fun _ => ⟨latch, queue, session⟩⟩
    · obtain ⟨f, result, cancelled, idle, latch, queue, session⟩ :=
        endEntry_increment_short (cause := .timeout) held kind waits affords (Nat.not_le.1 covered)
      rw [result, st_upd_self]
      exact ⟨cancelled, idle, fun _ => ⟨latch, queue, session⟩, fun yes => absurd yes covered⟩
  case idleIncrement =>
    rw [exec_incrementAuthTimeout inFrame, authTimesOut_runs held kind left, endEntry_increment_idle held kind idle]
    refine ⟨fun unsent => congrArg _ (upd_congr ?_), fun sent => congrArg _ (upd_congr ?_)⟩
    · rw [entryRemoved_unsent held unsent]
      rfl
    · rw [entryRemoved_sent held sent]
      rfl
  case decided =>
    refine ⟨_, (exec_initialAuthTimeout inFrame).trans (congrArg _ (authTimesOut_runs held kind left)), endEntry_local i _ s, ?_⟩
    exact endEntry_initial_decided held kind state payer noPending clear idle

end Sys2Proof.Machine
end

section
/-!
PROOFS. An AUTH REQUEST that has just been raised has not begun sending: no operation of an opening or of a waiting pick raises a
cancel (section 7.2).
-/

namespace Sys2Proof.Machine

/-- A station with the given unsent cancel, whose entry, if it has one, has its AUTH REQUEST unsent. -/
def EntryFresh (cancel : Option AuthCancel) (x : Station) : Prop :=
  x.cond.authCancel = cancel ∧ ∀ e, x.auth = some e → Unsent x e.reference

section
variable {i : StationId} {s : State} {cancel : Option AuthCancel} {x y : Station}

theorem EntryFresh.of_same (h : EntryFresh cancel x) (auth : y.auth = x.auth) (request : y.cond.authRequest = x.cond.authRequest)
    (same : y.cond.authCancel = x.cond.authCancel) : EntryFresh cancel y := by
  refine ⟨same.trans h.1, fun e held => ?_⟩
  obtain ⟨r, raised, reference⟩ := h.2 e (auth ▸ held)
  exact ⟨r, request.trans raised, reference⟩

theorem entryFresh_none (none : x.auth = none) (same : x.cond.authCancel = cancel) : EntryFresh cancel x :=
  ⟨same, fun e held => by rw [none] at held; cases held⟩

theorem entryMade_fresh (n : Nat) (k : AuthKind) (a left : Nat) (h : x.cond.authCancel = cancel) :
    EntryFresh cancel (entryMade n k a left x) := by
  refine ⟨h, fun e held => ⟨_, rfl, ?_⟩⟩
  obtain rfl := Option.some.inj held
  rfl

theorem makeEntry_fresh (k : AuthKind) (a : Nat) (h : EntryFresh cancel (s.st i)) : EntryFresh cancel ((makeEntry i k a s).st i) := by
  rw [makeEntry_eq, st_upd_self]
  exact entryMade_fresh _ _ _ _ h.1

theorem offered_fresh (m : DownMsg) (h : EntryFresh cancel x) : EntryFresh cancel (offered m x) :=
  h.of_same (offered_auth ..) (offered_authRequest ..) (offered_authCancel ..)

theorem offer_fresh (m : DownMsg) (h : EntryFresh cancel (s.st i)) : EntryFresh cancel ((offer i m s).st i) := by
  rw [offer_eq, st_upd_self]
  exact offered_fresh m h

theorem setSession_fresh (f : Session → Session) (h : EntryFresh cancel (s.st i)) :
    EntryFresh cancel ((setSession i f s).st i) := by
  rw [setSession_eq, syncIdle_eq, upd_upd, st_upd_self]
  exact h.of_same rfl rfl rfl

/-! ## Picks -/

theorem afterGo_fresh (h : EntryFresh cancel (s.st i)) : EntryFresh cancel ((afterGo i s).st i) := by
  unfold afterGo
  dsimp only
  split
  · exact makeEntry_fresh _ _ h
  · exact h

theorem answerShort_fresh (h : EntryFresh cancel (s.st i)) : EntryFresh cancel ((answerShort i s).2.st i) := by
  have asked : EntryFresh cancel ((askIncrement i s).2.st i) := by
    unfold askIncrement
    dsimp only
    split
    · split
      · exact makeEntry_fresh _ _ h
      · split <;> exact h
    · exact h
  unfold answerShort
  split
  · split <;> rename_i e <;> rw [e] at asked <;> exact asked
  · exact h

theorem chargeSheet_fresh (p : SheetSpec) (h : EntryFresh cancel (s.st i)) : EntryFresh cancel ((chargeSheet i p s).2.st i) := by
  unfold chargeSheet
  dsimp only
  split
  · exact h
  · exact h
  · split
    · exact h
    · next funds =>
      dsimp only
      rw [st_updSession, fundsCheck_st funds]
      exact h.of_same rfl rfl rfl

theorem evaluateCharge_fresh (p : SheetSpec) (h : EntryFresh cancel (s.st i)) :
    EntryFresh cancel ((evaluateCharge i p s).2.st i) := by
  have charged := chargeSheet_fresh p h
  unfold evaluateCharge
  split <;> rename_i e <;> rw [e] at charged
  · exact charged
  · exact charged
  · rename_i n price t
    have pushed_ : EntryFresh cancel ((offerShow i (pushEntry i .charged n price p t)).st i) := by
      refine offer_fresh _ ?_
      rw [pushEntry_eq, st_upd_self, pushed_rest]
      exact charged.of_same rfl rfl rfl
    show EntryFresh cancel ((grantCharged i n price p t).st i)
    unfold grantCharged
    dsimp only
    split
    · exact afterGo_fresh pushed_
    · exact pushed_
  · exact answerShort_fresh charged

theorem evaluate_fresh (p : SheetSpec) (h : EntryFresh cancel (s.st i)) : EntryFresh cancel ((evaluate i p s).2.st i) := by
  rcases evaluate_cases i p s with ⟨same, -⟩ | ⟨-, -, free⟩ | ⟨-, -, -, charged⟩
  · rw [same]
    exact h
  · rw [free, grantService_eq, st_upd_self, pushed_rest]
    exact h.of_same rfl rfl rfl
  · rw [charged]
    exact evaluateCharge_fresh p h

theorem reevaluate_fresh (h : EntryFresh cancel (s.st i)) : EntryFresh cancel ((reevaluate i s).st i) := by
  rcases reevaluate_cases i s with ⟨-, same⟩ | ⟨n, p, c, left, -, ⟨c', -, e⟩ | ⟨-, e⟩⟩
  · rw [same]
    exact h
  · rw [e, setRequest, syncIdle_eq, upd_upd, st_upd_self]
    exact (evaluate_fresh p h).of_same rfl rfl rfl
  · rw [e, answerLine_setRequest, st_upd_self]
    exact (evaluate_fresh p h).of_same rfl rfl rfl

/-! ## Sessions -/

theorem stallUnlessHeld_fresh (h : EntryFresh cancel (s.st i)) : EntryFresh cancel ((stallUnlessHeld i s).st i) := by
  unfold stallUnlessHeld
  dsimp only
  split
  · rw [stallSession_eq, st_upd_self, stalledAt_rest]
    exact h.of_same rfl rfl rfl
  · exact h

/-- A close takes an unsent AUTH REQUEST back, and raises no cancel. -/
theorem closedAt_fresh {spent : Nat} {cent : ClosingCent} (h : EntryFresh cancel x) :
    EntryFresh cancel (closedAt .closed spent cent x) := by
  obtain ⟨-, -, request, cancelled⟩ := closedAt_cond .closed spent cent x
  have auth : (closedAt .closed spent cent x).auth = (payerEntry .closed x).auth := by rw [closedAt_rest]
  refine EntryFresh.of_same (x := payerEntry .closed x) ?_ auth request cancelled
  unfold payerEntry
  split
  · refine entryFresh_none (entryRemoved_auth ..) ?_
    rcases held : x.auth with _ | e
    · rw [entryRemoved_none held]
      exact h.1
    · rw [entryRemoved_unsent held (h.2 e held)]
      exact h.1
  · exact h

theorem drainCheck_fresh (h : EntryFresh cancel (s.st i)) : EntryFresh cancel ((drainCheck i s).st i) := by
  unfold drainCheck
  dsimp only
  split
  · split
    · refine reevaluate_fresh ?_
      rw [closeStep_st]
      exact closedAt_fresh h
    · exact h
  · exact h

theorem goDraining_fresh (r : CloseReason) (h : EntryFresh cancel (s.st i)) : EntryFresh cancel ((goDraining i r s).st i) := by
  refine drainCheck_fresh ?_
  rw [startDraining_eq, st_upd_self, drained_rest]
  exact h.of_same rfl rfl rfl

theorem sessionOpened_fresh (k : PayerKind) (a : Nat) (h : EntryFresh cancel (s.st i)) :
    EntryFresh cancel ((sessionOpened i k a s).st i) := by
  have opened : EntryFresh cancel ((reevaluate i (offer i (.opened k a)
      (s.updSession i fun x => { x with openTime := some s.journal.clock }))).st i) := by
    refine reevaluate_fresh (offer_fresh _ ?_)
    rw [st_updSession]
    exact h.of_same rfl rfl rfl
  unfold sessionOpened
  dsimp only
  split <;> split
  · exact goDraining_fresh _ (stallUnlessHeld_fresh opened)
  · exact goDraining_fresh _ opened
  · exact stallUnlessHeld_fresh opened
  · exact opened

theorem abandonAuthorizing_fresh (r : RefusedReason) (h : EntryFresh cancel (s.st i)) :
    EntryFresh cancel ((abandonAuthorizing i (some r) s).st i) := by
  obtain ⟨request, cancelled⟩ := refusedReturn_authConds r (s.st i)
  rw [abandonAuthorizing_some, stopWhenEmpty_st, st_upd_self]
  exact h.of_same (refusedReturn_auth r (s.st i)) request cancelled

/-! ## Results (R126, R130) -/

theorem applyResult_fresh (k : AuthKind) (a : Nat) (h : EntryFresh cancel (s.st i)) :
    EntryFresh cancel ((applyResult i k a s).st i) := by
  have session : ∀ f : Session → Session, EntryFresh cancel ((s.updSession i f).st i) := fun f => by
    rw [st_updSession]
    exact h.of_same rfl rfl rfl
  cases k <;> simp only [applyResult] <;> split
  · unfold declineInitial
    split
    · exact reevaluate_fresh (abandonAuthorizing_fresh _ h)
    · exact h
  · unfold approveInitial
    split
    · exact sessionOpened_fresh _ _ (setSession_fresh _ h)
    · exact h
  · exact reevaluate_fresh (session _)
  · exact reevaluate_fresh (session _)

end

end Sys2Proof.Machine
end

section
/-!
PROOFS. AUTH RESULT (sections 7.3 and 7.4): the checks, and what a result does to its entry, its session and its waiting pick.
-/

namespace Sys2Proof.Machine

section
variable {reference : BitVec 16} {outcome : Byte} {amount : BitVec 24} {s : State} {i : StationId} {e : AuthEntry}

/-! ## The checks (R125) -/

theorem exec_authResult (idle : lineIdle s) : exec (.authResult reference outcome amount) s =
    .next (bufferReply 0x18 (takeAuthResult reference outcome amount s)) := exec_request_idle idle (.authResult reference outcome amount)

theorem outcome_known (h : outcome.toNat = 1 ∨ outcome.toNat = 2) : outcome = 1 ∨ outcome = 2 :=
  h.imp (fun e => BitVec.eq_of_toNat_eq e) fun e => BitVec.eq_of_toNat_eq e

theorem takeAuthResult_range (bad : reference.toNat = 0 ∨ outcome.toNat = 0 ∨ 2 < outcome.toNat) :
    takeAuthResult reference outcome amount s = answerRefused .range s := by
  refine if_pos ?_
  rcases bad with zero | bad
  · exact .inl (BitVec.eq_of_toNat_eq zero)
  · refine .inr ⟨?_, ?_⟩ <;> rintro rfl <;> revert bad <;> decide

theorem takeAuthResult_known (nonzero : reference.toNat ≠ 0) (known : outcome.toNat = 1 ∨ outcome.toNat = 2) :
    takeAuthResult reference outcome amount s = match referenceStation s reference.toNat with
      | none => answerRefused .late s
      | some i =>
        match (s.st i).auth with
        | none => answerRefused .late s
        | some e => resultTaken i e (amountApplied outcome amount.toNat e.amount) s := by
  refine if_neg fun h => ?_
  rcases h with zero | ⟨notOne, notTwo⟩
  · exact bitVec_ne_zero nonzero zero
  · exact (outcome_known known).elim notOne notTwo

theorem holdsReference_iff (n : Nat) : ((s.st i).auth.any fun e => e.reference == n) = true ↔
    ∃ e, (s.st i).auth = some e ∧ e.reference = n := by
  rw [Option.any_eq_true]
  simp

theorem referenceStation_none {n : Nat} (no : ∀ i e, (s.st i).auth = some e → e.reference ≠ n) : referenceStation s n = none := by
  refine List.find?_eq_none.2 fun j _ h => ?_
  obtain ⟨e, held, reference⟩ := (holdsReference_iff n).1 h
  exact no j e held reference

theorem referenceStation_only {n : Nat} (held : (s.st i).auth = some e) (reference : e.reference = n)
    (only : ∀ j x, (s.st j).auth = some x → x.reference = n → j = i) : referenceStation s n = some i := by
  rcases found : referenceStation s n with _ | j
  · have no := List.find?_eq_none.1 found i (List.mem_finRange i)
    exact absurd ((holdsReference_iff n).2 ⟨e, held, reference⟩) no
  · have found' := List.find?_some (show allStations.find? (fun i => (s.st i).auth.any fun e => e.reference == n) = some j from found)
    obtain ⟨x, held', reference'⟩ := (holdsReference_iff n).1 found'
    rw [only j x held' reference']

/-- A result for the only entry of its reference. -/
theorem takeAuthResult_taken (nonzero : reference.toNat ≠ 0) (known : outcome.toNat = 1 ∨ outcome.toNat = 2)
    (held : (s.st i).auth = some e) (same : e.reference = reference.toNat)
    (only : ∀ j x, (s.st j).auth = some x → x.reference = reference.toNat → j = i) :
    takeAuthResult reference outcome amount s = resultTaken i e (amountApplied outcome amount.toNat e.amount) s := by
  rw [takeAuthResult_known nonzero known, referenceStation_only held same only]
  dsimp only
  rw [held] <;> rfl

theorem amountApplied_eq {requested : Nat} (known : outcome.toNat = 1 ∨ outcome.toNat = 2) :
    amountApplied outcome amount.toNat requested = if outcome.toNat = 1 then min amount.toNat requested else 0 := by
  rcases outcome_known known with rfl | rfl <;> rfl

theorem bodyIs_result (i : StationId) (k : AuthKind) (n : Nat) :
    bodyIs ([stationByte i, authKindValue k, outcomeTaken n] ++ beBytes 3 n)
      [(1, i.val), (1, match k with | .initial => 1 | .increment => 2), (1, if n = 0 then 2 else 1), (3, n)] := by
  refine bodyIs_of_bytes ?_
  have outcome : outcomeTaken n = BitVec.ofNat 8 (if n = 0 then 2 else 1) := by unfold outcomeTaken; split <;> rfl
  have kind : authKindValue k = BitVec.ofNat 8 (match k with | .initial => 1 | .increment => 2) := by cases k <;> rfl
  simp only [stationByte, outcome, kind, beBytes_one, List.flatMap_cons, List.flatMap_nil, List.cons_append, List.nil_append,
    List.append_nil]

end

/-! ## An approval of an INITIAL entry (R126) -/

section
variable {s : State} {i : StationId} {n : Nat}

/-- A session that an approval opens, its open time not yet taken. -/
def approvedSession (n : Nat) (x : Session) : Session :=
  { x with state := .opened, authority := some n, increments := 0, noMoreIncrements := false }

/-- A station whose session an approval opens, OPENED not yet offered. -/
def approvedAt (full n : Nat) (x : Station) : Station :=
  judged full { x with session := approvedSession n x.session, cond := { x.cond with session := true } }

theorem approveInitial_eq (state : (s.st i).session.state = .authorizing) :
    approveInitial i n s = sessionOpened i .card n (s.upd i (approvedAt s.idleFull n)) := by
  unfold approveInitial
  rw [if_pos state]
  refine congrArg (sessionOpened i .card n) ?_
  rw [setSession_eq, syncIdle_eq, upd_upd]
  rfl

section
variable (state : (s.st i).session.state = .authorizing) (idle : (s.st i).request = .idle)
include state idle

theorem approveInitial_stalls (stopped : (s.st i).recovery.stoppage ≠ none) (hold : (s.st i).hold = .none ∨ (s.st i).hold = .requested) :
    approveInitial i n s = s.upd i fun x => stallEntered (minutes s.host.timers.stall)
      (openedAt .card n s.journal.clock (approvedAt s.idleFull n x)) := by
  have here := st_upd_self s i (approvedAt s.idleFull n)
  rw [approveInitial_eq state, sessionOpened_stalls (by rw [here]; exact idle) (by rw [here]; rfl) (by rw [here]; exact stopped)
    (by rw [here]; exact hold), upd_upd]
  rfl

theorem approveInitial_opens (free : (s.st i).recovery.stoppage = none ∨ servesFree (s.st i).hold = true)
    (noPending : (s.st i).session.closePending = none) : approveInitial i n s = s.upd i fun x =>
      openedAt .card n s.journal.clock (approvedAt s.idleFull n x) := by
  have here := st_upd_self s i (approvedAt s.idleFull n)
  rw [approveInitial_eq state, sessionOpened_opens (by rw [here]; exact idle) (by rw [here]; exact free)
    (by rw [here]; exact noPending), upd_upd]
  rfl

theorem approveInitial_pending {r : CloseReason} (free : (s.st i).recovery.stoppage = none ∨ servesFree (s.st i).hold = true)
    (pending : (s.st i).session.closePending = some r) : approveInitial i n s = goDraining i r (s.upd i fun x =>
      openedAt .card n s.journal.clock (approvedAt s.idleFull n x)) := by
  have here := st_upd_self s i (approvedAt s.idleFull n)
  rw [approveInitial_eq state, sessionOpened_pending (by rw [here]; exact idle) (by rw [here]; rfl) (by rw [here]; exact free)
    (by rw [here]; exact pending), upd_upd]
  rfl

/-- With no pick waiting an approval leaves the station without an entry where it had none. -/
theorem approveInitial_auth (n : Nat) (noEntry : (s.st i).auth = none) : ((approveInitial i n s).st i).auth = none := by
  have auth : (openedAt .card n s.journal.clock (approvedAt s.idleFull n (s.st i))).auth = none := by
    rw [openedAt_auth]
    exact noEntry
  by_cases stall : (s.st i).recovery.stoppage ≠ none ∧ ((s.st i).hold = .none ∨ (s.st i).hold = .requested)
  · rw [approveInitial_stalls state idle stall.1 stall.2, st_upd_self]
    exact auth
  · have free : (s.st i).recovery.stoppage = none ∨ servesFree (s.st i).hold = true := by
      by_cases clear : (s.st i).recovery.stoppage = none
      · exact .inl clear
      · exact .inr (by rw [← Bool.not_eq_false, servesFree_false_iff]; exact fun h => stall ⟨clear, h⟩)
    rcases pending : (s.st i).session.closePending with _ | r
    · rw [approveInitial_opens state idle free pending, st_upd_self]
      exact auth
    · rw [approveInitial_pending state idle free pending]
      have here := st_upd_self s i fun x => openedAt .card n s.journal.clock (approvedAt s.idleFull n x)
      by_cases charged : ∃ e ∈ (s.st i).queue, e.kind = .charged
      · rw [goDraining_charged r (by rw [here, openedAt_queue]; exact charged), st_upd_self, drained_rest, here]
        exact auth
      · have left : ∀ e ∈ (s.st i).queue, e.kind ≠ .charged := fun e mem kind => charged ⟨e, mem, kind⟩
        rw [goDraining_closes_st r (by rw [here, openedAt_queue]; exact left), closedAt_rest, here, payerEntry_none]
        all_goals
          rw [drained_rest]
          exact auth

end

end

end Sys2Proof.Machine
end

section
/-!
PROOFS. AUTH RESULT (sections 7.3 and 7.4): an approval of an INCREMENT entry, the declines, and the whole request.
-/

namespace Sys2Proof.Machine

section
variable {s : State} {i : StationId} {n m k : Nat} {p : SheetSpec} {price : Nat} {c : WaitCause} {w : Bool}

/-! ## An approval of an INCREMENT entry (R130) -/

/-- A session that an approval of an increment gives more authority. -/
def raisedSession (n : Nat) (x : Session) : Session :=
  { x with authority := some (x.authority.getD 0 + n), increments := min 65535 (x.increments + 1) }

/-- A station whose session an approval of an increment gives more authority. -/
def authorityRaised (n : Nat) (x : Station) : Station := { x with session := raisedSession n x.session }

theorem approveIncrement_eq : approveIncrement i n s = reevaluate i (s.upd i (authorityRaised n)) := rfl

theorem approveIncrement_idle (idle : (s.st i).request = .idle) : approveIncrement i n s = s.upd i (authorityRaised n) := by
  rw [approveIncrement_eq]
  exact reevaluate_idle (by rw [st_upd_self]; exact idle)

theorem authorityRaised_affords (affords : CardAffords s (s.st i) p price) :
    CardAffords (s.upd i (authorityRaised n)) ((s.upd i (authorityRaised n)).st i) p price := by
  obtain ⟨opened, hold, sides, room, card, priced, limits⟩ := affords
  rw [st_upd_self]
  exact ⟨opened, hold, sides, room, card, priced, limits⟩

/-- What follows a charged GO leaves the session, the queue and the line of the station. -/
theorem afterGo_upd (f : Station → Station) : ((afterGo i (s.upd i f)).st i).session = (f (s.st i)).session ∧
    ((afterGo i (s.upd i f)).st i).queue = (f (s.st i)).queue ∧ ((afterGo i (s.upd i f)).st i).line = (f (s.st i)).line := by
  rw [afterGo_st, st_upd_self]
  exact ⟨rfl, rfl, rfl⟩

section
variable (waits : (s.st i).request = .waiting m p c k) (affords : CardAffords s (s.st i) p price)
include waits affords

/-- The waiting pick is granted where the authority now covers it. -/
theorem approveIncrement_covered (latch : (s.st i).line.latch = .raised m p w)
    (covered : (s.st i).session.spent + unitsPosted (s.st i).session price ≤ (s.st i).session.authority.getD 0 + n) :
    ((approveIncrement i n s).st i).request = .idle ∧ ((approveIncrement i n s).st i).line.latch = .answeredGo ∧
    ((approveIncrement i n s).st i).queue = (s.st i).queue ++ [sheetEntry s .charged p price] ∧
    ((approveIncrement i n s).st i).session = chargedSession (raisedSession n (s.st i).session) p price := by
  have here := st_upd_self s i (authorityRaised n)
  have judged_ := evaluate_affords_covered (authorityRaised_affords (n := n) affords) (by rw [here]; exact covered)
  rw [here] at judged_
  obtain ⟨session, queue, line⟩ := afterGo_upd (i := i) (s := s.upd i (authorityRaised n))
    (chargedAt (s.upd i (authorityRaised n)).idleFull (sheetEntry (s.upd i (authorityRaised n)) .charged p price)
      (chargedSession (authorityRaised n (s.st i)).session p price)
      ((authorityRaised n (s.st i)).session.authority.getD 0 -
        (chargedSession (authorityRaised n (s.st i)).session p price).spent))
  rw [here] at session queue line
  rw [approveIncrement_eq, reevaluate_answered (v := .go) (by rw [here]; exact waits) nofun judged_, st_upd_self]
  refine ⟨rfl, ?_, ?_, ?_⟩
  · refine answered_latch_held (p := p) (w := w) ?_
    rw [line, chargedAt_latch]
    exact latch
  · rw [answered_queue, queue, chargedAt_queue]
    rfl
  · rw [answered_session, session, chargedAt_session]
    rfl

/-- The waiting pick is stopped where the authority does not cover it, and no further increment can be asked. -/
theorem approveIncrement_refused
    (short : (s.st i).session.authority.getD 0 + n < (s.st i).session.spent + unitsPosted (s.st i).session price)
    (closed : ¬ incrementOpen s (raisedSession n (s.st i).session) = true) :
    approveIncrement i n s = s.upd i fun x => answered s.idleFull m (.stop .funds) (authorityRaised n x) := by
  have here := st_upd_self s i (authorityRaised n)
  have judged_ := evaluate_affords_refused (authorityRaised_affords (n := n) affords) (by rw [here]; exact short)
    (by rw [here]; exact closed)
  rw [approveIncrement_eq, reevaluate_answered (v := .stop .funds) (by rw [here]; exact waits) nofun judged_]
  exact upd_upd ..

/-- The waiting pick waits on, with a further increment asked, where one can be. -/
theorem approveIncrement_asks (noEntry : (s.st i).auth = none)
    (short : (s.st i).session.authority.getD 0 + n < (s.st i).session.spent + unitsPosted (s.st i).session price)
    (isOpen : incrementOpen s (raisedSession n (s.st i).session) = true) :
    ((approveIncrement i n s).st i).session = raisedSession n (s.st i).session ∧
    ((approveIncrement i n s).st i).queue = (s.st i).queue ∧ ((approveIncrement i n s).st i).request = .waiting m p .funds k ∧
    ∃ f, ((approveIncrement i n s).st i).auth = some f ∧ f.kind = .increment ∧ f.amount = s.cards.policy.increment := by
  have here := st_upd_self s i (authorityRaised n)
  obtain ⟨t, card⟩ := affords.card
  have judged_ := evaluate_affords_short (authorityRaised_affords (n := n) affords) (by rw [here]; exact short)
  rw [answerShort_asks (t := t) (by rw [here]; exact card) (by rw [here]; exact isOpen) (by rw [here]; exact noEntry)] at judged_
  rw [approveIncrement_eq, reevaluate_waits (by rw [here]; exact waits) judged_, st_upd_self, makeEntry_eq, st_upd_self]
  have at_ : ((referenceTaken (freeReference (s.upd i (authorityRaised n)) 16 (s.upd i (authorityRaised n)).cards.nextReference)
      (s.upd i (authorityRaised n))).st i) = authorityRaised n (s.st i) := here
  rw [at_]
  exact ⟨rfl, rfl, rfl, _, rfl, rfl, rfl⟩

end

/-! ## A decline of an INITIAL entry (R126) -/

theorem declineInitial_session (state : (s.st i).session.state = .authorizing) :
    ((declineInitial i s).st i).session = Session.ended (s.st i).session.number ∧
    ((s.st i).line.present = true → (s.st i).line.down.length < 4 →
      ((declineInitial i s).st i).line.down = (s.st i).line.down ++ [.refused .declined]) ∧
    ((s.st i).request = .idle → ((declineInitial i s).st i).auth = (s.st i).auth) := by
  have at_ : (abandonAuthorizing i (some .declined) s).st i = refusedReturn .declined (s.st i) := by
    rw [abandonAuthorizing_some, stopWhenEmpty_st, st_upd_self]
    rfl
  have none : ¬ (((abandonAuthorizing i (some .declined) s).st i).session.state = .opened ∧
      ((abandonAuthorizing i (some .declined) s).st i).hold = .none) := by
    rw [at_, refusedReturn_session]
    exact fun h => nomatch h.1
  obtain ⟨g, result, parts⟩ := reevaluate_free none
  unfold declineInitial
  rw [if_pos state]
  refine ⟨?_, fun present room => ?_, fun idle => ?_⟩
  · rw [reevaluate_free_session none, at_, refusedReturn_session]
  · rw [result, st_upd_self, parts, at_]
    exact congrArg StationLine.down (refusedReturn_line present room)
  · rw [abandonAuthorizing_refused _ idle, stopWhenEmpty_st, st_upd_self, refusedReturn_auth]

/-- With no pick waiting a result leaves the station without an entry where it had none. -/
theorem applyResult_auth (kind : AuthKind) (n : Nat) (idle : (s.st i).request = .idle) (noEntry : (s.st i).auth = none) :
    ((applyResult i kind n s).st i).auth = none := by
  cases kind <;> simp only [applyResult] <;> split
  · by_cases state : (s.st i).session.state = .authorizing
    · rw [(declineInitial_session state).2.2 idle, noEntry]
    · rw [declineInitial, if_neg state, noEntry]
  · by_cases state : (s.st i).session.state = .authorizing
    · exact approveInitial_auth state idle n noEntry
    · rw [approveInitial, if_neg state, noEntry]
  · rw [endIncrements_idle idle, st_upd_self]
    exact noEntry
  · rw [approveIncrement_idle idle, st_upd_self]
    exact noEntry

/-! ## An approval that closes the session at once (R30, R37) -/

/-- The session that an approval has opened. -/
def openedByApproval (n clock : Nat) (x : Session) : Session := { approvedSession n x with openTime := some clock }

/-- The state in which an approval has opened the session of station `i`. -/
def State.approved (s : State) (i : StationId) (n : Nat) : State :=
  s.upd i fun x => openedAt .card n s.journal.clock (approvedAt s.idleFull n x)

theorem approved_st : (s.approved i n).st i = openedAt .card n s.journal.clock (approvedAt s.idleFull n (s.st i)) :=
  st_upd_self ..

theorem approved_session : ((s.approved i n).st i).session = openedByApproval n s.journal.clock (s.st i).session := by
  rw [approved_st]
  exact openedAt_session ..

theorem approved_line (present : (s.st i).line.present = true) (room : (s.st i).line.down.length < 4) :
    (openedAt .card n s.journal.clock (approvedAt s.idleFull n (s.st i))).line =
      { (s.st i).line with down := (s.st i).line.down ++ [.opened .card n] } := by
  have down := offered_room (m := .opened .card n) (x := { approvedAt s.idleFull n (s.st i) with
    session := openedByApproval n s.journal.clock (s.st i).session }) present room
  exact congrArg Station.line down

theorem approveInitial_closes {r : CloseReason} {payer : Payer} (state : (s.st i).session.state = .authorizing)
    (idle : (s.st i).request = .idle) (free : (s.st i).recovery.stoppage = none ∨ servesFree (s.st i).hold = true)
    (pending : (s.st i).session.closePending = some r) (paid : (s.st i).session.payer = some payer)
    (left : ∀ f ∈ (s.st i).queue, f.kind ≠ .charged) : ∃ (cent : ClosingCent) (spent : Nat),
      FinalSpent s (openedByApproval n s.journal.clock (s.st i).session) cent spent ∧
      ((approveInitial i n s).st i).session = Session.ended (s.st i).session.number ∧
      (approveInitial i n s).journal.records = s.journal.records ++
        [closeRecord s i (openedByApproval n s.journal.clock (s.st i).session) payer r cent spent] ∧
      ((s.st i).line.present = true → (s.st i).line.down.length < 3 →
        ((approveInitial i n s).st i).line.down = (s.st i).line.down ++ [.opened .card n, .closed spent cent]) := by
  have idle' : ((s.approved i n).st i).request = .idle := by rw [approved_st, openedAt_request]; exact idle
  have left' : ∀ f ∈ ((s.approved i n).st i).queue, f.kind ≠ .charged := by rw [approved_st, openedAt_queue]; exact left
  have closes : approveInitial i n s = goDraining i r (s.approved i n) := approveInitial_pending state idle free pending
  have final := closingCent_final i (s.approved i n)
  rw [approved_session] at final
  rw [closes]
  refine ⟨_, _, final, ?_, ?_, fun present room => ?_⟩
  · rw [(goDraining_closes_session r left').1, approved_session]
    rfl
  · rw [goDraining_closes r left', closeStep_journal (payer := payer)
      (by rw [st_upd_self, drained_rest, approved_session]; exact paid), (closingCent_drained r).1, (closingCent_drained r).2,
      st_upd_self, drained_idle idle']
    simp only [drainEntered, approved_session]
    rfl
  · rw [goDraining_closes_st r left']
    have line : (drained (s.approved i n).idleFull r ((s.approved i n).st i)).line =
        { (s.st i).line with down := (s.st i).line.down ++ [.opened .card n] } := by
      rw [drained_idle idle', approved_st]
      exact approved_line present (Nat.lt_succ_of_lt room)
    rw [closedAt_down_room (by rw [line]; exact present) (by rw [line, List.length_append]; exact Nat.succ_lt_succ room), line,
      List.append_assoc]
    rfl

end

end Sys2Proof.Machine
end

section
/-!
PROOFS. AUTH RESULT settled (sections 7.3 and 7.4).
-/

namespace Sys2Proof.Machine

section
variable {s : State} {i : StationId}

/-- The state with the entry of station `i` removed and no cancel raised. -/
def State.entryTaken (s : State) (i : StationId) : State := s.upd i (entryRemoved none)

theorem entryTaken_st : (s.entryTaken i).st i = entryRemoved none (s.st i) := st_upd_self ..

theorem entryTaken_auth : ((s.entryTaken i).st i).auth = none := by
  rw [entryTaken_st]
  exact entryRemoved_auth ..

theorem entryTaken_affords {p : SheetSpec} {price : Nat} (affords : CardAffords s (s.st i) p price) :
    CardAffords (s.entryTaken i) ((s.entryTaken i).st i) p price := entryRemoved_affords affords

theorem resultTaken_eq (i : StationId) (e : AuthEntry) (n : Nat) (s : State) : resultTaken i e n s =
    answerOk ([stationByte i, authKindValue e.kind, outcomeTaken n] ++ beBytes 3 n) (applyResult i e.kind n (s.entryTaken i)) := by
  rw [resultTaken, removeEntry_eq]
  rfl

theorem servesFree_or (h : (s.st i).recovery.stoppage = none ∨ (s.st i).hold = .held ∨ (s.st i).hold = .releasing) :
    (s.st i).recovery.stoppage = none ∨ servesFree (s.st i).hold = true := h.imp id (servesFree_iff _).2

end

/-- Settles O35: the checks, then the entry removed and the result applied by its kind. -/
theorem authResultIsApplied : Obligations.AuthResultIsApplied := by
  refine ⟨fun reference outcome amount s idle => ⟨fun bad => ?_, fun nonzero known late => ?_⟩,
    fun reference outcome amount s i e n idle nonzero known held same only applied => ?_⟩
  · rw [exec_authResult idle, takeAuthResult_range bad, bufferReply_refused]
  · rw [exec_authResult idle, takeAuthResult_known nonzero known, referenceStation_none late, bufferReply_refused]
  obtain rfl : n = amountApplied outcome amount.toNat e.amount := applied.trans (amountApplied_eq known).symm
  have taken := exec_authResult (reference := reference) (outcome := outcome) (amount := amount) idle
  rw [takeAuthResult_taken nonzero known held same only, resultTaken_eq, bufferReply_ok] at taken
  generalize amountApplied outcome amount.toNat e.amount = n at *
  have here := entryTaken_st (s := s) (i := i)
  have fresh := applyResult_fresh (i := i) (s := s.entryTaken i) e.kind n (cancel := (s.st i).cond.authCancel)
    (entryFresh_none entryTaken_auth (by rw [here]; exact entryRemoved_silent _))
  refine ⟨_, _, taken, bodyIs_result i e.kind n, (upd_local ..).trans (applyResult_local ..), fresh.1,
    fun quiet => applyResult_auth _ _ (by rw [here, entryRemoved_request]; exact quiet) entryTaken_auth,
    fun kind state quiet nonzero => ?approved, fun kind state zero => ?declined, fun kind quiet => ?increment,
    fun kind p price waits affords => ?waiting⟩
  case approved =>
    have state' : ((s.entryTaken i).st i).session.state = .authorizing := by rw [here, entryRemoved_session]; exact state
    have quiet' : ((s.entryTaken i).st i).request = .idle := by rw [here, entryRemoved_request]; exact quiet
    simp only [kind, applyResult, if_neg nonzero]
    refine ⟨fun free => ?_, fun stopped hold => ?_⟩
    · have free' : ((s.entryTaken i).st i).recovery.stoppage = none ∨ servesFree ((s.entryTaken i).st i).hold = true := by
        rw [here, entryRemoved_recovery, entryRemoved_hold]; exact servesFree_or free
      refine ⟨fun noPending => ?_, fun r payer pending paid left => ?_⟩
      · rw [approveInitial_opens state' quiet' free' (by rw [here, entryRemoved_session]; exact noPending), st_upd_self,
          openedAt_session, here]
        exact congrArg (openedByApproval n s.journal.clock) (entryRemoved_session ..)
      · have closes := approveInitial_closes (n := n) (r := r) (payer := payer) state' quiet' free'
          (by rw [here, entryRemoved_session]; exact pending) (by rw [here, entryRemoved_session]; exact paid)
          (by rw [here, entryRemoved_queue]; exact left)
        simp only [here, entryRemoved_session, entryRemoved_line] at closes
        exact closes
    · rw [approveInitial_stalls state' quiet' (by rw [here, entryRemoved_recovery]; exact stopped)
        (by rw [here, entryRemoved_hold]; exact hold), st_upd_self, here]
      have session : (openedAt .card n s.journal.clock (approvedAt s.idleFull n (entryRemoved none (s.st i)))).session =
          openedByApproval n s.journal.clock (s.st i).session :=
        (openedAt_session ..).trans (congrArg (openedByApproval n s.journal.clock) (entryRemoved_session ..))
      have recovery : (openedAt .card n s.journal.clock (approvedAt s.idleFull n (entryRemoved none (s.st i)))).recovery =
          (s.st i).recovery := (openedAt_recovery ..).trans (entryRemoved_recovery ..)
      have meters : (openedAt .card n s.journal.clock (approvedAt s.idleFull n (entryRemoved none (s.st i)))).meters =
          (s.st i).meters := (openedAt_meters ..).trans (entryRemoved_meters ..)
      exact ⟨congrArg stalledRecord session, rfl, (congrArg Recovery.stoppage recovery :),
        congrArg (fun y : Meters => { y with stalls := addMeter y.stalls 1 }) meters⟩
  case declined =>
    have state' : ((s.entryTaken i).st i).session.state = .authorizing := by rw [here, entryRemoved_session]; exact state
    obtain ⟨session, line, -⟩ := declineInitial_session state'
    simp only [kind, applyResult, if_pos zero]
    simp only [here, entryRemoved_session, entryRemoved_line] at session line
    exact ⟨session, line⟩
  case increment =>
    have quiet' : ((s.entryTaken i).st i).request = .idle := by rw [here, entryRemoved_request]; exact quiet
    simp only [kind, applyResult]
    refine ⟨fun nonzero => ?_, fun zero => ?_⟩
    · rw [if_neg nonzero, approveIncrement_idle quiet', st_upd_self, here]
      simp only [authorityRaised, entryRemoved_session, raisedSession]
    · rw [if_pos zero, endIncrements_idle quiet', st_upd_self, here]
      simp only [noMore, entryRemoved_session]
  case waiting =>
    intro wanted asks
    obtain ⟨m, c, k, w, waiting, latch⟩ := waits
    have waits' : ((s.entryTaken i).st i).request = .waiting m p c k := by rw [here, entryRemoved_request]; exact waiting
    have latch' : ((s.entryTaken i).st i).line.latch = .raised m p w := by rw [here, entryRemoved_line]; exact latch
    have affords' := entryTaken_affords affords
    have isOpen := incrementOpen_iff (s := s) (x := raisedSession n (s.st i).session) affords.card.choose_spec
    simp only [kind, applyResult]
    refine ⟨fun nonzero covered => ?_, fun nonzero short => ?_, fun zero short => ?_⟩
    · have granted := approveIncrement_covered (n := n) waits' affords' latch'
        (by rw [here, entryRemoved_session]; exact covered)
      rw [if_neg nonzero]
      simp only [here, entryRemoved_session, entryRemoved_queue] at granted
      obtain ⟨request, answer, queue, session⟩ := granted
      exact ⟨request, answer, queue, session⟩
    · have short' : ((s.entryTaken i).st i).session.authority.getD 0 + n <
          ((s.entryTaken i).st i).session.spent + unitsPosted ((s.entryTaken i).st i).session price := by
        rw [here, entryRemoved_session]; exact short
      rw [if_neg nonzero]
      by_cases further : asks
      · have waitsOn := approveIncrement_asks (n := n) waits' affords' entryTaken_auth short'
          (by rw [here, entryRemoved_session]; exact isOpen.2 further)
        simp only [here, entryRemoved_session, entryRemoved_queue] at waitsOn
        obtain ⟨session, queue, request, entry⟩ := waitsOn
        exact ⟨session, queue, fun no => absurd further no, fun _ => ⟨⟨m, c, k, waiting, request⟩, entry⟩⟩
      · rw [approveIncrement_refused (n := n) waits' affords' short'
          (by rw [here, entryRemoved_session]; exact mt isOpen.1 further), st_upd_self, here]
        refine ⟨?_, ?_, fun _ => ⟨rfl, ?_⟩, fun yes => absurd yes further⟩
        · exact congrArg (raisedSession n) (entryRemoved_session ..)
        · exact entryRemoved_queue ..
        · refine answered_latch_held (p := p) (w := w) ?_
          rw [← here]
          exact latch'
    · rw [if_pos zero, endIncrements_short waits' affords' (by rw [here, entryRemoved_session]; exact short), st_upd_self, here]
      refine ⟨rfl, ?_, ?_, ?_⟩
      · refine answered_latch_held (p := p) (w := w) ?_
        rw [← here]
        exact latch'
      · exact entryRemoved_queue ..
      · exact congrArg (fun x : Session => { x with noMoreIncrements := true }) (entryRemoved_session ..)

end Sys2Proof.Machine
end

section
/-!
PROOFS. With the link DOWN no entry is made: what an evaluation and an opening leave of the cards, the journal and the entry of a
station (sections 7.4 to 7.6).
-/

namespace Sys2Proof.Machine

/-- What an operation at station `i` leaves that makes no entry, opens and closes no session: the cards, the journal, the entry with its
two conditions, and the payer. -/
structure EntryStays (i : StationId) (s t : State) : Prop where
  link : t.host.linkUp = s.host.linkUp
  cards : t.cards = s.cards
  journal : t.journal = s.journal
  auth : (t.st i).auth = (s.st i).auth
  request : (t.st i).cond.authRequest = (s.st i).cond.authRequest
  cancel : (t.st i).cond.authCancel = (s.st i).cond.authCancel
  payer : (t.st i).session.payer = (s.st i).session.payer

section
variable {i : StationId} {s t u : State}

theorem EntryStays.refl (i : StationId) (s : State) : EntryStays i s s := ⟨rfl, rfl, rfl, rfl, rfl, rfl, rfl⟩

theorem EntryStays.trans (h : EntryStays i s t) (k : EntryStays i t u) : EntryStays i s u :=
  ⟨k.link.trans h.link, k.cards.trans h.cards, k.journal.trans h.journal, k.auth.trans h.auth, k.request.trans h.request,
    k.cancel.trans h.cancel, k.payer.trans h.payer⟩

theorem EntryStays.upd {f : Station → Station} (auth : (f (s.st i)).auth = (s.st i).auth)
    (request : (f (s.st i)).cond.authRequest = (s.st i).cond.authRequest)
    (cancel : (f (s.st i)).cond.authCancel = (s.st i).cond.authCancel)
    (payer : (f (s.st i)).session.payer = (s.st i).session.payer) : EntryStays i s (s.upd i f) := by
  refine ⟨rfl, rfl, rfl, ?_, ?_, ?_, ?_⟩ <;> rw [st_upd_self] <;> assumption

theorem offer_entry (m : DownMsg) : EntryStays i s (offer i m s) := by
  rw [offer_eq]
  exact .upd (offered_auth ..) (offered_authRequest ..) (offered_authCancel ..) (by rw [offered_session])

/-! ## Picks with the link DOWN (R67, R129) -/

theorem incrementOpen_down (down : s.host.linkUp = false) (x : Session) : ¬ incrementOpen s x = true := by
  simp [incrementOpen, down]

theorem answerShort_down (down : s.host.linkUp = false) (i : StationId) : answerShort i s = (.stop .funds, s) := by
  unfold answerShort askIncrement
  dsimp only
  rw [if_neg (incrementOpen_down down _)]
  split <;> rfl

/-- A funds check changes the account records alone. -/
theorem fundsCheck_accounts {x : Session} {d : Nat} (h : fundsCheck x d s = some t) : t = { s with accounts := t.accounts } := by
  simp only [fundsCheck] at h
  split at h
  · obtain ⟨a, -, -, rfl⟩ := debit_spec h
    rfl
  · split at h <;> cases h
    rfl
  · split at h <;> cases h
    rfl
  · cases h

theorem chargeSheet_entry (p : SheetSpec) : EntryStays i s (chargeSheet i p s).2 := by
  unfold chargeSheet
  dsimp only
  split
  · exact .refl i s
  · exact .refl i s
  · split
    · exact .refl i s
    · next t funds =>
      have checked : EntryStays i s t := by
        rw [fundsCheck_accounts funds]
        exact ⟨rfl, rfl, rfl, rfl, rfl, rfl, rfl⟩
      have posted : ∀ f : Session → Session, (f (t.st i).session).payer = (t.st i).session.payer →
          EntryStays i t (t.updSession i f) := fun f payer => .upd rfl rfl rfl payer
      exact checked.trans (posted _ rfl)

theorem grantCharged_entry (down : s.host.linkUp = false) (n price : Nat) (p : SheetSpec) :
    EntryStays i s (grantCharged i n price p s) := by
  have shown_ : EntryStays i s (offerShow i (pushEntry i .charged n price p s)) := by
    refine EntryStays.trans ?_ (offer_entry _)
    rw [pushEntry_eq]
    refine .upd ?_ ?_ ?_ ?_ <;> rw [pushed_rest]
  unfold grantCharged
  dsimp only
  split
  · rw [afterGo_closed (incrementOpen_down (shown_.link.trans down) _)]
    exact shown_
  · exact shown_

theorem evaluateCharge_entry (down : s.host.linkUp = false) (p : SheetSpec) : EntryStays i s (evaluateCharge i p s).2 := by
  have charged := chargeSheet_entry (i := i) (s := s) p
  unfold evaluateCharge
  split <;> rename_i e <;> rw [e] at charged
  · exact charged
  · exact charged
  · exact charged.trans (grantCharged_entry (charged.link.trans down) ..)
  · rw [answerShort_down (charged.link.trans down)]
    exact charged

theorem evaluate_entry (down : s.host.linkUp = false) (p : SheetSpec) : EntryStays i s (evaluate i p s).2 := by
  rcases evaluate_cases i p s with ⟨same, -⟩ | ⟨-, -, free⟩ | ⟨-, -, -, charged⟩
  · rw [same]
    exact .refl i s
  · rw [free, grantService_eq]
    refine .upd ?_ ?_ ?_ ?_ <;> rw [pushed_rest]
  · rw [charged]
    exact evaluateCharge_entry down p

theorem reevaluate_entry (down : s.host.linkUp = false) : EntryStays i s (reevaluate i s) := by
  rcases reevaluate_cases i s with ⟨-, same⟩ | ⟨n, p, c, left, -, ⟨c', -, e⟩ | ⟨-, e⟩⟩
  · rw [same]
    exact .refl i s
  · rw [e, setRequest, syncIdle_eq, upd_upd]
    exact (evaluate_entry down p).trans (.upd rfl rfl rfl rfl)
  · rw [e, answerLine_setRequest]
    exact (evaluate_entry down p).trans (.upd rfl rfl rfl rfl)

/-! ## Sessions with the link DOWN -/

theorem stallUnlessHeld_entry : EntryStays i s (stallUnlessHeld i s) := by
  unfold stallUnlessHeld
  dsimp only
  split
  · rw [stallSession_eq]
    exact .upd (by rw [stalledAt_rest]; rfl) (by rw [stalledAt_rest]; rfl) (by rw [stalledAt_rest]; rfl)
      (by rw [stalledAt_rest]; rfl)
  · exact .refl i s

theorem startDraining_entry (r : CloseReason) : EntryStays i s (startDraining i r s) := by
  rw [startDraining_eq]
  refine .upd ?_ ?_ ?_ ?_ <;> rw [drained_rest]
  rfl

/-! ## What an opening by stand-in leaves (R30, R134) -/

/-- What a stand-in decision at station `i` leaves with the link DOWN: no entry where there was none, its two conditions, and the
entries of the stand-in list that hold another token. -/
structure TableStays (i : StationId) (tok : Option Token) (s t : State) : Prop where
  link : t.host.linkUp = s.host.linkUp
  auth : (t.st i).auth = (s.st i).auth
  request : (t.st i).cond.authRequest = (s.st i).cond.authRequest
  cancel : (t.st i).cond.authCancel = (s.st i).cond.authCancel
  listed : ∀ e ∈ s.cards.standIn, some e.token ≠ tok → e ∈ t.cards.standIn

variable {tok : Token} {its : Option Token}

theorem EntryStays.table (h : EntryStays i s t) : TableStays i its s t :=
  ⟨h.link, h.auth, h.request, h.cancel, fun _ mem _ => h.cards ▸ mem⟩

theorem TableStays.trans (h : TableStays i its s t) (k : TableStays i its t u) : TableStays i its s u :=
  ⟨k.link.trans h.link, k.auth.trans h.auth, k.request.trans h.request, k.cancel.trans h.cancel,
    fun e mem other => k.listed e (h.listed e mem other) other⟩

theorem mem_settleStandIn {entries : List StandInEntry} {e : StandInEntry} (n : Nat) (mem : e ∈ entries) (other : e.token ≠ tok) :
    e ∈ settleStandIn tok n entries := by
  unfold settleStandIn
  split
  · exact List.mem_filter.2 ⟨mem, by simpa using other⟩
  · exact List.mem_map.2 ⟨e, mem, if_neg other⟩

theorem link_of_local (h : LocalTo i s t) : t.host.linkUp = s.host.linkUp := by rw [h.host]

theorem closeStep_table (r : CloseReason) (paid : (s.st i).session.payer = some (.standIn tok)) (noEntry : (s.st i).auth = none) :
    TableStays i (some tok) s (closeStep i r .closed s) := by
  obtain ⟨-, -, request, cancel⟩ := closedAt_cond .closed (closingCent i s).2.1 (closingCent i s).1 (s.st i)
  refine ⟨link_of_local (closeStep_local i r .closed s), ?_, ?_, ?_, fun e mem other => ?_⟩
  · rw [closeStep_st, closedAt_rest, payerEntry_none noEntry]
  · rw [closeStep_st, request, payerEntry_none noEntry]
  · rw [closeStep_st, cancel, payerEntry_none noEntry]
  · rw [(closeStep_standIn paid).2]
    exact mem_settleStandIn _ mem fun e => other (congrArg some e)

theorem drainCheck_table (down : s.host.linkUp = false) (paid : (s.st i).session.payer = some (.standIn tok))
    (noEntry : (s.st i).auth = none) : TableStays i (some tok) s (drainCheck i s) := by
  unfold drainCheck
  dsimp only
  split
  · split
    · have closed := closeStep_table ‹CloseReason› paid noEntry
      exact closed.trans (reevaluate_entry (closed.link.trans down)).table
    · exact (EntryStays.refl i s).table
  · exact (EntryStays.refl i s).table

theorem goDraining_table (r : CloseReason) (down : s.host.linkUp = false) (paid : (s.st i).session.payer = some (.standIn tok))
    (noEntry : (s.st i).auth = none) : TableStays i (some tok) s (goDraining i r s) := by
  have start := startDraining_entry (i := i) (s := s) r
  exact start.table.trans (drainCheck_table (start.link.trans down) (start.payer.trans paid) (start.auth.trans noEntry))

theorem sessionOpened_table (k : PayerKind) (a : Nat) (down : s.host.linkUp = false)
    (paid : (s.st i).session.payer = some (.standIn tok)) (noEntry : (s.st i).auth = none) :
    TableStays i (some tok) s (sessionOpened i k a s) := by
  have offered_ : EntryStays i s (offer i (.opened k a) (s.updSession i fun x => { x with openTime := some s.journal.clock })) :=
    (EntryStays.upd (s := s) rfl rfl rfl rfl).trans (offer_entry _)
  have opened := offered_.trans (reevaluate_entry (offered_.link.trans down))
  have stalled := opened.trans (stallUnlessHeld_entry)
  have drains : ∀ {t}, EntryStays i s t → ∀ r, TableStays i (some tok) s (goDraining i r t) := fun h r =>
    h.table.trans (goDraining_table r (h.link.trans down) (h.payer.trans paid) (h.auth.trans noEntry))
  unfold sessionOpened
  dsimp only
  split <;> split
  · exact drains stalled _
  · exact drains opened _
  · exact stalled.table
  · exact opened.table

/-- The decision against the card leaves the cards and the journal too. -/
theorem abandoned_entry (r : RefusedReason) (down : s.host.linkUp = false) :
    TableStays i none s (reevaluate i (abandonAuthorizing i (some r) s)) := by
  obtain ⟨request, cancel⟩ := refusedReturn_authConds r (s.st i)
  have left : TableStays i none s (abandonAuthorizing i (some r) s) := by
    have at_ : (abandonAuthorizing i (some r) s).st i = refusedReturn r (s.st i) := by
      rw [abandonAuthorizing_some, stopWhenEmpty_st, st_upd_self]
      rfl
    refine ⟨link_of_local (abandonAuthorizing_local i _ s), ?_, ?_, ?_, fun e mem _ => ?_⟩
    · rw [at_, refusedReturn_auth]
    · rw [at_, request]
    · rw [at_, cancel]
    · rw [abandonAuthorizing_some, ((MoneyStays.upd s i _).trans (.stopWhenEmpty _)).cards]
      exact mem
  exact left.trans (reevaluate_entry (left.link.trans down)).table

/-- The stand-in decision leaves the list's entries, which no other grant can share a token with. -/
theorem decideStandIn_table (down : s.host.linkUp = false) (noEntry : (s.st i).auth = none) :
    ((decideStandIn i s).st i).auth = none ∧
    ((decideStandIn i s).st i).cond.authRequest = (s.st i).cond.authRequest ∧
    ((decideStandIn i s).st i).cond.authCancel = (s.st i).cond.authCancel ∧
    ∀ e ∈ s.cards.standIn, e ∈ (decideStandIn i s).cards.standIn := by
  unfold decideStandIn
  dsimp only
  split
  · split
    · next may =>
      obtain ⟨-, -, -, fresh, -⟩ := (standInAllowed_iff s _).1 may
      have at_ : ((standInAdded i (payerToken (s.st i).session.payer) s).upd i (standInEntered s.idleFull
          (payerToken (s.st i).session.payer) (grantOf s))).st i = standInEntered s.idleFull
          (payerToken (s.st i).session.payer) (grantOf s) (s.st i) := st_upd_self ..
      rw [grantStandIn_eq]
      have opened := sessionOpened_table (i := i) (tok := payerToken (s.st i).session.payer)
        (s := (standInAdded i (payerToken (s.st i).session.payer) s).upd i
          (standInEntered s.idleFull (payerToken (s.st i).session.payer) (grantOf s))) .standIn (grantOf s) down
        (by rw [at_]; rfl) (by rw [at_]; exact noEntry)
      refine ⟨?_, ?_, ?_, fun e mem => opened.listed e ?_ fun same => fresh e mem (Option.some.inj same)⟩
      · rw [opened.auth, at_]
        exact noEntry
      · rw [opened.request, at_]
        rfl
      · rw [opened.cancel, at_]
        rfl
      · exact List.mem_append_left _ mem
    · have left := abandoned_entry (i := i) (s := s) .offline down
      exact ⟨left.auth.trans noEntry, left.request, left.cancel, fun e mem => left.listed e mem nofun⟩
  · exact ⟨noEntry, rfl, rfl, fun e mem => mem⟩

end

end Sys2Proof.Machine
end

section
/-!
PROOFS. The silence timer's expiry (sections 7.5 and 10.5): the pending authorization table is emptied, one entry after another.
-/

namespace Sys2Proof.Machine

/-! ## One entry that link DOWN ends -/

section
variable {i : StationId} {s : State} {e : AuthEntry} {cause : CancelCause}

/-- An entry that ends with the link DOWN goes with cancel, and the stand-in list keeps its entries. -/
theorem endEntry_down (down : s.host.linkUp = false) (held : (s.st i).auth = some e) :
    EntryCancelled (s.st i) ((endEntry i cause s).st i) e.reference cause := by
  have here := st_upd_self s i (entryRemoved (some cause))
  have noEntry : ((s.upd i (entryRemoved (some cause))).st i).auth = none := by rw [here, entryRemoved_auth]
  rcases kind : e.kind
  · obtain ⟨auth, request, cancel, -⟩ := decideStandIn_table (s := s.upd i (entryRemoved (some cause))) down noEntry
    rw [here] at request cancel
    rw [endEntry_initial held kind]
    exact entryCancelled_of held auth request cancel
  · have marked : EntryStays i (s.upd i (entryRemoved (some cause))) ((s.upd i (entryRemoved (some cause))).upd i noMore) :=
      .upd rfl rfl rfl rfl
    have stays := marked.trans (reevaluate_entry (marked.link.trans down))
    have request := stays.request
    have cancel := stays.cancel
    rw [here] at request cancel
    rw [endEntry_increment held kind]
    exact entryCancelled_of held (stays.auth.trans noEntry) request cancel

theorem endEntry_none (none : (s.st i).auth = none) : endEntry i cause s = s := by
  rw [endEntry, none]

/-- An INCREMENT entry that ends with the link DOWN leaves the cards and the journal. -/
theorem endEntry_increment_cards (down : s.host.linkUp = false)
    (kind : ∀ e, (s.st i).auth = some e → e.kind = .increment) :
    (endEntry i cause s).cards = s.cards ∧ (endEntry i cause s).journal = s.journal := by
  rcases held : (s.st i).auth with _ | e
  · rw [endEntry_none held]
    exact ⟨rfl, rfl⟩
  · rw [endEntry_increment held (kind e held)]
    have stays := reevaluate_entry (i := i) (s := (s.upd i (entryRemoved (some cause))).upd i noMore) down
    exact ⟨stays.cards, stays.journal⟩

theorem endEntry_listed (down : s.host.linkUp = false) {x : StandInEntry} (mem : x ∈ s.cards.standIn) :
    x ∈ (endEntry i cause s).cards.standIn := by
  rcases held : (s.st i).auth with _ | e
  · rw [endEntry_none held]
    exact mem
  · rcases kind : e.kind
    · rw [endEntry_initial held kind]
      exact (decideStandIn_table (s := s.upd i (entryRemoved (some cause))) down
        (by rw [st_upd_self, entryRemoved_auth])).2.2.2 x mem
    · rw [(endEntry_increment_cards down fun f held' => Option.some.inj (held.symm.trans held') ▸ kind).1]
      exact mem

end

/-! ## One entry after another -/

/-- The entries of a list of stations ended by link DOWN, in its order. -/
def endEntries (is : List StationId) (s : State) : State := is.foldl (fun t i => endEntry i .linkDown t) s

section
variable {is : List StationId} {i : StationId} {s : State}

theorem endEntries_others (s : State) (other : i ∉ is) : (endEntries is s).st i = s.st i := by
  induction is generalizing s with
  | nil => rfl
  | cons j rest ih =>
    obtain ⟨ne, later⟩ := not_or.1 (mt List.mem_cons.2 other)
    exact (ih _ later).trans ((endEntry_local j .linkDown s).others i ne)

theorem endEntries_untouched (is : List StationId) (s : State) : Untouched s (endEntries is s) := by
  induction is generalizing s with
  | nil => exact .refl s
  | cons i rest ih => exact (endEntry_local i .linkDown s).toUntouched.trans (ih _)

theorem link_of_untouched {s t : State} (h : Untouched s t) : t.host.linkUp = s.host.linkUp := by rw [h.host]

theorem endEntries_listed (down : s.host.linkUp = false) {x : StandInEntry} (mem : x ∈ s.cards.standIn) :
    x ∈ (endEntries is s).cards.standIn := by
  induction is generalizing s with
  | nil => exact mem
  | cons i rest ih => exact ih ((link_of_local (endEntry_local i .linkDown s)).trans down) (endEntry_listed down mem)

/-- INCREMENT entries that end with the link DOWN leave the cards and the journal. -/
theorem endEntries_increments (down : s.host.linkUp = false) (once : is.Nodup)
    (kinds : ∀ i ∈ is, ∀ e, (s.st i).auth = some e → e.kind = .increment) :
    (endEntries is s).cards = s.cards ∧ (endEntries is s).journal = s.journal := by
  induction is generalizing s with
  | nil => exact ⟨rfl, rfl⟩
  | cons i rest ih =>
    obtain ⟨apart, later⟩ := List.nodup_cons.1 once
    have first := endEntry_increment_cards (cause := .linkDown) down (kinds i List.mem_cons_self)
    have next := ih (s := endEntry i .linkDown s) ((link_of_local (endEntry_local i .linkDown s)).trans down) later
      fun j mem e held => kinds j (List.mem_cons_of_mem _ mem) e
        (((endEntry_local i .linkDown s).others j fun same => apart (same ▸ mem)) ▸ held)
    exact ⟨next.1.trans first.1, next.2.trans first.2⟩

/-- A station of the list is reached once, and found as it was; what follows leaves it. -/
theorem endEntries_at (s : State) (once : is.Nodup) (mem : i ∈ is) : ∃ before after, is = before ++ i :: after ∧
    before.Nodup ∧ i ∉ before ∧ (endEntries before s).st i = s.st i ∧
    endEntries is s = endEntries after (endEntry i .linkDown (endEntries before s)) ∧
    (endEntries is s).st i = (endEntry i .linkDown (endEntries before s)).st i := by
  obtain ⟨before, after, rfl⟩ := List.append_of_mem mem
  obtain ⟨front, tail, apart⟩ := List.nodup_append.1 once
  have notBefore : i ∉ before := fun h => apart i h i List.mem_cons_self rfl
  have split_ : endEntries (before ++ i :: after) s = endEntries after (endEntry i .linkDown (endEntries before s)) :=
    List.foldl_append
  refine ⟨before, after, rfl, front, notBefore, endEntries_others s notBefore, split_, ?_⟩
  rw [split_]
  exact endEntries_others _ (List.nodup_cons.1 tail).1

end

/-! ## The expiry -/

section
variable {s : State}

/-- The state in which the link has just gone DOWN. -/
def linkDropped (s : State) : State := s.updHost fun h => { h with
  linkUp := false, silenceTimer := none
  counters := { h.counters with linkDowns := addUpTo Config.shortTop h.counters.linkDowns 1 } }

/-- The order in which link DOWN empties the table, and the state with its choice taken. -/
def linkDownOrder (s : State) : List StationId × State := inOpenOrder (linkDropped s).authStations (linkDropped s)

theorem silenceExpires_runs (up : s.host.linkUp = true) (out : s.host.silenceTimer = some 0) :
    silenceExpires s = endEntries (linkDownOrder s).1 (linkDownOrder s).2 := if_pos ⟨up, out⟩

theorem mem_linkDownOrder {i : StationId} : i ∈ (linkDownOrder s).1 ↔ (s.st i).auth.isSome := by
  refine (inOpenOrder_perm _ _).mem_iff.trans ?_
  simp [State.authStations, allStations]
  rfl

theorem linkDownOrder_nodup : (linkDownOrder s).1.Nodup :=
  (inOpenOrder_perm _ _).nodup_iff.2 (List.Nodup.filter _ (List.nodup_finRange _))

theorem linkDownOrder_state : (linkDownOrder s).2 = { linkDropped s with
    choiceTape := (linkDownOrder s).2.choiceTape, choiceCount := (linkDownOrder s).2.choiceCount } := inOpenOrder_state _ _

theorem linkDownOrder_down : (linkDownOrder s).2.host.linkUp = false := by rw [linkDownOrder_state]; rfl

theorem linkDownOrder_st (i : StationId) : (linkDownOrder s).2.st i = s.st i := inOpenOrder_st ..

end

/-- What a sheet costs is read from the charge unit alone. -/
theorem cardAffords_charge {s t : State} {x : Station} {p : SheetSpec} {price : Nat} (charge : t.charge = s.charge)
    (affords : CardAffords s x p price) : CardAffords t x p price := by
  obtain ⟨opened, hold, sides, room, card, ⟨k, base, tariff, priced, cost⟩, limits⟩ := affords
  refine ⟨opened, hold, sides, room, card, ⟨k, base, tariff, charge ▸ priced, ?_⟩, limits⟩
  rw [cost, costOf, costOf, charge]

theorem standInMayGrant_congr {s t : State} {k : Token} (cards : t.cards = s.cards) (journal : t.journal = s.journal) :
    StandInMayGrant t k ↔ StandInMayGrant s k := by
  unfold StandInMayGrant grantOf
  rw [cards, journal]

/-- Settles O18: each entry of the table is reached once, and found as it was. -/
theorem silenceBringsTheLinkDown : Obligations.SilenceBringsTheLinkDown := by
  intro s
  refine ⟨fun up out => ⟨_, congrArg Host.Outcome.next (silenceExpires_runs up out), ?_⟩, fun not => ?_⟩
  swap
  · refine congrArg Host.Outcome.next (if_neg fun ⟨up, out⟩ => ?_)
    exact not.elim (fun down => by rw [down] at up; cases up) fun runs => runs out
  have state := linkDownOrder_state (s := s)
  have down := linkDownOrder_down (s := s)
  have once := linkDownOrder_nodup (s := s)
  have all := endEntries_untouched (linkDownOrder s).1 (linkDownOrder s).2
  have charge_ : (linkDownOrder s).2.charge = s.charge := by rw [state]; rfl
  have clock_ : (linkDownOrder s).2.journal.clock = s.journal.clock := by rw [state]; rfl
  refine ⟨?_, fun i noEntry => ?_, all.charge.trans charge_, all.ranges.trans (by rw [state]; rfl),
    all.policy.trans (by rw [state]; rfl), all.deny.trans (by rw [state]; rfl), all.clock.trans clock_, fun i e held => ?_⟩
  · have host := all.host
    have dropped : (linkDownOrder s).2.host = (linkDropped s).host := by rw [state]
    rw [dropped] at host
    exact host
  · rw [endEntries_others _ fun mem => by rw [mem_linkDownOrder, noEntry] at mem; cases mem]
    exact linkDownOrder_st i
  obtain ⟨before, after, order, beforeOnce, notBefore, here, result, at_⟩ :=
    endEntries_at (linkDownOrder s).2 once (mem_linkDownOrder.2 (by rw [held]; rfl))
  have first := endEntries_untouched before (linkDownOrder s).2
  have firstDown := (link_of_untouched first).trans down
  have here' : (endEntries before (linkDownOrder s).2).st i = s.st i := here.trans (linkDownOrder_st i)
  have alone : (∀ j f, (s.st j).auth = some f → f.kind = .initial → j = i) →
      (endEntries before (linkDownOrder s).2).cards = s.cards ∧ (endEntries before (linkDownOrder s).2).journal = s.journal := by
    intro only
    obtain ⟨cards, journal⟩ := endEntries_increments down beforeOnce fun j mem f held' => by
      rw [linkDownOrder_st] at held'
      rcases kind : f.kind
      · exact absurd (only j f held' kind ▸ mem) notBefore
      · rfl
    exact ⟨cards.trans (by rw [state]; rfl), journal.trans (by rw [state]; rfl)⟩
  have charge := first.charge.trans charge_
  have clock := first.clock.trans clock_
  rw [result] at at_
  rw [result, at_]
  have last : ∀ x ∈ (endEntry i .linkDown (endEntries before (linkDownOrder s).2)).cards.standIn,
      x ∈ (endEntries after (endEntry i .linkDown (endEntries before (linkDownOrder s).2))).cards.standIn := fun x mem =>
    endEntries_listed ((link_of_local (endEntry_local i .linkDown _)).trans firstDown) mem
  clear first state result at_ order all
  generalize endEntries before (linkDownOrder s).2 = t at *
  rw [← here'] at held ⊢
  intro x y
  refine ⟨endEntry_down firstDown held, fun kind idle => ?_, fun kind p price waits affords short => ?_,
    fun k kind state payer noPending clear_ idle => ?_⟩
  · have ended : y = noMore (entryRemoved (some .linkDown) x) := by
      rw [show y = _ from congrArg (fun v : State => v.st i) (endEntry_increment_idle held kind idle), st_upd_self]
    rw [ended, entryRemoved_rest]
    rfl
  · obtain ⟨f, ends, -, request, latch, queue, session⟩ := endEntry_increment_short (cause := .linkDown) held kind waits
      (cardAffords_charge charge affords) short
    rw [show y = f x by rw [show y = _ from congrArg (fun v : State => v.st i) ends, st_upd_self]]
    exact ⟨request, latch, queue, session⟩
  · obtain ⟨-, -, -, grants, refuses⟩ := endEntry_initial_decided (cause := .linkDown) held kind state payer noPending clear_ idle
    intro opened ended
    have opens : StandInMayGrant t k → opened := fun may => by
      obtain ⟨session, cards, -⟩ := grants may
      refine ⟨_, clock ▸ session, last _ ?_⟩
      rw [cards]
      exact List.mem_append_right _ (List.mem_singleton_self _)
    have ends : ¬ StandInMayGrant t k → ended := fun no => (refuses no).1
    refine ⟨(em _).imp opens ends, fun only => ?_⟩
    obtain ⟨cards, journal⟩ := alone only
    rw [← standInMayGrant_congr cards journal]
    exact ⟨opens, ends⟩

end Sys2Proof.Machine
end

section
/-!
PROOFS. A slot (sections 1.1, 1.6 to 1.8 and 11.7): the fields of an upstream half, and an arrival that reports the confirmed code.
-/

namespace Sys2Proof.Machine

/-! ## The fields of a half (spec/11 section 11.7) -/

/-- The value of a code in a half, with its location. -/
def reportedValue : Code → Nat
  | .ready => 16
  | .running => 32
  | .warming => 48
  | .paperOut => 64
  | .doorOpen => 80
  | .jam l => 96 + l.val
  | .fault => 112

theorem reportedValue_lt (c : Code) : reportedValue c < 128 := by
  cases c <;> simp only [reportedValue] <;> omega

theorem decodeCode_value {c : Code} (spelt : c ≠ .jam 0) : decodeCode (reportedValue c / 16) (reportedValue c % 16) = some c := by
  cases c with
  | jam l =>
    have nonzero : l.val ≠ 0 := fun e => spelt (congrArg Code.jam (Fin.ext e))
    have small := l.isLt
    have code : reportedValue (.jam l) / 16 = 6 := by simp only [reportedValue]; omega
    have location : reportedValue (.jam l) % 16 = l.val := by simp only [reportedValue]; omega
    rw [code, location]
    simp [decodeCode, nonzero]
  | ready => rfl
  | running => rfl
  | warming => rfl
  | paperOut => rfl
  | doorOpen => rfl
  | fault => rfl

theorem toNat_ofNat_byte {n : Nat} (small : n < 256) : (BitVec.ofNat 8 n).toNat = n := by
  rw [BitVec.toNat_ofNat]
  exact Nat.mod_eq_of_lt small

theorem decodePick_none : decodePick 0 = none := rfl

theorem pickByte_lt (p : SheetSpec) : pickByte p < 256 := by
  have sides := p.sides.isLt
  have media := p.media.isLt
  unfold pickByte
  cases p.colour <;> dsimp only <;> omega

theorem decodePick_pickByte (p : SheetSpec) : decodePick (pickByte p) = some p := by
  obtain ⟨stock, ink, sides⟩ := p
  have lt4 := sides.isLt
  have lt8 := stock.isLt
  have asks : pickByte ⟨stock, ink, sides⟩ / 128 % 2 ≠ 0 := by cases ink <;> simp only [pickByte] <;> omega
  have hue : (if pickByte ⟨stock, ink, sides⟩ / 64 % 2 = 0 then Colour.mono else .colour) = ink := by
    cases ink
    · exact if_pos (by simp only [pickByte]; omega)
    · exact if_neg (by simp only [pickByte]; omega)
  have spec : Fin.ofNat 4 (pickByte ⟨stock, ink, sides⟩ / 16) = sides := by
    refine Fin.ext ?_
    show _ % 4 = _
    cases ink <;> simp only [pickByte] <;> omega
  have paper : Fin.ofNat 8 (pickByte ⟨stock, ink, sides⟩) = stock := by
    refine Fin.ext ?_
    show _ % 8 = _
    cases ink <;> simp only [pickByte] <;> omega
  rw [decodePick, if_neg asks, hue, spec, paper]

/-- A half that reports a code spells its fields. -/
theorem decodeHalf_halfOf {c : Code} {pick exits mark ack : Nat} (b : Byte) (spelt : c ≠ .jam 0) (pickSmall : pick < 256)
    (exitsSmall : exits < 4) (markSmall : mark < 4) (ackSmall : ack < 4) :
    decodeHalf (halfOf c pick exits mark ack b) = ⟨true, some c, decodePick pick, exits, decodeMark mark, decodeAck ack, b⟩ := by
  have small := reportedValue_lt c
  have first : (halfOf c pick exits mark ack b).b0.toNat = 128 + reportedValue c := by
    have same : (halfOf c pick exits mark ack b).b0 = BitVec.ofNat 8 (128 + reportedValue c) := by cases c <;> rfl
    rw [same, toNat_ofNat_byte (by omega)]
  have second : (halfOf c pick exits mark ack b).b1.toNat = pick := toNat_ofNat_byte pickSmall
  have third : (halfOf c pick exits mark ack b).b2.toNat = 64 * exits + 16 * mark + 4 * ack := toNat_ofNat_byte (by omega)
  unfold decodeHalf
  rw [first, second, third]
  have present : (128 + reportedValue c) / 128 % 2 = 1 := by omega
  have code : (128 + reportedValue c) / 16 % 8 = reportedValue c / 16 := by omega
  have location : (128 + reportedValue c) % 16 = reportedValue c % 16 := by omega
  have left : (64 * exits + 16 * mark + 4 * ack) / 64 % 4 = exits := by omega
  have marked : (64 * exits + 16 * mark + 4 * ack) / 16 % 4 = mark := by omega
  have acknowledged : (64 * exits + 16 * mark + 4 * ack) / 4 % 4 = ack := by omega
  rw [present, code, location, left, marked, acknowledged, decodeCode_value spelt]
  rfl

/-! ## A slot -/

section
variable {i : StationId} {s : State} {h : UpHalf}

theorem exec_slot (inFrame : s.inFrame i = true) (slot : s.slot = i) :
    exec (.upstreamHalf i h) s = .next (takeArrival i (decodeHalf h) (sendHalf i s.passSlot)) := by
  refine congrArg Host.Outcome.next ((if_pos inFrame).trans ?_)
  exact if_pos slot

theorem exec_outOfSlot (slot : s.slot ≠ i) : exec (.upstreamHalf i h) s = .next s := by
  refine congrArg Host.Outcome.next ?_
  unfold atStation
  split
  · exact if_neg slot
  · rfl

/-- The line state of a station whose downstream half has gone out, and whose half agrees with its presence. -/
def agreedLine (x : Station) : StationLine := { afterDownHalf x with contrary := 0 }

/-- The same, where the half reports the confirmed code or is empty. -/
def reportedLine (x : Station) : StationLine := { agreedLine x with candidate := none }

/-- What the parts of a full arrival but its code make of a line state, with the events that they raise. -/
def messageParts (a : Arrival) (l : StationLine) : LineStep :=
  let p := pickArrival a.pick l
  let b := byteArrival a.mark a.byte p.1
  let k := ackArrival a.ack b.1
  (k.1, p.2 ++ (exitArrival a.exits ++ (b.2 ++ k.2)))

theorem codeArrival_confirmed {c : Code} {l : StationLine} (confirmed : l.confirmed = some c) :
    codeArrival (some c) l = ({ l with candidate := none }, []) := by
  rw [codeArrival, if_pos confirmed]

theorem fullArrival_confirmed {a : Arrival} {c : Code} {l : StationLine} (code : a.code = some c) (confirmed : l.confirmed = some c) :
    fullArrival a l = messageParts a { l with candidate := none } := by
  unfold fullArrival
  dsimp only
  rw [code, codeArrival_confirmed confirmed]
  rfl

theorem afterDownHalf_present (x : Station) : (afterDownHalf x).present = x.line.present := by
  unfold afterDownHalf
  dsimp only
  split <;> rfl

theorem afterDownHalf_confirmed (x : Station) : (afterDownHalf x).confirmed = x.line.confirmed := by
  unfold afterDownHalf
  dsimp only
  split <;> rfl

/-- A slot of a present station whose half reports the confirmed code. -/
theorem slot_reports {c : Code} {a : Arrival} {l : StationLine} {events : List LineEvent} (inFrame : s.inFrame i = true)
    (slot : s.slot = i) (half : decodeHalf h = a) (marked : a.present = true) (code : a.code = some c)
    (present : (s.st i).line.present = true) (confirmed : (s.st i).line.confirmed = some c)
    (parts : messageParts a (reportedLine (s.st i)) = (l, events)) :
    exec (.upstreamHalf i h) s = .next (takeEvents i events (s.passSlot.upd i fun y => { y with line := l })) := by
  have sent : (sendHalf i s.passSlot).st i = { s.st i with line := afterDownHalf (s.st i) } := st_upd_self ..
  have agrees : presenceArrival i true (sendHalf i s.passSlot) =
      s.passSlot.upd i fun y => { y with line := agreedLine y } := by
    unfold presenceArrival
    dsimp only
    rw [if_pos (by rw [sent]; exact (afterDownHalf_present _).trans present)]
    exact upd_upd ..
  have here : ((s.passSlot.upd i fun y => { y with line := agreedLine y }).st i).line = agreedLine (s.st i) :=
    congrArg Station.line (st_upd_self ..)
  have full : fullArrival a (agreedLine (s.st i)) = (l, events) :=
    (fullArrival_confirmed (l := agreedLine (s.st i)) code ((afterDownHalf_confirmed (s.st i)).trans confirmed)).trans parts
  rw [exec_slot inFrame slot, half]
  unfold takeArrival
  dsimp only
  rw [marked, agrees, here, if_pos (by rw [Bool.true_and]; exact (afterDownHalf_present _).trans present)]
  unfold applyLine
  dsimp only
  rw [here, full, State.updLine, upd_upd]

end

end Sys2Proof.Machine
end

section
/-!
PROOFS. The downstream half (sections 1.6 and 1.8): its bytes, the line state that it leaves, and the acknowledgement of a byte.
-/

namespace Sys2Proof.Machine

section
variable {i : StationId} {s : State} {x : Station} {l : StationLine} {m : DownMsg} {rest : List DownMsg} {n : Nat}

/-! ## The bytes of a half (R12, R18, R19) -/

/-- The hold mark of a half. -/
def holdByte (h : HoldState) : Byte := if h = .held ∨ h = .releasing then 32 else 0

/-- The acknowledgement in a half. -/
def owedByte : AckMark → Byte
  | .none => 0
  | .ack => 16
  | .abort => 32

theorem nextDownByte_abort (due : l.downAbort = true) : nextDownByte l = (.abort, 0) := if_pos due

theorem nextDownByte_waits (notDue : l.downAbort = false) (waits : l.downWait = some n) : nextDownByte l = (.idle, 0) := by
  rw [nextDownByte, if_neg (by rw [notDue]; nofun), if_pos (by rw [waits]; rfl)]

theorem nextDownByte_empty (notDue : l.downAbort = false) (empty : l.down = []) : nextDownByte l = (.idle, 0) := by
  rw [nextDownByte, if_neg (by rw [notDue]; nofun), empty]
  split <;> rfl

theorem nextDownByte_places (notDue : l.downAbort = false) (free : l.downWait = none) (head : l.down = m :: rest) :
    nextDownByte l = (if l.downTaken + 1 < (downBytes m).length then .data else .last, (downBytes m).getD l.downTaken 0) := by
  rw [nextDownByte, if_neg (by rw [notDue]; nofun), if_neg (by rw [free]; nofun), head]

theorem downHalf_absent (absent : x.line.present = false) : downHalf x = [holdByte x.hold, 0, 0] := by
  unfold downHalf
  dsimp only
  rw [if_neg (by rw [absent]; nofun)]
  cases x.hold <;> rfl

/-- The half of a station whose latch holds no answer. -/
theorem downHalf_present {mark : MsgMark} {b : Byte} (present : x.line.present = true) (silent : heldAnswer x.line.latch = .none)
    (next : nextDownByte x.line = (mark, b)) :
    downHalf x = [holdByte x.hold, BitVec.ofNat 8 (markValue mark * 64) + owedByte x.line.ackOwed, b] := by
  unfold downHalf
  dsimp only
  rw [if_pos present, silent, next]
  cases x.hold <;> cases x.line.ackOwed <;> cases mark <;> rfl

/-! ## The line state after a half -/

theorem afterDownHalf_absent (absent : x.line.present = false) : afterDownHalf x = { x.line with sent := downHalf x } :=
  if_neg (by rw [absent]; nofun)

theorem reportedLine_present (present : x.line.present = true) : reportedLine x = { x.line with
    contrary := 0, candidate := none, ackOwed := .none, downAbort := false, sent := downHalf x
    downWait := if (nextDownByte x.line).1 = .data ∨ (nextDownByte x.line).1 = .last then some 0 else x.line.downWait } := by
  unfold reportedLine agreedLine afterDownHalf
  dsimp only
  rw [if_pos present]

/-- No byte is placed. -/
theorem reportedLine_unplaced (present : x.line.present = true)
    (unplaced : (nextDownByte x.line).1 = .idle ∨ (nextDownByte x.line).1 = .abort) : reportedLine x = { x.line with
      contrary := 0, candidate := none, ackOwed := .none, downAbort := false, sent := downHalf x } := by
  rw [reportedLine_present present, if_neg]
  rcases unplaced with mark | mark <;> rw [mark] <;> rintro (e | e) <;> cases e

/-- The next byte of the head message is placed. -/
theorem reportedLine_placed (present : x.line.present = true) (notDue : x.line.downAbort = false) (free : x.line.downWait = none)
    (head : x.line.down = m :: rest) : reportedLine x = { x.line with
      contrary := 0, candidate := none, ackOwed := .none, downAbort := false, sent := downHalf x, downWait := some 0 } := by
  rw [reportedLine_present present, nextDownByte_places notDue free head, if_pos]
  dsimp only
  split
  · exact .inl rfl
  · exact .inr rfl

/-- A station whose line has nothing to send and no pick, whatever message it receives. -/
theorem reportedLine_silent (present : x.line.present = true) (latch : x.line.latch = .idle) (empty : x.line.down = [])
    (notDue : x.line.downAbort = false) : reportedLine x = calmLine x := by
  have next := nextDownByte_empty notDue empty
  rw [reportedLine_unplaced present (.inl (congrArg Prod.fst next)), downHalf_present present (by rw [latch]; rfl) next]
  unfold calmLine
  cases x.line.ackOwed <;> simp [notDue, holdByte, owedByte, markValue]

theorem reportedLine_calm (calm : Calm x) : reportedLine x = calmLine x :=
  reportedLine_silent calm.1 calm.2.1 calm.2.2.2.1 calm.2.2.2.2.2

/-! ## An arrival with no pick, exit and byte -/

theorem quietArrival_idle (up : l.up = .idle) : quietArrival l = (l, []) := by
  unfold quietArrival
  rw [up]

theorem unacknowledged_free (free : l.downWait = none) : unacknowledged l = (l, []) := by
  unfold unacknowledged
  rw [free]

theorem emptyArrival_quiet (up : l.up = .idle) (free : l.downWait = none) : emptyArrival l = ({ l with candidate := none }, []) := by
  have quiet : quietArrival { l with candidate := none } = ({ l with candidate := none }, []) := quietArrival_idle up
  have free' : unacknowledged { l with candidate := none } = ({ l with candidate := none }, []) := unacknowledged_free free
  unfold emptyArrival
  rw [quiet]
  dsimp only
  rw [free']
  rfl

/-- The parts of an arrival that brings nothing but an acknowledge mark. -/
theorem messageParts_quiet {a : Arrival} (latch : l.latch = .idle) (up : l.up = .idle) (pick : a.pick = none)
    (exits : a.exits = 0) (mark : a.mark = .idle) : messageParts a l = ackArrival a.ack l := by
  have picked : pickArrival a.pick l = (l, []) := by
    unfold pickArrival
    rw [pick, latch]
  have byte : byteArrival a.mark a.byte l = (l, []) := by
    rw [mark]
    exact quietArrival_idle up
  unfold messageParts
  rw [picked, exits]
  dsimp only
  rw [byte]
  rfl

theorem ackArrival_none (mark : AckMark) (free : l.downWait = none) : ackArrival mark l = (l, []) := by
  unfold ackArrival
  rw [free]

theorem ackArrival_ack (waits : l.downWait = some n) : ackArrival .ack l = (byteTaken l, []) := by
  unfold ackArrival
  rw [waits]

theorem ackArrival_abort (waits : l.downWait = some n) : ackArrival .abort l = (popDown l, [.anomaly .downAbort]) := by
  unfold ackArrival
  rw [waits]

theorem ackArrival_counts (waits : l.downWait = some n) (short : n + 1 < 64) :
    ackArrival .none l = ({ l with downWait := some (n + 1) }, []) := by
  have below : ¬ Config.arrivalLimit ≤ n + 1 := Nat.not_le.2 short
  unfold ackArrival unacknowledged
  rw [waits]
  dsimp only
  rw [if_neg below]

theorem ackArrival_limit (waits : l.downWait = some n) (limit : 64 ≤ n + 1) :
    ackArrival .none l = ({ popDown l with downAbort := true }, [.anomaly .downTimeout]) := by
  have reached : Config.arrivalLimit ≤ n + 1 := limit
  unfold ackArrival unacknowledged
  rw [waits]
  dsimp only
  rw [if_pos reached]
  rfl

theorem byteTaken_final (head : l.down = m :: rest) (final : l.downTaken + 1 = (downBytes m).length) :
    byteTaken l = { l with down := rest, downTaken := 0, downWait := none } := by
  have not : ¬ l.downTaken + 1 < (downBytes m).length := by omega
  unfold byteTaken
  rw [head]
  dsimp only
  rw [if_neg not, popDown, head]
  rfl

theorem byteTaken_more (head : l.down = m :: rest) (more : l.downTaken + 1 < (downBytes m).length) :
    byteTaken l = { l with downTaken := l.downTaken + 1, downWait := none } := by
  unfold byteTaken
  rw [head]
  exact if_pos more

theorem popDown_cons (head : l.down = m :: rest) : popDown l = { l with down := rest, downTaken := 0, downWait := none } := by
  rw [popDown, head]
  rfl

/-! ## A slot that brings an acknowledge mark alone -/

theorem halfOf_quiet {c : Code} {ack : Nat} (spelt : c ≠ .jam 0) (small : ack < 4) :
    decodeHalf (halfOf c 0 0 0 ack 0) = ⟨true, some c, none, 0, .idle, decodeAck ack, 0⟩ :=
  decodeHalf_halfOf 0 spelt (by omega) (by omega) (by omega) small

theorem slot_acknowledged {c : Code} {ack : Nat} {events : List LineEvent} (inFrame : s.inFrame i = true) (slot : s.slot = i)
    (spelt : c ≠ .jam 0) (small : ack < 4) (present : (s.st i).line.present = true) (confirmed : (s.st i).line.confirmed = some c)
    (latch : (reportedLine (s.st i)).latch = .idle) (up : (reportedLine (s.st i)).up = .idle)
    (parts : ackArrival (decodeAck ack) (reportedLine (s.st i)) = (l, events)) :
    exec (.upstreamHalf i (halfOf c 0 0 0 ack 0)) s =
      .next (takeEvents i events (s.passSlot.upd i fun y => { y with line := l })) :=
  slot_reports inFrame slot (halfOf_quiet spelt small) rfl rfl present confirmed
    ((messageParts_quiet latch up rfl rfl rfl).trans parts)

theorem takeEvents_anomaly (i : StationId) (k : AnomalyKind) (s : State) (l : StationLine) :
    takeEvents i [.anomaly k] (s.upd i fun y => { y with line := l }) =
      s.upd i fun y => { y with line := l, cond := oneAnomaly k y.cond } :=
  (takeEvents_one rfl).trans (upd_upd s i (fun y => { y with line := l }) fun y => { y with cond := oneAnomaly k y.cond })

end

end Sys2Proof.Machine
end

section
/-!
PROOFS. A downstream message sent byte by byte (sections 1.6 and 1.8).
-/

namespace Sys2Proof.Machine

section
variable {i : StationId} {s : State}

/-- A slot of an ABSENT station whose half does not carry the mark. -/
theorem slot_absent {b0 b1 b2 b3 : Byte} (inFrame : s.inFrame i = true) (slot : s.slot = i)
    (absent : (s.st i).line.present = false) (up : (s.st i).line.up = .idle) (free : (s.st i).line.downWait = none)
    (unmarked : b0.toNat < 128) : exec (.upstreamHalf i ⟨b0, b1, b2, b3⟩) s =
      .next (s.passSlot.upd i fun y => { y with line := { y.line with
        contrary := 0, candidate := none, sent := [holdByte (s.st i).hold, 0, 0] } }) := by
  have notMarked : (decodeHalf ⟨b0, b1, b2, b3⟩).present = false := by
    show decide (b0.toNat / 128 % 2 = 1) = false
    rw [Nat.div_eq_of_lt unmarked]
    rfl
  have sent : (sendHalf i s.passSlot).st i = { s.st i with line := afterDownHalf (s.st i) } := st_upd_self ..
  have line := afterDownHalf_absent absent
  have agrees : presenceArrival i false (sendHalf i s.passSlot) = s.passSlot.upd i fun y => { y with line := agreedLine y } := by
    unfold presenceArrival
    dsimp only
    rw [if_pos (by rw [sent]; exact (afterDownHalf_present _).trans absent)]
    exact upd_upd ..
  have here : ((s.passSlot.upd i fun y => { y with line := agreedLine y }).st i).line = agreedLine (s.st i) :=
    congrArg Station.line (st_upd_self ..)
  have agreed : agreedLine (s.st i) = { (s.st i).line with contrary := 0, sent := [holdByte (s.st i).hold, 0, 0] } := by
    rw [agreedLine, line, downHalf_absent absent]
  have empty : emptyArrival (agreedLine (s.st i)) = ({ agreedLine (s.st i) with candidate := none }, []) := by
    rw [agreed]
    exact emptyArrival_quiet up free
  rw [exec_slot inFrame slot]
  unfold takeArrival
  dsimp only
  rw [notMarked, agrees, if_neg (by simp), applyLine_nil (by rw [here]; exact empty), State.updLine, upd_upd, agreed]
  exact congrArg Host.Outcome.next (upd_congr (s := s.passSlot) (by rw [st_passSlot]))

end

/-- Settles O49: the half that goes out, then the acknowledge mark that comes in. -/
theorem aDownstreamMessageIsSentByteByByte : Obligations.ADownstreamMessageIsSentByteByByte := by
  intro i s inFrame slot x hold owed
  refine ⟨fun b0 b1 b2 b3 absent up free unmarked => slot_absent inFrame slot absent up free unmarked,
    fun c ack spelt small calm confirmed => ?calm, fun c m rest spelt calm confirmed head taken => ?placed,
    fun c m rest n spelt calm confirmed head waits taken => ?waits,
    fun c ack spelt small calm confirmed due => ?aborts⟩
  case calm =>
    have line := reportedLine_calm calm
    obtain ⟨present, latch, up, empty, free, notDue⟩ := calm
    have parts := ackArrival_none (decodeAck ack) (l := reportedLine x) (by rw [line]; exact free)
    rw [slot_acknowledged inFrame slot spelt small present confirmed (by rw [line]; exact latch) (by rw [line]; exact up) parts,
      takeEvents_nil, line]
  case placed =>
    obtain ⟨present, latch, up, -, free, notDue⟩ := calm
    intro final line
    have next := nextDownByte_places (l := x.line) notDue free head
    have mark : BitVec.ofNat 8 (markValue (nextDownByte x.line).1 * 64) = if final then 128 else 64 := by
      rw [next]
      dsimp only
      by_cases last : final
      · rw [if_pos last, if_neg (by show ¬ _ < _; omega)]
        rfl
      · have more : x.line.downTaken + 1 < (downBytes m).length := by have : ¬ _ = _ := last; omega
        rw [if_neg last, if_pos more]
        rfl
    have half := downHalf_present (x := x) present (by rw [show x.line.latch = .idle from latch]; rfl)
      (show nextDownByte x.line = ((nextDownByte x.line).1, (downBytes m).getD x.line.downTaken 0) by rw [next])
    rw [mark] at half
    have sent : reportedLine x = { line with downWait := some 0 } := by
      rw [reportedLine_placed (x := x) present notDue free head, half, notDue]
      rfl
    have unwaited : line.downWait = none := free
    have waits : (reportedLine x).downWait = some 0 := by rw [sent]
    have head' : (reportedLine x).down = m :: rest := by rw [sent]; exact head
    have idle : (reportedLine x).latch = .idle ∧ (reportedLine x).up = .idle := by rw [sent]; exact ⟨latch, up⟩
    refine ⟨?_, ?_, ?_⟩
    · rw [slot_acknowledged (ack := 1) inFrame slot spelt (by omega) present confirmed idle.1 idle.2 (ackArrival_ack waits), takeEvents_nil]
      by_cases last : final
      · rw [byteTaken_final head' (by rw [sent]; exact last), sent]
        simp only [if_pos last, unwaited]
      · have more : x.line.downTaken + 1 < (downBytes m).length := by have : ¬ _ = _ := last; omega
        rw [byteTaken_more head' (by rw [sent]; exact more), sent]
        simp only [if_neg last, unwaited]
        rfl
    · rw [slot_acknowledged (ack := 2) inFrame slot spelt (by omega) present confirmed idle.1 idle.2 (ackArrival_abort waits),
        takeEvents_anomaly, popDown_cons head', sent]
      simp only [unwaited]
    · rw [slot_acknowledged (ack := 0) inFrame slot spelt (by omega) present confirmed idle.1 idle.2
        (ackArrival_counts waits (by omega)), takeEvents_nil, sent]
  case waits =>
    obtain ⟨present, latch, up, -, -, notDue⟩ := calm
    intro line gone
    have next := nextDownByte_waits (l := x.line) notDue waits
    have half := downHalf_present (x := x) present (by rw [show x.line.latch = .idle from latch]; rfl) next
    have sent : reportedLine x = line := by
      rw [reportedLine_unplaced (x := x) present (.inl (congrArg Prod.fst next)), half]
      simp only [line, markValue, show x.line.downAbort = false from notDue]
      simp
      exact ⟨rfl, rfl⟩
    have waits' : (reportedLine x).downWait = some n := by rw [sent]; exact waits
    have head' : (reportedLine x).down = m :: rest := by rw [sent]; exact head
    have idle : (reportedLine x).latch = .idle ∧ (reportedLine x).up = .idle := by rw [sent]; exact ⟨latch, up⟩
    refine ⟨?_, ?_, fun ack mark => ?_⟩
    · rw [slot_acknowledged (ack := 1) inFrame slot spelt (by omega) present confirmed idle.1 idle.2 (ackArrival_ack waits'), takeEvents_nil]
      by_cases last : x.line.downTaken + 1 = (downBytes m).length
      · rw [byteTaken_final head' (by rw [sent]; exact last), sent, if_pos last]
      · have more : x.line.downTaken + 1 < (downBytes m).length := by omega
        rw [byteTaken_more head' (by rw [sent]; exact more), sent, if_neg last]
    · rw [slot_acknowledged (ack := 2) inFrame slot spelt (by omega) present confirmed idle.1 idle.2 (ackArrival_abort waits'),
        takeEvents_anomaly, popDown_cons head', sent]
    · have silent : decodeAck ack = .none := by rcases mark with rfl | rfl <;> rfl
      have small : ack < 4 := by omega
      refine ⟨fun short => ?_, fun limit => ?_⟩
      · rw [slot_acknowledged inFrame slot spelt small present confirmed idle.1 idle.2
          (silent ▸ ackArrival_counts waits' short), takeEvents_nil, sent]
      · rw [slot_acknowledged inFrame slot spelt small present confirmed idle.1 idle.2
          (silent ▸ ackArrival_limit waits' limit), takeEvents_anomaly, popDown_cons head', sent]
  case aborts =>
    obtain ⟨present, latch, up, -, free, -⟩ := calm
    have next := nextDownByte_abort due
    have half := downHalf_present (x := x) present (by rw [show x.line.latch = .idle from latch]; rfl) next
    have sent : reportedLine x = { x.line with
        contrary := 0, candidate := none, ackOwed := .none, downAbort := false, sent := [hold, 192 + owed, 0] } := by
      rw [reportedLine_unplaced (x := x) present (.inr (congrArg Prod.fst next)), half]
      rfl
    have idle : (reportedLine x).latch = .idle ∧ (reportedLine x).up = .idle := by rw [sent]; exact ⟨latch, up⟩
    rw [slot_acknowledged inFrame slot spelt small present confirmed idle.1 idle.2
      (ackArrival_none _ (by rw [sent]; exact free)), takeEvents_nil, sent]

end Sys2Proof.Machine
end

section
/-!
PROOFS. A slot that raises a pick (sections 1.4, 4.1 and 4.2): the state in which it is evaluated, and the answer at the latch.
-/

namespace Sys2Proof.Machine

section
variable {i : StationId} {s t : State} {p : SheetSpec} {c : Code} {x : Station} {full : Nat}

/-- The line state of a calm station whose slot raises a pick. -/
def raisedLine (p : SheetSpec) (x : Station) : StationLine :=
  { calmLine x with latch := .raised (nextSerial x.line) p false, serial := nextSerial x.line }

/-- The line state of a calm station whose slot raises a pick that is answered at once. -/
def answeredLine (v : Latch) (x : Station) : StationLine := { calmLine x with latch := v, serial := nextSerial x.line }

/-- A calm station whose slot has raised a pick that is about to be evaluated. -/
def asking (full : Nat) (p : SheetSpec) (x : Station) : Station := asked full { x with line := raisedLine p x }

/-- The state in which a pick raised in the slot of station `i` is evaluated. -/
def State.asking (s : State) (i : StationId) (p : SheetSpec) : State := s.passSlot.upd i (Machine.asking s.idleFull p)

theorem asking_st : (s.asking i p).st i = asking s.idleFull p (s.st i) := st_upd_self ..

theorem asking_rest (idle : x.request = .idle) :
    asking full p x = { x with line := raisedLine p x, idleTimer := (asking full p x).idleTimer } := by
  simp only [asking, asked, judged, reloaded, idle]

/-- A station whose request waits under serial `n`, its latch told so. -/
def waitsUnder (full n : Nat) (p : SheetSpec) (c : WaitCause) (left : Nat) (y : Station) : Station :=
  lineAnswered n (.wait c) (judged full { y with request := .waiting n p c left })

/-- The state in which a pick raised in the slot of station `i` waits. -/
def State.waitingFor (s : State) (i : StationId) (p : SheetSpec) (c : WaitCause) : State :=
  s.passSlot.upd i fun y => { y with
    line := answeredLine (.raised (nextSerial (s.st i).line) p true) (s.st i), idleTimer := none
    request := .waiting (nextSerial (s.st i).line) p c (s.host.timers.pickWait * 2000) }

theorem waitingFor_eq (c : WaitCause) : (s.asking i p).upd i
    (waitsUnder s.idleFull (nextSerial (s.st i).line) p c (s.host.timers.pickWait * 2000)) = s.waitingFor i p c := by
  rw [State.asking, upd_upd]
  refine upd_congr (s := s.passSlot) ?_
  rw [waitsUnder, judged_ineligible (by rw [← Bool.not_eq_true, idleEligible_iff]; exact fun h => nomatch h.2.2.2.1)]
  simp only [lineAnswered, asking, asked, judged, reloaded, raisedLine, answeredLine, answerLatch, if_pos, st_passSlot]

/-- The arrival that brings a pick at an IDLE latch. -/
theorem messageParts_pick {a : Arrival} {l : StationLine} (latch : l.latch = .idle) (up : l.up = .idle) (free : l.downWait = none)
    (pick : a.pick = some p) (exits : a.exits = 0) (mark : a.mark = .idle) :
    messageParts a l = (raiseLatch p l, [.pickRaised (nextSerial l) p]) := by
  have picked : pickArrival a.pick l = (raiseLatch p l, [.pickRaised (nextSerial l) p]) := by
    unfold pickArrival
    rw [pick, latch]
  have byte : byteArrival a.mark a.byte (raiseLatch p l) = (raiseLatch p l, []) := by
    rw [mark]
    exact quietArrival_idle up
  have ack : ackArrival a.ack (raiseLatch p l) = (raiseLatch p l, []) := ackArrival_none _ free
  unfold messageParts
  rw [picked, exits]
  dsimp only
  rw [byte]
  dsimp only
  rw [ack]
  rfl

theorem evaluated_asking : setRequest i .idle (activity i (s.passSlot.upd i fun y => { y with line := raisedLine p y })) =
    s.asking i p := by
  rw [setRequest_activity, upd_upd]
  rfl

section
variable (inFrame : s.inFrame i = true) (slot : s.slot = i) (spelt : c ≠ .jam 0) (calm : Calm (s.st i))
  (confirmed : (s.st i).line.confirmed = some c)
include inFrame slot spelt calm confirmed

theorem slot_picks : exec (.upstreamHalf i (halfOf c (pickByte p) 0 0 0 0)) s =
    .next (pickRaised i (nextSerial (s.st i).line) p (s.passSlot.upd i fun y => { y with line := raisedLine p y })) := by
  have line := reportedLine_calm calm
  obtain ⟨present, latch, up, -, free, -⟩ := calm
  have parts := messageParts_pick (a := ⟨true, some c, some p, 0, .idle, .none, 0⟩) (l := reportedLine (s.st i))
    (by rw [line]; exact latch) (by rw [line]; exact up) (by rw [line]; exact free) rfl rfl rfl
  have half : decodeHalf (halfOf c (pickByte p) 0 0 0 0) = ⟨true, some c, some p, 0, .idle, .none, 0⟩ := by
    rw [decodeHalf_halfOf 0 spelt (pickByte_lt p) (by omega) (by omega) (by omega), decodePick_pickByte]
    rfl
  rw [slot_reports inFrame slot half rfl rfl present confirmed parts, takeEvents_one rfl, line]
  exact congrArg (fun v => Host.Outcome.next (pickRaised i (nextSerial (s.st i).line) p v)) (upd_congr (s := s.passSlot) rfl)

/-- The pick is answered GO or STOP. -/
theorem slot_answered {v : Verdict} (final : ∀ c', v ≠ .wait c') (judged_ : evaluate i p (s.asking i p) = (v, t)) :
    exec (.upstreamHalf i (halfOf c (pickByte p) 0 0 0 0)) s = .next (t.upd i (lineAnswered (nextSerial (s.st i).line) v)) := by
  rw [slot_picks inFrame slot spelt calm confirmed, pickRaised,
    evaluated_asking, judged_]
  split
  · next e => exact absurd (congrArg Prod.fst e) (final _)
  · next e =>
    obtain ⟨rfl, rfl⟩ := Prod.mk.inj e
    rfl

/-- The pick waits, and its wait timer starts. -/
theorem slot_waits {c' : WaitCause} (judged_ : evaluate i p (s.asking i p) = (.wait c', t)) :
    exec (.upstreamHalf i (halfOf c (pickByte p) 0 0 0 0)) s = .next (t.upd i
      (waitsUnder t.idleFull (nextSerial (s.st i).line) p c' (seconds t.host.timers.pickWait))) := by
  rw [slot_picks inFrame slot spelt calm confirmed, pickRaised, evaluated_asking, judged_]
  dsimp only
  rw [answerLine_eq, setRequest, syncIdle_eq, upd_upd, upd_upd]
  rfl

/-- The pick is stopped, and nothing changes but the line and the idle timer. -/
theorem slot_stopped {r : StopReason} (idle : (s.st i).request = .idle)
    (stops : evaluate i p (s.asking i p) = (.stop r, s.asking i p)) : ∃ timer : Option Nat,
    exec (.upstreamHalf i (halfOf c (pickByte p) 0 0 0 0)) s = .next (s.passSlot.upd i fun y => { y with
      line := answeredLine (.answeredStop r) (s.st i), idleTimer := timer }) := by
  refine ⟨(asking s.idleFull p (s.st i)).idleTimer, ?_⟩
  rw [slot_answered inFrame slot spelt calm confirmed (v := .stop r) nofun stops, State.asking, upd_upd]
  refine congrArg Host.Outcome.next (upd_congr (s := s.passSlot) ?_)
  rw [st_passSlot, asking_rest idle]
  simp only [lineAnswered, raisedLine, answeredLine, answerLatch, if_pos]

/-- The pick waits, and nothing else changes. -/
theorem slot_waits_plain {c' : WaitCause} (judged_ : evaluate i p (s.asking i p) = (.wait c', s.asking i p)) :
    exec (.upstreamHalf i (halfOf c (pickByte p) 0 0 0 0)) s = .next (s.waitingFor i p c') := by
  rw [slot_waits inFrame slot spelt calm confirmed judged_]
  exact congrArg Host.Outcome.next (waitingFor_eq c')

end

end

end Sys2Proof.Machine
end

section
/-!
PROOFS. A pick of a session that pays, priced, charged and granted, or stopped (sections 3.3 to 3.5, 4.1, 4.2 and 7.4).
-/

namespace Sys2Proof.Machine

section
variable {i : StationId} {s t : State} {p : SheetSpec} {x : Station} {full : Nat}

/-- A calm station whose slot has raised a pick that was charged and granted. -/
def grantedAt (e : InFlight) (y : Session) (left : Nat) (x : Station) : Station :=
  { x with
    session := y, idleTimer := none, queue := x.queue ++ [e]
    meters := { x.meters with granted := (x.meters.granted + e.impressions) % 1000000000 }
    line := { answeredLine .answeredGo x with down := [.showing y.spent left] } }

theorem lineAnswered_charged (calm : Calm x) (idle : x.request = .idle) (e : InFlight) (y : Session) (left : Nat) :
    lineAnswered (nextSerial x.line) .go (chargedAt full e y left (asking full p x)) = grantedAt e y left x := by
  obtain ⟨present, -, -, empty, -, -⟩ := calm
  have present' : (calmLine x).present = true := present
  have empty' : (calmLine x).down = [] := empty
  rw [asking_rest idle, chargedAt, pushed_rest, offered_room (by exact present') (by show (calmLine x).down.length < 4; rw [empty']; decide)]
  simp only [lineAnswered, raisedLine, answerLatch, if_pos, grantedAt, answeredLine, empty', List.nil_append]

/-! ## The station at which the pick is evaluated -/

theorem asking_session : ((s.asking i p).st i).session = (s.st i).session := by rw [asking_st]; rfl

theorem asking_hold : ((s.asking i p).st i).hold = (s.st i).hold := by rw [asking_st]; rfl

theorem asking_queue : ((s.asking i p).st i).queue = (s.st i).queue := by rw [asking_st]; rfl

theorem asking_auth : ((s.asking i p).st i).auth = (s.st i).auth := by rw [asking_st]; rfl

section
variable {k : Fin 8} {base : Nat} (state : (s.st i).session.state = .opened) (hold : (s.st i).hold = .none)
  (room : (s.st i).queue.length < 8) (sides : p.sides = 1 ∨ p.sides = 2)
include state hold room sides

theorem asking_charge : evaluate i p (s.asking i p) = evaluateCharge i p (s.asking i p) :=
  evaluate_charge (by rw [asking_session]; exact state) (by rw [asking_hold]; exact hold) sides
    (by rw [asking_queue]; exact room)

variable (tariff : (s.st i).session.tariffClass = some k)
include tariff

theorem asking_notPriced (unset : basePrice s.charge k p.media p.colour = none) :
    evaluate i p (s.asking i p) = (.stop .notPriced, s.asking i p) := by
  rw [asking_charge state hold room sides]
  exact evaluateCharge_notPriced (by rw [asking_session]; exact tariff) unset

section
variable (priced : basePrice s.charge k p.media p.colour = some base)
include priced

theorem asking_limit (past : PastLimits (s.st i).session p (costOf s k base (s.st i).session p)) :
    evaluate i p (s.asking i p) = (.stop .limit, s.asking i p) := by
  rw [asking_charge state hold room sides]
  exact evaluateCharge_limit (by rw [asking_session]; exact tariff) priced (by rw [asking_session]; exact past)

variable (within : ¬ PastLimits (s.st i).session p (costOf s k base (s.st i).session p))
include within

theorem asking_short
    (short : fundsCheck (s.st i).session (unitsPosted (s.st i).session (costOf s k base (s.st i).session p)) (s.asking i p) = none) :
    evaluate i p (s.asking i p) = answerShort i (s.asking i p) := by
  rw [asking_charge state hold room sides]
  exact evaluateCharge_short (by rw [asking_session]; exact tariff) priced (by rw [asking_session]; exact within)
    (by rw [asking_session]; exact short)

theorem asking_go
    (funds : fundsCheck (s.st i).session (unitsPosted (s.st i).session (costOf s k base (s.st i).session p)) (s.asking i p) = some t) :
    evaluate i p (s.asking i p) =
      let y := chargedSession (s.st i).session p (costOf s k base (s.st i).session p)
      let v := t.upd i (chargedAt t.idleFull (sheetEntry t .charged p (costOf s k base (s.st i).session p)) y (remainingFor y t))
      (.go, if payerIsCard y.payer then afterGo i v else v) := by
  have session := asking_session (s := s) (i := i) (p := p)
  rw [asking_charge state hold room sides,
    evaluateCharge_go (s := s.asking i p) (t := t) (by rw [session]; exact tariff) priced (by rw [session]; exact within) (by rw [session]; exact funds),
    session]
  rfl

end

end

/-! ## The grant by payer -/

theorem remainingFor_authority {y : Session} (payer : (∃ t, y.payer = some (.card t)) ∨ ∃ t, y.payer = some (.standIn t)) (v : State) :
    remainingFor y v = y.authority.getD 0 - y.spent := by
  rcases payer with ⟨t, e⟩ | ⟨t, e⟩ <;> rw [remainingFor, e]

theorem remainingFor_account {y : Session} {n : Nat} {a : Account} {v : State} (payer : y.payer = some (.account n))
    (found : findAccount v.accounts n = some a) (number : a.number = n) :
    remainingFor y v = (a.balance - floorOf v.accounts.ranges n).toNat := by
  rw [remainingFor, payer]
  dsimp only
  rw [found]
  dsimp only
  rw [availableFunds, number]

end

end Sys2Proof.Machine
end

section
/-!
PROOFS. A raised pick charged (sections 3.3 to 3.5, 4.1, 4.2 and 7.4), settled.
-/

namespace Sys2Proof.Machine

section
variable {i : StationId} {s : State} {p : SheetSpec} {c : Code} {e : InFlight} {y : Session} {left n : Nat}

/-- The state in which a pick raised in the slot of station `i` has been charged and granted. -/
def State.granted (s : State) (i : StationId) (e : InFlight) (y : Session) (left : Nat) : State :=
  s.passSlot.upd i (grantedAt e y left)

theorem granted_eq (calm : Calm (s.st i)) (idle : (s.st i).request = .idle) :
    ((s.asking i p).upd i (chargedAt s.idleFull e y left)).upd i (lineAnswered (nextSerial (s.st i).line) .go) =
      s.granted i e y left := by
  rw [State.asking, upd_upd, upd_upd]
  refine upd_congr (s := s.passSlot) ?_
  rw [st_passSlot]
  exact lineAnswered_charged calm idle e y left

/-- A table of accounts put beside an update of a station. -/
theorem putAccount_upd (a : Account) (f : Station → Station) : putAccount a (s.upd i f) = (putAccount a s).upd i f := rfl

theorem granted_account (calm : Calm (s.st i)) (idle : (s.st i).request = .idle) (a : Account) :
    ((putAccount a (s.asking i p)).upd i (chargedAt s.idleFull e y left)).upd i (lineAnswered (nextSerial (s.st i).line) .go) =
      putAccount a (s.granted i e y left) := by
  rw [← granted_eq (p := p) calm idle, ← putAccount_upd, ← putAccount_upd]

/-- With the next reference free an entry takes it. -/
theorem makeEntry_free (free : ∀ j f, (s.st j).auth = some f → f.reference ≠ s.cards.nextReference) (kind : AuthKind) (amount : Nat) :
    makeEntry i kind amount s = (referenceTaken s.cards.nextReference s).upd i
      (entryMade s.cards.nextReference kind amount (seconds s.host.timers.auth)) := by
  rw [makeEntry_eq, freeReference_free free]

/-- The increment that follows a charged GO, where no entry of the table holds the next reference. -/
theorem granted_asks (calm : Calm (s.st i)) (idle : (s.st i).request = .idle) (kind : AuthKind) (amount wait : Nat) :
    ((referenceTaken n ((s.asking i p).upd i (chargedAt s.idleFull e y left))).upd i (entryMade n kind amount wait)).upd i
      (lineAnswered (nextSerial (s.st i).line) .go) = (referenceTaken n (s.granted i e y left)).upd i (entryMade n kind amount wait) := by
  rw [← granted_eq (p := p) calm idle, upd_upd]
  exact (upd_upd (referenceTaken n ((s.asking i p).upd i (chargedAt s.idleFull e y left))) i
    (lineAnswered (nextSerial (s.st i).line) .go) (entryMade n kind amount wait)).symm

/-- An entry made for a CARD session, and the counter moved on. -/
theorem entryMade_spelt {v : State} {m : Nat} {t : Token} {amount wait : Nat} (number : (v.st i).session.number = m)
    (payer : (v.st i).session.payer = some (.card t)) : (referenceTaken n v).upd i (entryMade n .increment amount wait) =
      { v.upd i (fun z => { z with
          auth := some ⟨n, m, .increment, amount, t, wait⟩
          cond := { z.cond with authRequest := some ⟨n, m, .increment, amount, t⟩ } }) with
        cards := { v.cards with nextReference := if n < 65535 then n + 1 else 1 } } := by
  have token : payerToken (v.st i).session.payer = t := by rw [payer]; rfl
  refine (upd_congr (s := referenceTaken n v) (g := fun z => { z with
    auth := some ⟨n, m, .increment, amount, t, wait⟩
    cond := { z.cond with authRequest := some ⟨n, m, .increment, amount, t⟩ } }) ?_).trans rfl
  rw [← number, ← token]
  rfl

/-- When the grant of a CARD session's pick is followed by an increment (R65, R129). -/
theorem afterGo_charged_iff {t : Token} (payer : y.payer = some (.card t)) :
    let v := (s.asking i p).upd i (chargedAt s.idleFull e y left)
    (incrementOpen v (v.st i).session = true ∧ (v.st i).auth = none ∧
      (v.st i).session.authority.getD 0 - (v.st i).session.spent < v.cards.policy.threshold) ↔
    y.authority.getD 0 - y.spent < s.cards.policy.threshold ∧ y.noMoreIncrements = false ∧ s.host.linkUp = true ∧
      (s.st i).auth = none ∧ y.authority.getD 0 + s.cards.policy.increment ≤ 200000 := by
  intro v
  have session : (v.st i).session = y := by rw [st_upd_self, chargedAt_session]
  have auth : (v.st i).auth = (s.st i).auth := by rw [st_upd_self, chargedAt_auth, asking_auth]
  rw [session, auth, incrementOpen_iff payer]
  refine ⟨fun ⟨⟨flag, link, top⟩, noEntry, low⟩ => ⟨low, flag, link, noEntry, top⟩,
    fun ⟨low, flag, link, noEntry, top⟩ => ⟨⟨flag, link, top⟩, noEntry, low⟩⟩

/-- The pick leaves the references of the table as they are. -/
theorem asking_references (free : ∀ j f, (s.st j).auth = some f → f.reference ≠ n) :
    ∀ j f, (((s.asking i p).upd i (chargedAt s.idleFull e y left)).st j).auth = some f → f.reference ≠ n := by
  intro j f held
  refine free j f ?_
  by_cases same : j = i
  · subst same
    rw [st_upd_self, chargedAt_auth, asking_auth] at held
    exact held
  · rw [st_upd_ne _ _ same, State.asking, st_upd_ne _ _ same] at held
    exact held

/-! ## The slot of a pick that is charged -/

section
variable {k : Fin 8} {base : Nat} (inFrame : s.inFrame i = true) (slot : s.slot = i) (spelt : c ≠ .jam 0) (calm : Calm (s.st i))
  (confirmed : (s.st i).line.confirmed = some c) (idle : (s.st i).request = .idle) (state : (s.st i).session.state = .opened)
  (hold : (s.st i).hold = .none) (room : (s.st i).queue.length < 8) (sides : p.sides = 1 ∨ p.sides = 2)
  (tariff : (s.st i).session.tariffClass = some k) (priced : basePrice s.charge k p.media p.colour = some base)
  (within : ¬ PastLimits (s.st i).session p (costOf s k base (s.st i).session p))
include inFrame slot spelt calm confirmed idle state hold room sides tariff priced within

/-- A payer without funds for the sheet, and with no increment to ask. -/
theorem slot_short (other : payerIsCard (s.st i).session.payer = false)
    (short : fundsCheck (s.st i).session (unitsPosted (s.st i).session (costOf s k base (s.st i).session p)) (s.asking i p) = none) :
    ∃ timer : Option Nat, exec (.upstreamHalf i (halfOf c (pickByte p) 0 0 0 0)) s = .next (s.passSlot.upd i fun y => { y with
      line := answeredLine (.answeredStop .funds) (s.st i), idleTimer := timer }) :=
  slot_stopped inFrame slot spelt calm confirmed idle ((asking_short state hold room sides tariff priced within short).trans
    (answerShort_notCard (by rw [asking_session]; exact other)))

theorem slot_charged_account {n : Nat} {a : Account} (payer : (s.st i).session.payer = some (.account n))
    (found : findAccount s.accounts n = some a) (number : a.number = n)
    (covers : unitsPosted (s.st i).session (costOf s k base (s.st i).session p) = 0 ∨
      floorOf s.accounts.ranges n ≤ a.balance - unitsPosted (s.st i).session (costOf s k base (s.st i).session p)) :
    let delta := unitsPosted (s.st i).session (costOf s k base (s.st i).session p)
    exec (.upstreamHalf i (halfOf c (pickByte p) 0 0 0 0)) s = .next (putAccount { a with balance := a.balance - delta }
      (s.granted i (sheetEntry s .charged p (costOf s k base (s.st i).session p))
        (chargedSession (s.st i).session p (costOf s k base (s.st i).session p))
        (a.balance - delta - floorOf s.accounts.ranges n).toNat)) := by
  intro delta
  have funds := fundsCheck_account (delta := delta) (s := s.asking i p) payer found
  have judged_ := asking_go state hold room sides tariff priced within (funds.trans (if_pos covers))
  dsimp only at judged_
  have notCard : ¬ payerIsCard (chargedSession (s.st i).session p (costOf s k base (s.st i).session p)).payer = true := by
    rw [show (chargedSession _ p _).payer = _ from payer]
    nofun
  have stored : findAccount (putAccount { a with balance := a.balance - delta } (s.asking i p)).accounts n =
      some { a with balance := a.balance - delta } := (findAccount_put (a := { a with balance := a.balance - delta }) number _).1
  rw [if_neg notCard, remainingFor_account (y := chargedSession _ _ _) payer stored number] at judged_
  rw [slot_answered inFrame slot spelt calm confirmed (v := .go) nofun judged_]
  exact congrArg Host.Outcome.next (granted_account calm idle { a with balance := a.balance - delta })

theorem slot_charged_standIn {t : Token} (payer : (s.st i).session.payer = some (.standIn t))
    (covered : (s.st i).session.spent + unitsPosted (s.st i).session (costOf s k base (s.st i).session p) ≤
      (s.st i).session.authority.getD 0) :
    exec (.upstreamHalf i (halfOf c (pickByte p) 0 0 0 0)) s = .next
      (s.granted i (sheetEntry s .charged p (costOf s k base (s.st i).session p))
        (chargedSession (s.st i).session p (costOf s k base (s.st i).session p))
        ((s.st i).session.authority.getD 0 - (chargedSession (s.st i).session p (costOf s k base (s.st i).session p)).spent)) := by
  have funds := fundsCheck_authority (delta := unitsPosted (s.st i).session (costOf s k base (s.st i).session p))
    (s := s.asking i p) (x := (s.st i).session) (.inr ⟨t, payer⟩)
  have judged_ := asking_go state hold room sides tariff priced within (funds.trans (if_pos covered))
  dsimp only at judged_
  have notCard : ¬ payerIsCard (chargedSession (s.st i).session p (costOf s k base (s.st i).session p)).payer = true := by
    rw [show (chargedSession _ p _).payer = _ from payer]
    nofun
  rw [if_neg notCard, remainingFor_authority (y := chargedSession _ _ _) (.inr ⟨t, payer⟩)] at judged_
  rw [slot_answered inFrame slot spelt calm confirmed (v := .go) nofun judged_]
  exact congrArg Host.Outcome.next (granted_eq calm idle)

omit idle in
/-- A CARD session's pick, with what follows the charged GO. -/
theorem slot_charged_card {t : Token} (payer : (s.st i).session.payer = some (.card t))
    (covered : (s.st i).session.spent + unitsPosted (s.st i).session (costOf s k base (s.st i).session p) ≤
      (s.st i).session.authority.getD 0) :
    exec (.upstreamHalf i (halfOf c (pickByte p) 0 0 0 0)) s = .next ((afterGo i ((s.asking i p).upd i
      (chargedAt s.idleFull (sheetEntry s .charged p (costOf s k base (s.st i).session p))
        (chargedSession (s.st i).session p (costOf s k base (s.st i).session p))
        ((s.st i).session.authority.getD 0 -
          (chargedSession (s.st i).session p (costOf s k base (s.st i).session p)).spent)))).upd i
      (lineAnswered (nextSerial (s.st i).line) .go)) := by
  have funds := fundsCheck_authority (delta := unitsPosted (s.st i).session (costOf s k base (s.st i).session p))
    (s := s.asking i p) (x := (s.st i).session) (.inl ⟨t, payer⟩)
  have judged_ := asking_go state hold room sides tariff priced within (funds.trans (if_pos covered))
  dsimp only at judged_
  have isCard : payerIsCard (chargedSession (s.st i).session p (costOf s k base (s.st i).session p)).payer = true := by
    rw [show (chargedSession _ p _).payer = _ from payer]
    rfl
  rw [if_pos isCard, remainingFor_authority (y := chargedSession _ _ _) (.inl ⟨t, payer⟩)] at judged_
  rw [slot_answered inFrame slot spelt calm confirmed (v := .go) nofun judged_]
  rfl

end

end

/-- Settles O51: the pick is judged in its slot, by the payer's funds where it is priced within the limits. -/
theorem aRaisedPickIsCharged : Obligations.ARaisedPickIsCharged := by
  intro i s p c k inFrame slot x spelt calm confirmed state tariff hold idle room serial half stopped
  have stops : ∀ {r}, evaluate i p (s.asking i p) = (.stop r, s.asking i p) → stopped r := fun judged_ =>
    slot_stopped inFrame slot spelt calm confirmed idle judged_
  refine ⟨fun sides => stops (evaluate_badSpec (by rw [asking_session]; exact state) (by rw [asking_hold]; exact hold) sides),
    fun sides unset => stops (asking_notPriced state hold room sides tariff unset), fun base sides priced => ?_⟩
  intro price delta session granted
  have granted_ : ∀ left, granted left = s.granted i (sheetEntry s .charged p price) session left := fun left =>
    upd_congr (s := s.passSlot) rfl
  refine ⟨fun past => stops (asking_limit state hold room sides tariff priced past), fun within => ⟨?account, ?standIn, ?card⟩⟩
  case account =>
    intro n a payer found number short
    have covers : ¬ short ↔ delta = 0 ∨ floorOf s.accounts.ranges n ≤ a.balance - delta := by
      rw [not_and_or, not_not, not_lt]
    refine ⟨fun isShort => ?_, fun notShort => ?_⟩
    · refine slot_short inFrame slot spelt calm confirmed idle state hold room sides tariff priced within (by rw [payer]; rfl) ?_
      rw [fundsCheck_account (s := s.asking i p) payer found]
      exact if_neg fun enough => covers.2 enough isShort
    · refine ⟨_, slot_charged_account inFrame slot spelt calm confirmed idle state hold room sides tariff priced within payer found
        number (covers.1 notShort), ?_, findAccount_put (a := { a with balance := a.balance - delta }) number _⟩
      rw [granted_]
      rfl
  case standIn =>
    intro t payer
    refine ⟨fun isShort => ?_, fun covered => ?_⟩
    · refine slot_short inFrame slot spelt calm confirmed idle state hold room sides tariff priced within (by rw [payer]; rfl) ?_
      rw [fundsCheck_authority (.inr ⟨t, payer⟩)]
      exact if_neg (not_le.2 isShort)
    · rw [granted_]
      exact slot_charged_standIn inFrame slot spelt calm confirmed idle state hold room sides tariff priced within payer covered
  case card =>
    intro t payer covered left asks
    have charged := slot_charged_card inFrame slot spelt calm confirmed state hold room sides tariff priced within payer covered
    have askedFor := afterGo_charged_iff (s := s) (i := i) (p := p) (e := sheetEntry s .charged p price) (y := session) (left := left) payer
    refine ⟨fun no => ?_, fun yes free => ?_⟩
    · rw [charged, afterGo, if_neg (mt askedFor.1 no), granted_eq calm idle, granted_]
    · have made := makeEntry_free (i := i)
        (s := (s.asking i p).upd i (chargedAt s.idleFull (sheetEntry s .charged p price) session left))
        (asking_references (n := s.cards.nextReference) free) .increment s.cards.policy.increment
      rw [charged, afterGo]
      dsimp only
      rw [if_pos (askedFor.2 yes)]
      refine congrArg Host.Outcome.next ((congrArg (fun v : State => v.upd i (lineAnswered (nextSerial x.line) .go)) made).trans ?_)
      refine (granted_asks calm idle .increment s.cards.policy.increment (seconds s.host.timers.auth)).trans ?_
      rw [granted_]
      have here : ((s.granted i (sheetEntry s .charged p price) session left).st i).session = session :=
        congrArg Station.session (st_upd_self ..)
      exact entryMade_spelt (by rw [here]; rfl) (by rw [here]; exact payer)

end Sys2Proof.Machine
end

section
/-!
PROOFS. Picks by session and hold (sections 4.1 to 4.3, 7.4 and 9.4), and a latch that holds a request or its answer (section 1.4).
-/

namespace Sys2Proof.Machine

section
variable {i : StationId} {s : State} {p : SheetSpec} {c : Code} {x : Station}

/-! ## A pick that is served free, or waits for an increment -/

theorem lineAnswered_service {e : InFlight} {full : Nat} (idle : x.request = .idle) :
    lineAnswered (nextSerial x.line) .go (pushed full e (asking full p x)) = { x with
      line := answeredLine .answeredGo x, idleTimer := none, queue := x.queue ++ [e]
      meters := { x.meters with granted := (x.meters.granted + e.impressions) % 1000000000 } } := by
  rw [pushed_rest, asking_rest idle]
  simp only [lineAnswered, raisedLine, answerLatch, if_pos, answeredLine]

/-- An entry made before a pick waits, or after. -/
theorem entryMade_waitsUnder (v : State) (i : StationId) (n amount wait full m left : Nat) (p : SheetSpec) (c : WaitCause) :
    (v.upd i (entryMade n .increment amount wait)).upd i (waitsUnder full m p c left) =
      (v.upd i (waitsUnder full m p c left)).upd i (entryMade n .increment amount wait) := by
  rw [upd_upd, upd_upd]
  rfl

section
variable (inFrame : s.inFrame i = true) (slot : s.slot = i) (spelt : c ≠ .jam 0) (calm : Calm (s.st i))
  (confirmed : (s.st i).line.confirmed = some c)
include inFrame slot spelt calm confirmed

theorem slot_served (idle : (s.st i).request = .idle) (session : (s.st i).session.state = .none ∨
      (s.st i).session.state = .authorizing ∨ (s.st i).session.state = .opened) (free : servesFree (s.st i).hold = true)
    (sides : p.sides = 1 ∨ p.sides = 2) (room : (s.st i).queue.length < 8) :
    exec (.upstreamHalf i (halfOf c (pickByte p) 0 0 0 0)) s = .next (s.passSlot.upd i fun y => { y with
      line := answeredLine .answeredGo (s.st i), idleTimer := none
      queue := (s.st i).queue ++ [sheetEntry s .service p 0]
      meters := { (s.st i).meters with granted := ((s.st i).meters.granted + p.sides.val) % 1000000000 } }) := by
  have judged_ := evaluate_free (i := i) (s := s.asking i p) (p := p) (by rw [asking_session]; exact session)
    (by rw [asking_hold]; exact free) sides (by rw [asking_queue]; exact room)
  rw [slot_answered inFrame slot spelt calm confirmed (v := .go) nofun judged_, State.asking, upd_upd, upd_upd]
  exact congrArg Host.Outcome.next (upd_congr (s := s.passSlot) (lineAnswered_service idle))

/-- The pick waits FUNDS for an increment that it has asked. -/
theorem slot_asks {t : Token} (card : (s.st i).session.payer = some (.card t))
    (asks : evaluate i p (s.asking i p) = (.wait .funds, makeEntry i .increment s.cards.policy.increment (s.asking i p)))
    (free : ∀ j f, (s.st j).auth = some f → f.reference ≠ s.cards.nextReference) :
    exec (.upstreamHalf i (halfOf c (pickByte p) 0 0 0 0)) s =
      .next { (s.waitingFor i p .funds).upd i (fun y => { y with
            auth := some ⟨s.cards.nextReference, (s.st i).session.number, .increment, s.cards.policy.increment, t,
              s.host.timers.auth * 2000⟩
            cond := { y.cond with authRequest := some ⟨s.cards.nextReference, (s.st i).session.number, .increment,
              s.cards.policy.increment, t⟩ } }) with
        cards := { s.cards with
          nextReference := if s.cards.nextReference < 65535 then s.cards.nextReference + 1 else 1 } } := by
  have free' : ∀ j f, ((s.asking i p).st j).auth = some f → f.reference ≠ (s.asking i p).cards.nextReference := by
    intro j f held
    refine free j f ?_
    by_cases same : j = i
    · subst same
      rw [asking_auth] at held
      exact held
    · rw [State.asking, st_upd_ne _ _ same] at held
      exact held
  have here : (s.waitingFor i p .funds).st i = _ := st_upd_self ..
  have judged_ := asks.trans (congrArg (Prod.mk _) (makeEntry_free free' .increment s.cards.policy.increment))
  rw [slot_waits inFrame slot spelt calm confirmed judged_]
  have made := entryMade_spelt (n := s.cards.nextReference) (v := s.waitingFor i p .funds) (i := i) (t := t)
    (amount := s.cards.policy.increment) (wait := s.host.timers.auth * 2000) (m := (s.st i).session.number)
    (by rw [here, st_passSlot]) (by rw [here]; exact card)
  refine congrArg Host.Outcome.next (Eq.trans ?_ made)
  rw [← waitingFor_eq]
  exact entryMade_waitsUnder (referenceTaken s.cards.nextReference (s.asking i p)) ..

end

/-! ## A latch that holds a request or its answer (R8, R10) -/

theorem reportedLine_calmBut (calm : CalmBut c x) : reportedLine x = heldLine x x.line.latch := by
  obtain ⟨⟨present, -, -, empty, -, notDue⟩, -⟩ := calm
  have next : nextDownByte x.line = (.idle, 0) := nextDownByte_empty notDue empty
  rw [reportedLine_unplaced (x := x) present (.inl (congrArg Prod.fst next))]
  simp only [heldLine, show x.line.downAbort = false from notDue]

/-- The parts of an arrival that brings a pick field alone. -/
theorem messageParts_latch {a : Arrival} {l m : StationLine} {events : List LineEvent} (up : m.up = .idle) (free : m.downWait = none)
    (picked : pickArrival a.pick l = (m, events)) (exits : a.exits = 0) (mark : a.mark = .idle) :
    messageParts a l = (m, events) := by
  have byte : byteArrival a.mark a.byte m = (m, []) := by
    rw [mark]
    exact quietArrival_idle up
  unfold messageParts
  rw [picked, exits]
  dsimp only
  rw [byte]
  dsimp only
  rw [ackArrival_none _ free]
  simp [exitArrival]

theorem pickArrival_held {l : StationLine} (busy : l.latch ≠ .idle) : pickArrival (some p) l = (l, []) := by
  unfold pickArrival
  rcases latch : l.latch <;> first | rfl | exact absurd latch busy

theorem pickArrival_disarms {l : StationLine} (answered : l.latch = .disarmed ∨ l.latch = .answeredGo ∨ ∃ r, l.latch = .answeredStop r) :
    pickArrival none l = ({ l with latch := .idle }, []) := by
  unfold pickArrival
  rcases answered with latch | latch | ⟨r, latch⟩ <;> rw [latch]

theorem pickArrival_withdraws {l : StationLine} {n : Nat} {q : SheetSpec} {w : Bool} (latch : l.latch = .raised n q w) :
    pickArrival none l = ({ l with latch := .idle }, [.pickWithdrawn n]) := by
  unfold pickArrival
  rw [latch]

/-- A request that waits under a serial withdrawn ends. -/
def withdrawnFrom (n : Nat) (r : RequestState) : RequestState :=
  match r with
  | .waiting m q cause left => if m = n then .idle else .waiting m q cause left
  | .idle => .idle

theorem pickWithdrawn_eq (n : Nat) : ∃ timer, pickWithdrawn i n s = s.upd i fun y => { y with
    idleTimer := timer, request := withdrawnFrom n (s.st i).request } := by
  have ended : setRequest i .idle s = s.upd i fun y => { y with
      idleTimer := idleAfter s.idleFull { s.st i with request := .idle }, request := .idle } := by
    rw [setRequest, syncIdle_eq, upd_upd]
    exact upd_congr rfl
  have same : ∀ r, (s.st i).request = r → s = s.upd i fun y => { y with idleTimer := (s.st i).idleTimer, request := r } := by
    rintro _ rfl
    exact (upd_id s i rfl).symm
  unfold pickWithdrawn
  split
  · next m q cause left waits =>
    rw [waits, withdrawnFrom]
    split
    · exact ⟨_, ended⟩
    · exact ⟨_, same _ waits⟩
  · next idle =>
    rw [idle]
    exact ⟨_, same _ idle⟩

/-- A slot of a station that holds a request or its answer, and that brings a pick field alone. -/
theorem slot_latch {m : StationLine} {events : List LineEvent} {pick : Nat} (inFrame : s.inFrame i = true) (slot : s.slot = i)
    (spelt : c ≠ .jam 0) (calm : CalmBut c (s.st i)) (small : pick < 256) (up : m.up = .idle) (free : m.downWait = none)
    (picked : pickArrival (decodePick pick) (heldLine (s.st i) (s.st i).line.latch) = (m, events)) :
    exec (.upstreamHalf i (halfOf c pick 0 0 0 0)) s = .next (takeEvents i events (s.passSlot.upd i fun y => { y with line := m })) := by
  have half : decodeHalf (halfOf c pick 0 0 0 0) = ⟨true, some c, decodePick pick, 0, .idle, .none, 0⟩ :=
    decodeHalf_halfOf 0 spelt small (by omega) (by omega) (by omega)
  refine slot_reports inFrame slot half rfl rfl calm.1.1 calm.2 ?_
  rw [reportedLine_calmBut calm]
  exact messageParts_latch up free picked rfl rfl

end

/-- Settles O52: a pick by the session, the hold, the queue and the funds; then the latch. -/
theorem picksAreAnsweredBySessionAndHold : Obligations.PicksAreAnsweredBySessionAndHold := by
  constructor
  · intro i s p c inFrame slot x spelt calm confirmed idle half line waits free stopped
    have stops : ∀ {r}, evaluate i p (s.asking i p) = (.stop r, s.asking i p) → stopped r := fun judged_ =>
      slot_stopped inFrame slot spelt calm confirmed idle judged_
    have session := asking_session (s := s) (i := i) (p := p)
    have hold := asking_hold (s := s) (i := i) (p := p)
    have queue := asking_queue (s := s) (i := i) (p := p)
    refine ⟨fun state notFree => stops (evaluate_noSession (by rw [session]; exact state) ?_),
      fun state => stops (evaluate_stalled (by rw [session]; exact state)),
      fun state => stops (evaluate_draining (by rw [session]; exact state)),
      fun state requested => stops (evaluate_requested (by rw [session]; exact state) (by rw [hold]; exact requested)),
      fun state isFree sides room => slot_served inFrame slot spelt calm confirmed idle state ((servesFree_iff _).2 isFree) sides room,
      fun state sides full => ?_, fun t k base state none sides room card tariff priced => ?_⟩
    · rw [hold, ← Bool.not_eq_true]
      exact mt (servesFree_iff _).1 notFree
    · refine slot_waits_plain inFrame slot spelt calm confirmed (evaluate_pathFull ?_ sides (by rw [queue]; exact full))
      rw [session, hold]
      exact state.imp id fun both => ⟨both.1, (servesFree_iff _).2 both.2⟩
    · intro price within short mayAsk waitsFunds
      have card' : ((s.asking i p).st i).session.payer = some (.card t) := by rw [session]; exact card
      have noFunds := fundsCheck_authority (s := s.asking i p) (x := x.session) (delta := unitsPosted x.session price) (.inl ⟨t, card⟩)
      have judged_ := asking_short state none room sides tariff priced within (noFunds.trans (if_neg (Nat.not_le.2 short)))
      have isOpen : incrementOpen (s.asking i p) ((s.asking i p).st i).session = true ↔ mayAsk := by
        rw [session]
        exact incrementOpen_iff card
      refine ⟨fun no => stops (judged_.trans (answerShort_no card' (mt isOpen.1 no))), fun e yes held kind own => ?_,
        fun yes noEntry references => ?_⟩
      · exact slot_waits_plain inFrame slot spelt calm confirmed (judged_.trans (answerShort_pending card' (isOpen.2 yes)
          (by rw [asking_auth]; exact held) kind (by rw [session]; exact own)))
      · exact slot_asks inFrame slot spelt calm confirmed card (judged_.trans (answerShort_asks card' (isOpen.2 yes)
          (by rw [asking_auth]; exact noEntry))) references
  · intro i s p c inFrame slot x spelt calm
    have up : (heldLine x x.line.latch).up = .idle := calm.1.2.2.1
    have down : (heldLine x x.line.latch).downWait = none := calm.1.2.2.2.2.1
    refine ⟨fun busy => ?_, fun answered_ => ?_, fun n q w latch => ?_⟩
    · have picked : pickArrival (decodePick (pickByte p)) (heldLine x x.line.latch) = (heldLine x x.line.latch, []) := by
        rw [decodePick_pickByte]
        exact pickArrival_held busy
      rw [slot_latch inFrame slot spelt calm (pickByte_lt p) up down picked, takeEvents_nil]
    · rw [slot_latch (m := heldLine x .idle) (pick := 0) inFrame slot spelt calm (by omega) up down
        (pickArrival_disarms (l := heldLine x x.line.latch) answered_), takeEvents_nil]
    · obtain ⟨timer, withdrawn⟩ := pickWithdrawn_eq (i := i) (s := s.passSlot.upd i fun y => { y with line := heldLine x .idle }) n
      refine ⟨timer, ?_⟩
      rw [slot_latch (m := heldLine x .idle) (pick := 0) inFrame slot spelt calm (by omega) up down
        (pickArrival_withdraws (l := heldLine x x.line.latch) latch),
        takeEvents_one rfl, withdrawn, upd_upd, st_upd_self]
      rfl

end Sys2Proof.Machine
end

section
/-!
PROOFS. The upstream message judged (spec/11 section 11.6), and a byte of it taken (sections 1.7 and 11.7).
-/

namespace Sys2Proof.Machine

/-! ## Bytes spell a number (R189) -/

theorem beBytes_add (n v k : Nat) : beBytes n (v + k * 256 ^ n) = beBytes n v := by
  induction n generalizing k with
  | zero => rfl
  | succ n ih =>
    have split_ : v + k * 256 ^ (n + 1) = v + k * 256 * 256 ^ n := by ring
    have head : BitVec.ofNat 8 ((v + k * 256 * 256 ^ n) / 256 ^ n) = BitVec.ofNat 8 (v / 256 ^ n) := by
      rw [Nat.add_mul_div_right _ _ (Nat.pow_pos (by decide))]
      refine BitVec.eq_of_toNat_eq ?_
      rw [BitVec.toNat_ofNat, BitVec.toNat_ofNat]
      omega
    rw [split_, beBytes, beBytes, head, ih (k * 256)]

theorem ofBytes_lt (bytes : List Byte) : ofBytes bytes < 256 ^ bytes.length := by
  induction bytes with
  | nil => decide
  | cons b rest ih =>
    have small := b.isLt
    rw [← List.singleton_append, ofBytes_append, List.singleton_append, List.length_cons, Nat.pow_succ]
    have one : ofBytes [b] = b.toNat := by simp [ofBytes]
    have scaled : b.toNat * 256 ^ rest.length ≤ 255 * 256 ^ rest.length := Nat.mul_le_mul_right _ (by omega)
    rw [one]
    omega

theorem beBytes_ofBytes (bytes : List Byte) : beBytes bytes.length (ofBytes bytes) = bytes := by
  induction bytes with
  | nil => rfl
  | cons b rest ih =>
    have small := ofBytes_lt rest
    have value : ofBytes (b :: rest) = ofBytes rest + b.toNat * 256 ^ rest.length := by
      rw [← List.singleton_append, ofBytes_append, Nat.add_comm]
      simp [ofBytes]
    have head : BitVec.ofNat 8 ((ofBytes rest + b.toNat * 256 ^ rest.length) / 256 ^ rest.length) = b := by
      rw [Nat.add_mul_div_right _ _ (Nat.pow_pos (by decide)), Nat.div_eq_of_lt small, Nat.zero_add, BitVec.ofNat_toNat,
        BitVec.setWidth_eq]
    rw [value, List.length_cons, beBytes, head, beBytes_add, ih]

/-! ## The judgement of a message (R14, R192) -/

theorem upMessage_account (n : BitVec 24) : upMessage (2#8 :: beBytes 3 n.toNat) = some (.account n.toNat) := by
  have length := length_beBytes 3 n.toNat
  have number : ofBytes (beBytes 3 n.toNat) = n.toNat := by
    rw [ofBytes_beBytes]
    exact Nat.mod_eq_of_lt n.isLt
  unfold upMessage
  dsimp only
  rw [if_neg (fun h => absurd h.1 (by decide)), if_pos ⟨rfl, length⟩, number]

theorem upMessage_finish : upMessage [3#8] = some .finish := rfl

theorem upMessage_card (t : Token) (k : CardClass) :
    upMessage (1#8 :: (beBytes 16 t.toNat ++ [match k with | .credit => 1#8 | .debit => 2#8])) = some (.card t k) := by
  have token : ∀ b : Byte, bodyField 128 0 (beBytes 16 t.toNat ++ [b]) = t := fun b => bodyField_word 16 t [b]
  have last : ∀ b : Byte, ((beBytes 16 t.toNat ++ [b]).drop 16).headD 0 = b := fun b => by
    rw [List.drop_left' (length_beBytes 16 _)]
    rfl
  unfold upMessage
  dsimp only
  rw [if_pos ⟨rfl, by rw [List.length_append, length_beBytes]; rfl⟩, last, token]
  cases k <;> rfl

/-- A message that is none of the three is unknown. -/
theorem upMessage_unknown {bytes : List Byte} (notAccount : ∀ n : BitVec 24, bytes ≠ 2#8 :: beBytes 3 n.toNat)
    (notFinish : bytes ≠ [3#8]) (notCard : ∀ t : Token, bytes ≠ 1#8 :: (beBytes 16 t.toNat ++ [1#8]) ∧
      bytes ≠ 1#8 :: (beBytes 16 t.toNat ++ [2#8])) : upMessage bytes = none := by
  rcases bytes with _ | ⟨t, rest⟩
  · rfl
  have spelt : ∀ (w : Nat) (l : List Byte), l.length = w → beBytes w (BitVec.ofNat (8 * w) (ofBytes l)).toNat = l := by
    intro w l length
    subst length
    have small := ofBytes_lt l
    rw [show 256 = 2 ^ 8 from rfl, ← pow_mul] at small
    rw [BitVec.toNat_ofNat, Nat.mod_eq_of_lt small, beBytes_ofBytes]
  unfold upMessage
  dsimp only
  split
  · next card =>
    obtain ⟨rfl, length⟩ := card
    have parts : rest = rest.take 16 ++ [(rest.drop 16).headD 0] := by
      have one : (rest.drop 16).length = 1 := by rw [List.length_drop, length]
      obtain ⟨b, last⟩ := List.length_eq_one_iff.1 one
      rw [last]
      exact (List.take_append_drop 16 rest).symm.trans (by rw [last]; rfl)
    have token := spelt 16 (rest.take 16) (by rw [List.length_take, length]; rfl)
    obtain ⟨notCredit, notDebit⟩ := notCard (BitVec.ofNat 128 (ofBytes (rest.take 16)))
    rw [show beBytes 16 (BitVec.ofNat 128 (ofBytes (rest.take 16))).toNat = rest.take 16 from token] at notCredit notDebit
    split
    · next one =>
      rw [one] at parts
      exact absurd (congrArg (List.cons _) parts) notCredit
    · next two =>
      rw [two] at parts
      exact absurd (congrArg (List.cons _) parts) notDebit
    · rfl
  · split
    · next account =>
      obtain ⟨rfl, length⟩ := account
      exact absurd (congrArg (List.cons _) (spelt 3 rest length).symm) (notAccount _)
    · split
      · next finish =>
        obtain ⟨rfl, length⟩ := finish
        rw [List.length_eq_zero_iff] at length
        exact absurd (by rw [length]) notFinish
      · rfl

end Sys2Proof.Machine
end

section
/-!
PROOFS. The bytes of an upstream message, at a calm station (sections 1.7 and 10.4).
-/

namespace Sys2Proof.Machine

section
variable {i : StationId} {s : State} {c : Code} {b : Byte} {x : Station} {l m : StationLine} {events : List LineEvent}
  {held : List Byte} {quiet : Nat}

/-- A station that is calm but for a message in reception, of which it holds the given bytes. -/
structure CalmReceiving (held : List Byte) (x : Station) : Prop where
  calm : Calm { x with line := { x.line with up := .idle } }
  up : (x.line.up = .idle ∧ held = []) ∨ ∃ quiet, x.line.up = .receiving held quiet

theorem reportedLine_receiving (calm : CalmReceiving held x) : reportedLine x = calmLine x :=
  reportedLine_silent calm.calm.1 calm.calm.2.1 calm.calm.2.2.2.1 calm.calm.2.2.2.2.2

/-- The parts of an arrival that brings a message byte alone. -/
theorem messageParts_byte {a : Arrival} (latch : l.latch = .idle) (pick : a.pick = none) (exits : a.exits = 0)
    (byte : byteArrival a.mark a.byte l = (m, events)) (free : m.downWait = none) : messageParts a l = (m, events) := by
  have picked : pickArrival a.pick l = (l, []) := by
    unfold pickArrival
    rw [pick, latch]
  unfold messageParts
  rw [picked, exits]
  dsimp only
  rw [byte]
  dsimp only
  rw [ackArrival_none _ free]
  simp [exitArrival]

/-- A slot of a calm station that brings a message byte alone. -/
theorem slot_byte {mark : Nat} (inFrame : s.inFrame i = true) (slot : s.slot = i) (spelt : c ≠ .jam 0)
    (calm : CalmReceiving held (s.st i)) (confirmed : (s.st i).line.confirmed = some c) (small : mark < 4)
    (byte : byteArrival (decodeMark mark) b (calmLine (s.st i)) = (m, events)) (free : m.downWait = none) :
    exec (.upstreamHalf i (halfOf c 0 0 mark 0 b)) s =
      .next (takeEvents i events (s.passSlot.upd i fun y => { y with line := m })) := by
  have half : decodeHalf (halfOf c 0 0 mark 0 b) = ⟨true, some c, none, 0, decodeMark mark, .none, b⟩ :=
    decodeHalf_halfOf b spelt (by omega) (by omega) small (by omega)
  refine slot_reports inFrame slot half rfl rfl calm.calm.1 confirmed ?_
  rw [reportedLine_receiving calm]
  exact messageParts_byte calm.calm.2.1 rfl rfl byte free

/-! ## What a byte makes of the channel (R13 to R15) -/

section
variable (calm : CalmReceiving held x)
include calm

theorem byteArrival_data (room : held.length < 32) : byteArrival .data b (calmLine x) =
    ({ calmLine x with up := .receiving (held ++ [b]) 0, ackOwed := .ack }, []) := by
  have fits : ¬ Config.upBufferRoom ≤ held.length := Nat.not_le.2 room
  rcases calm.up with ⟨up, rfl⟩ | ⟨quiet, up⟩
  · have up' : (calmLine x).up = .idle := up
    unfold byteArrival
    rw [up']
    rfl
  · have up' : (calmLine x).up = .receiving held quiet := up
    unfold byteArrival
    rw [up']
    exact if_neg fits

theorem byteArrival_last (room : held.length < 32) : byteArrival .last b (calmLine x) =
    ({ calmLine x with up := .idle, ackOwed := .ack }, [messageEvent (held ++ [b])]) := by
  have fits : ¬ Config.upBufferRoom ≤ held.length := Nat.not_le.2 room
  rcases calm.up with ⟨up, rfl⟩ | ⟨quiet, up⟩
  · have up' : (calmLine x).up = .idle := up
    unfold byteArrival
    rw [up']
    rfl
  · have up' : (calmLine x).up = .receiving held quiet := up
    unfold byteArrival
    rw [up']
    exact if_neg fits

theorem byteArrival_long (full : held.length = 32) {mark : MsgMark} (marked : mark = .data ∨ mark = .last) :
    byteArrival mark b (calmLine x) = ({ calmLine x with up := .idle, ackOwed := .abort }, [.anomaly .upLong]) := by
  have past : Config.upBufferRoom ≤ held.length := full.ge
  rcases calm.up with ⟨-, rfl⟩ | ⟨quiet, up⟩
  · cases full
  · have up' : (calmLine x).up = .receiving held quiet := up
    unfold byteArrival
    rcases marked with rfl | rfl <;> rw [up'] <;> exact if_pos past

end

theorem byteArrival_abort_idle (up : x.line.up = .idle) : byteArrival .abort b (calmLine x) = (calmLine x, []) := by
  have up' : (calmLine x).up = .idle := up
  unfold byteArrival
  rw [up']

theorem byteArrival_abort (up : x.line.up = .receiving held quiet) : byteArrival .abort b (calmLine x) =
    ({ calmLine x with up := .idle, ackOwed := .none }, [.anomaly .upAbort]) := by
  have up' : (calmLine x).up = .receiving held quiet := up
  unfold byteArrival
  rw [up']
  rfl

end

/-- The first part of O50: a byte kept, a message abandoned, and a message completed. -/
theorem bytesAreTaken (i : StationId) (s : State) (c : Code) (held : List Byte) (quiet : Nat) (b : Byte) (inFrame : s.inFrame i = true)
    (slot : s.slot = i) (spelt : c ≠ .jam 0) (calm : Calm { s.st i with line := { (s.st i).line with up := .idle } })
    (confirmed : (s.st i).line.confirmed = some c)
    (up : ((s.st i).line.up = .idle ∧ held = []) ∨ (s.st i).line.up = .receiving held quiet) :
    let u := s.passSlot.upd i fun y => { y with line := { calmLine y with up := .idle, ackOwed := .ack } }
    let v := s.passSlot.upd i fun y => { y with line := { calmLine y with up := .idle, ackOwed := .abort } }
    (held.length < 32 →
      exec (.upstreamHalf i (halfOf c 0 0 1 0 b)) s = .next (s.passSlot.upd i fun y => { y with line := { calmLine y with
        up := .receiving (held ++ [b]) 0, ackOwed := .ack } })) ∧
    (held.length = 32 → ∀ mark, mark = 1 ∨ mark = 2 →
      exec (.upstreamHalf i (halfOf c 0 0 mark 0 b)) s =
        .next (v.upd i fun y => { y with cond := oneAnomaly .upLong y.cond })) ∧
    ((s.st i).line.up = .idle → exec (.upstreamHalf i (halfOf c 0 0 3 0 b)) s =
      .next (s.passSlot.upd i fun y => { y with line := calmLine y })) ∧
    ((s.st i).line.up = .receiving held quiet → exec (.upstreamHalf i (halfOf c 0 0 3 0 b)) s =
      .next (s.passSlot.upd i fun y => { y with
        line := { calmLine y with up := .idle }, cond := oneAnomaly .upAbort y.cond })) ∧
    (∀ m, held.length < 32 → upMessage (held ++ [b]) = some m →
      exec (.upstreamHalf i (halfOf c 0 0 2 0 b)) s = .next (deliver i m u)) ∧
    (held.length < 32 → upMessage (held ++ [b]) = none →
      exec (.upstreamHalf i (halfOf c 0 0 2 0 b)) s =
        .next (u.upd i fun y => { y with cond := oneAnomaly .upUnknown y.cond })) := by
  intro u v
  have receiving : CalmReceiving held (s.st i) := ⟨calm, up.imp id fun receives => ⟨quiet, receives⟩⟩
  have free : (s.st i).line.downWait = none := calm.2.2.2.2.1
  have line : ∀ f : Station → StationLine, s.passSlot.upd i (fun y => { y with line := f (s.st i) }) =
      s.passSlot.upd i fun y => { y with line := f y } := fun f => upd_congr (s := s.passSlot) rfl
  have anomalyAt : ∀ (f : StationLine → StationLine) k (w : State), ((w.upd i fun y => { y with line := f (calmLine y) }).upd i fun y =>
      { y with cond := oneAnomaly k y.cond }) = w.upd i fun y => { y with line := f (calmLine y), cond := oneAnomaly k y.cond } :=
    fun f k w => upd_upd w i (fun y => { y with line := f (calmLine y) }) fun y => { y with cond := oneAnomaly k y.cond }
  have last := fun room => slot_byte (mark := 2) inFrame slot spelt receiving confirmed (by omega)
    (byteArrival_last (b := b) receiving room) free
  refine ⟨fun room => ?_, fun full mark marked => ?_, fun idle => ?_, fun receives => ?_, fun m room judged_ => ?_,
    fun room unknown => ?_⟩
  · rw [slot_byte (mark := 1) inFrame slot spelt receiving confirmed (by omega) (byteArrival_data receiving room) free,
      takeEvents_nil]
    exact congrArg _ (line fun y => { calmLine y with up := .receiving (held ++ [b]) 0, ackOwed := .ack })
  · have small : mark < 4 := by omega
    have spells : decodeMark mark = .data ∨ decodeMark mark = .last := by rcases marked with rfl | rfl <;> simp [decodeMark]
    rw [slot_byte inFrame slot spelt receiving confirmed small (byteArrival_long receiving full spells) free, takeEvents_anomaly]
    exact congrArg _ ((upd_congr (s := s.passSlot) rfl).trans 
      (anomalyAt (fun l => { l with up := .idle, ackOwed := .abort }) _ _).symm)
  · rw [slot_byte (mark := 3) inFrame slot spelt receiving confirmed (by omega) (byteArrival_abort_idle idle) free, takeEvents_nil]
    exact congrArg _ (line calmLine)
  · rw [slot_byte (mark := 3) inFrame slot spelt receiving confirmed (by omega) (byteArrival_abort receives) free,
      takeEvents_anomaly]
    exact congrArg _ (upd_congr (s := s.passSlot) rfl)
  · have event : messageEvent (held ++ [b]) = .message m := by rw [messageEvent, judged_]
    rw [last room, event, takeEvents_one rfl]
    exact congrArg (fun w => Host.Outcome.next (deliver i m w)) (line fun y => { calmLine y with up := .idle, ackOwed := .ack })
  · have event : messageEvent (held ++ [b]) = .anomaly .upUnknown := by rw [messageEvent, unknown]
    rw [last room, event, takeEvents_anomaly]
    exact congrArg _ ((upd_congr (s := s.passSlot) rfl).trans 
      (anomalyAt (fun l => { l with up := .idle, ackOwed := .ack }) _ _).symm)

end Sys2Proof.Machine
end

section
/-!
PROOFS. Arrivals without a byte and without an acknowledgement (sections 1.7 and 1.8).
-/

namespace Sys2Proof.Machine

/-! ## The events of an arrival that are all taken whole -/

/-- Jobs that begin no series are taken one after another, whatever the tape of the gaps holds. -/
theorem workOff_whole {f : Job → State → State} (jobs : List Job) (s : State) (notEnd : ∀ j ∈ jobs, j.isHalted = false)
    (begun : ∀ j ∈ jobs, ∀ t, startJob j t = (none, f j t)) : workOff jobs s = jobs.foldl (fun t j => f j t) s := by
  have turn : Work.inTurn ⟨jobs, s⟩ = jobs := inTurn_of_not_halting (List.any_eq_false.2 fun j hj => by simp [notEnd j hj])
  have whole : ∀ t, jobs.foldl (fun t j => takenWhole (startJob j t)) t = jobs.foldl (fun t j => f j t) t := by
    clear turn notEnd
    induction jobs with
    | nil => exact fun t => rfl
    | cons j rest ih =>
      intro t
      rw [List.foldl_cons, begun j (.head rest) t]
      exact ih (fun k hk => begun k (.tail j hk)) _
  have toGap : ∀ t, workToGap jobs t = ⟨[], jobs.foldl (fun t j => f j t) t⟩ := by
    clear turn notEnd whole
    induction jobs with
    | nil => exact fun t => rfl
    | cons j rest ih =>
      intro t
      rw [workToGap, begun j (.head rest) t]
      exact ih (fun k hk => begun k (.tail j hk)) _
  unfold workOff
  cases s.meanwhile.length with
  | zero => rw [workOffWithin, turn, whole]
  | succ n =>
    rw [workOffWithin, turn, toGap]
    exact if_pos rfl

theorem orderBy_map {α β : Type} (f : α → β) (c : Nat) (xs : List α) : orderBy c (xs.map f) = (orderBy c xs).map f := by
  induction xs generalizing c with
  | nil => rfl
  | cons x xs ih =>
    rw [List.map_cons, orderBy, orderBy, ih, List.map_insertIdx, List.length_map]

theorem inOpenOrder_map {α β : Type} (f : α → β) (xs : List α) (s : State) : inOpenOrder (xs.map f) s =
    ((inOpenOrder xs s).1.map f, (inOpenOrder xs s).2) := by
  unfold inOpenOrder
  rw [List.length_map]
  split
  · rfl
  · rw [orderBy_map]

theorem upd_anomalies (i : StationId) (kinds : List AnomalyKind) (s : State) :
    (kinds.map fun k => Job.event i (.anomaly k)).foldl (fun t j => (startJob j t).2) s =
      s.upd i fun y => { y with cond := kinds.foldl (fun c k => oneAnomaly k c) y.cond } := by
  induction kinds generalizing s with
  | nil => exact (upd_id s i rfl).symm
  | cons k rest ih =>
    rw [List.map_cons, List.foldl_cons, ih]
    exact upd_upd s i (fun y => { y with cond := oneAnomaly k y.cond }) fun y =>
      { y with cond := rest.foldl (fun c k => oneAnomaly k c) y.cond }

/-- The anomalies of one arrival are counted in an open order. -/
theorem takeEvents_anomalies (i : StationId) (kinds : List AnomalyKind) (s : State) :
    takeEvents i (kinds.map .anomaly) s = (inOpenOrder kinds s).2.upd i fun y =>
      { y with cond := (inOpenOrder kinds s).1.foldl (fun c k => oneAnomaly k c) y.cond } := by
  unfold takeEvents
  rw [inOpenOrder_map]
  dsimp only
  rw [List.map_map, workOff_whole (f := fun j t => (startJob j t).2) _ _ (fun j hj => ?plain) (fun j hj t => ?begun)]
  · exact upd_anomalies i _ _
  all_goals
    obtain ⟨k, -, rfl⟩ := List.mem_map.1 hj
    rfl

/-! ## An arrival waited through (R15, R19) -/

/-- The parts of an arrival that brings nothing: it counts toward the limits of both channels. -/
def waitedLine (l : StationLine) : LineStep :=
  let q := quietArrival l
  let u := unacknowledged q.1
  (u.1, q.2 ++ u.2)

/-- An arrival that leaves the latch as it is. -/
def LatchStays (pick : Option SheetSpec) (latch : Latch) : Prop :=
  (pick = none ∧ latch = .idle) ∨ (latch ≠ .idle ∧ pick.isSome = true)

section
variable {l : StationLine} {x : Station} {contrary : Nat}

theorem pickArrival_stays {pick : Option SheetSpec} (stays : LatchStays pick l.latch) : pickArrival pick l = (l, []) := by
  rcases stays with ⟨rfl, idle⟩ | ⟨busy, asks⟩
  · unfold pickArrival
    rw [idle]
  · obtain ⟨p, rfl⟩ := Option.isSome_iff_exists.1 asks
    unfold pickArrival
    generalize l.latch = latch at *
    cases latch with
    | idle => exact absurd rfl busy
    | _ => rfl

theorem ackArrival_silent (l : StationLine) : ackArrival .none l = unacknowledged l := by
  unfold ackArrival unacknowledged
  cases l.downWait <;> rfl

theorem messageParts_waited {a : Arrival} (stays : LatchStays a.pick l.latch) (exits : a.exits = 0) (mark : a.mark = .idle)
    (ack : a.ack = .none) : messageParts a l = waitedLine l := by
  have byte : byteArrival a.mark a.byte l = quietArrival l := by rw [mark]; rfl
  unfold messageParts
  rw [pickArrival_stays stays, exits, ack]
  dsimp only
  rw [byte, ackArrival_silent]
  rfl

/-- The limit of a message in reception is reached by one arrival more. -/
def upTimesOut : UpChannel → Bool
  | .idle => false
  | .receiving _ quiet => 64 ≤ quiet + 1

/-- The limit of a byte that waits is reached by one arrival more. -/
def downTimesOut : Option Nat → Bool
  | none => false
  | some n => 64 ≤ n + 1

def waitedUp : UpChannel → UpChannel
  | .idle => .idle
  | .receiving buffer quiet => if 64 ≤ quiet + 1 then .idle else .receiving buffer (quiet + 1)

/-- The line state after an arrival waited through. -/
def waited (l : StationLine) : StationLine := { l with
  up := waitedUp l.up
  ackOwed := if upTimesOut l.up then .abort else l.ackOwed
  down := if downTimesOut l.downWait then l.down.drop 1 else l.down
  downTaken := if downTimesOut l.downWait then 0 else l.downTaken
  downWait := if downTimesOut l.downWait then none else l.downWait.map (· + 1)
  downAbort := if downTimesOut l.downWait then true else l.downAbort }

theorem quietArrival_eq (l : StationLine) : quietArrival l =
    ({ l with up := waitedUp l.up, ackOwed := if upTimesOut l.up then .abort else l.ackOwed },
      if upTimesOut l.up then [.anomaly .upTimeout] else []) := by
  obtain ⟨present, contrary, confirmed, candidate, latch, serial, up, ackOwed, down, downTaken, downWait, downAbort, sent⟩ := l
  cases up with
  | idle => rfl
  | receiving buffer quiet =>
    by_cases limit : 64 ≤ quiet + 1
    · simp [quietArrival, waitedUp, upTimesOut, limit, Config.arrivalLimit, abandonUp]
    · simp [quietArrival, waitedUp, upTimesOut, limit, Config.arrivalLimit]

theorem unacknowledged_eq (l : StationLine) : unacknowledged l =
    ({ l with
        down := if downTimesOut l.downWait then l.down.drop 1 else l.down
        downTaken := if downTimesOut l.downWait then 0 else l.downTaken
        downWait := if downTimesOut l.downWait then none else l.downWait.map (· + 1)
        downAbort := if downTimesOut l.downWait then true else l.downAbort },
      if downTimesOut l.downWait then [.anomaly .downTimeout] else []) := by
  obtain ⟨present, contrary, confirmed, candidate, latch, serial, up, ackOwed, down, downTaken, downWait, downAbort, sent⟩ := l
  cases downWait with
  | none => rfl
  | some n =>
    by_cases limit : 64 ≤ n + 1
    · simp [unacknowledged, downTimesOut, limit, Config.arrivalLimit, abandonDown, popDown]
    · simp [unacknowledged, downTimesOut, limit, Config.arrivalLimit]

theorem limitsReached_eq (l : StationLine) : limitsReached l =
    (if upTimesOut l.up then [.upTimeout] else []) ++ if downTimesOut l.downWait then [.downTimeout] else [] := by
  unfold limitsReached upTimesOut downTimesOut
  cases l.up <;> cases l.downWait <;> simp

theorem waitedLine_eq (l : StationLine) : waitedLine l = (waited l, (limitsReached l).map .anomaly) := by
  unfold waitedLine
  rw [quietArrival_eq]
  dsimp only
  rw [unacknowledged_eq, limitsReached_eq]
  refine Prod.ext rfl ?_
  dsimp only
  cases upTimesOut l.up <;> cases downTimesOut l.downWait <;> rfl

/-- A byte of the head message goes out in the next half. -/
def placesByte (l : StationLine) : Bool := (nextDownByte l).1 == .data || (nextDownByte l).1 == .last

/-- The line state of a present station whose downstream half has gone out, before the parts of an arrival. -/
def arrivedLine (x : Station) (contrary : Nat) : StationLine := { x.line with
  contrary := contrary, candidate := none, ackOwed := .none, downAbort := false, sent := downHalf x
  downWait := if placesByte x.line then some 0 else x.line.downWait }

theorem afterDownHalf_arrived (present : x.line.present = true) :
    { afterDownHalf x with contrary := contrary, candidate := none } = arrivedLine x contrary := by
  unfold afterDownHalf arrivedLine placesByte
  dsimp only
  rw [if_pos present]
  cases (nextDownByte x.line).1 <;> rfl

theorem placesByte_waits {n : Nat} (waits : l.downWait = some n) : placesByte l = false := by
  unfold placesByte nextDownByte
  rw [waits]
  cases l.downAbort <;> rfl

theorem placesByte_nothing (nothing : l.down = [] ∨ l.downAbort = true) : placesByte l = false := by
  unfold placesByte nextDownByte
  rcases nothing with empty | due
  · rw [empty]
    cases l.downAbort <;> cases l.downWait <;> rfl
  · rw [due]
    rfl

theorem placesByte_head (free : l.downWait = none) (some_ : l.down ≠ []) (notDue : l.downAbort = false) : placesByte l = true := by
  obtain ⟨m, rest, head⟩ := List.exists_cons_of_ne_nil some_
  unfold placesByte
  rw [nextDownByte_places notDue free head]
  dsimp only
  split <;> rfl

/-- What goes out in the slot does not bring the limits nearer. -/
theorem limitsReached_arrived (x : Station) (contrary : Nat) : limitsReached (arrivedLine x contrary) = limitsReached x.line := by
  have wait : downTimesOut (arrivedLine x contrary).downWait = downTimesOut x.line.downWait := by
    unfold arrivedLine
    dsimp only
    split
    · next placed =>
      cases waits : x.line.downWait with
      | none => rfl
      | some n => rw [placesByte_waits waits] at placed; cases placed
    · rfl
  rw [limitsReached_eq, limitsReached_eq, wait]
  rfl

/-- An arrival waited through at a present station. -/
theorem waitedThrough {kinds : List AnomalyKind} (perm : kinds.Perm (limitsReached x.line)) :
    WaitedThrough x { x with
      line := waited (arrivedLine x contrary), cond := kinds.foldl (fun c k => oneAnomaly k c) x.cond } contrary where
  rest := rfl
  line := rfl
  idle up := by simp [waited, arrivedLine, up, waitedUp, upTimesOut]
  receives buffer quiet up short := by
    have below : ¬ 64 ≤ quiet + 1 := by omega
    simp [waited, arrivedLine, up, waitedUp, upTimesOut, below]
  receiveLimit buffer quiet up limit := by simp [waited, arrivedLine, up, waitedUp, upTimesOut, limit]
  nothingPlaced free nothing := by simp [waited, arrivedLine, free, placesByte_nothing nothing, downTimesOut]
  bytePlaced free some_ notDue := by simp [waited, arrivedLine, placesByte_head free some_ notDue, downTimesOut]
  byteWaits n waits short := by
    have below : ¬ 64 ≤ n + 1 := by omega
    simp [waited, arrivedLine, waits, placesByte_waits waits, downTimesOut, below]
  notAcknowledged n waits limit := by simp [waited, arrivedLine, waits, placesByte_waits waits, downTimesOut, limit]
  anomalies := ⟨kinds, perm, rfl⟩

end

/-! ## The slot -/

section
variable {i : StationId} {s : State} {h : UpHalf} {contrary : Nat}

/-- A slot whose parts are an arrival waited through. -/
theorem slot_waitedThrough
    (slot : exec (.upstreamHalf i h) s = .next (takeEvents i ((limitsReached (s.st i).line).map .anomaly)
      (s.passSlot.upd i fun y => { y with line := waited (arrivedLine (s.st i) contrary) }))) :
    ∃ t : State, exec (.upstreamHalf i h) s = .next t ∧
      t = { s.passSlot with stations := t.stations, choiceTape := t.choiceTape, choiceCount := t.choiceCount } ∧
      (∀ j, j ≠ i → t.st j = s.st j) ∧ WaitedThrough (s.st i) (t.st i) contrary ∧
      ((limitsReached (s.st i).line).length < 2 → t.choiceTape = s.choiceTape ∧ t.choiceCount = s.choiceCount) := by
  rw [takeEvents_anomalies] at slot
  generalize kept : s.passSlot.upd i (fun y => { y with line := waited (arrivedLine (s.st i) contrary) }) = u at slot
  have perm := inOpenOrder_perm (limitsReached (s.st i).line) u
  refine ⟨_, slot, ?_, fun j other => ?_, ?_, fun few => ?_⟩
  · rw [inOpenOrder_state]
    subst kept
    rfl
  · rw [st_upd_ne _ _ other, inOpenOrder_st, ← kept, st_upd_ne _ _ other, st_passSlot]
  · rw [st_upd_self, inOpenOrder_st, ← kept, st_upd_self, st_passSlot]
    rw [kept]
    exact waitedThrough perm
  · unfold inOpenOrder
    rw [if_pos few, ← kept]
    exact ⟨rfl, rfl⟩

/-- An empty arrival short of the loss of the station. -/
theorem slot_empty (inFrame : s.inFrame i = true) (slot : s.slot = i) (present : (s.st i).line.present = true)
    (unmarked : h.b0.toNat < 128) (short : (s.st i).line.contrary < 15) :
    exec (.upstreamHalf i h) s = .next (takeEvents i ((limitsReached (s.st i).line).map .anomaly)
      (s.passSlot.upd i fun y => { y with line := waited (arrivedLine (s.st i) ((s.st i).line.contrary + 1)) })) := by
  have notMarked : (decodeHalf h).present = false := by
    show decide (h.b0.toNat / 128 % 2 = 1) = false
    rw [Nat.div_eq_of_lt unmarked]
    rfl
  have below : ¬ Config.presenceLimit ≤ (s.st i).line.contrary + 1 := by
    show ¬ 16 ≤ _
    omega
  have sent : (sendHalf i s.passSlot).st i = { s.st i with line := afterDownHalf (s.st i) } := st_upd_self ..
  have counted : (afterDownHalf (s.st i)).contrary = (s.st i).line.contrary := by
    unfold afterDownHalf
    dsimp only
    split <;> rfl
  have counts : presenceArrival i false (sendHalf i s.passSlot) = s.passSlot.upd i fun y =>
      { y with line := { afterDownHalf y with contrary := (s.st i).line.contrary + 1 } } := by
    unfold presenceArrival
    dsimp only
    rw [sent, if_neg (by rw [show _ = true from (afterDownHalf_present _).trans present]; nofun), if_neg (by rw [counted]; exact below)]
    exact (upd_upd ..).trans (upd_congr (s := s.passSlot) (by simp only [st_passSlot, counted]))
  have here : ((s.passSlot.upd i fun y => { y with line := { afterDownHalf y with contrary := (s.st i).line.contrary + 1 } }).st i).line =
      { afterDownHalf (s.st i) with contrary := (s.st i).line.contrary + 1 } := congrArg Station.line (st_upd_self ..)
  have parts : emptyArrival { afterDownHalf (s.st i) with contrary := (s.st i).line.contrary + 1 } =
      (waited (arrivedLine (s.st i) ((s.st i).line.contrary + 1)), (limitsReached (s.st i).line).map .anomaly) := by
    have whole := waitedLine_eq (arrivedLine (s.st i) ((s.st i).line.contrary + 1))
    rw [limitsReached_arrived, ← afterDownHalf_arrived present] at whole
    rw [← afterDownHalf_arrived present]
    exact whole
  rw [exec_slot inFrame slot]
  unfold takeArrival
  dsimp only
  rw [notMarked, counts, if_neg (by simp)]
  unfold applyLine
  dsimp only
  rw [here, parts, State.updLine, upd_upd]

/-- A full arrival that reports the confirmed code and brings nothing else. -/
theorem slot_quiet {c : Code} {pick ack : Nat} {b : Byte} (inFrame : s.inFrame i = true) (slot : s.slot = i)
    (present : (s.st i).line.present = true) (spelt : c ≠ .jam 0) (confirmed : (s.st i).line.confirmed = some c)
    (silent : ack = 0 ∨ ack = 3)
    (latch : (pick = 0 ∧ (s.st i).line.latch = .idle) ∨ ((s.st i).line.latch ≠ .idle ∧ ∃ p, pick = pickByte p)) :
    exec (.upstreamHalf i (halfOf c pick 0 0 ack b)) s = .next (takeEvents i ((limitsReached (s.st i).line).map .anomaly)
      (s.passSlot.upd i fun y => { y with line := waited (arrivedLine (s.st i) 0) })) := by
  have small : pick < 256 := by
    rcases latch with ⟨rfl, -⟩ | ⟨-, p, rfl⟩
    · omega
    · exact pickByte_lt p
  have stays : LatchStays (decodePick pick) (s.st i).line.latch := by
    rcases latch with ⟨rfl, idle⟩ | ⟨busy, p, rfl⟩
    · exact .inl ⟨decodePick_none, idle⟩
    · exact .inr ⟨busy, by rw [decodePick_pickByte]; rfl⟩
  have line : reportedLine (s.st i) = arrivedLine (s.st i) 0 := afterDownHalf_arrived present
  have parts : messageParts ⟨true, some c, decodePick pick, 0, .idle, decodeAck ack, b⟩ (reportedLine (s.st i)) =
      (waited (arrivedLine (s.st i) 0), (limitsReached (s.st i).line).map .anomaly) := by
    rw [line, messageParts_waited (l := arrivedLine (s.st i) 0) stays rfl rfl (by rcases silent with rfl | rfl <;> rfl), waitedLine_eq,
      limitsReached_arrived]
  exact slot_reports inFrame slot (decodeHalf_halfOf (c := c) (exits := 0) (mark := 0) b spelt small (by omega) (by omega) (by omega))
    rfl rfl present confirmed parts

end

/-- Settles O50: a byte by its mark and by what is held, and an arrival without one by the limits that it reaches. -/
theorem upstreamMessagesAreDelivered : Obligations.UpstreamMessagesAreDelivered := by
  refine ⟨fun i s c held quiet b inFrame slot => ?bytes, fun i s h contrary inFrame slot => ?waits⟩
  case bytes =>
    intro x spelt calm confirmed up u v
    obtain ⟨data, long, abortIdle, aborts, message, unknown⟩ :=
      bytesAreTaken i s c held quiet b inFrame slot spelt calm confirmed up
    have here : u.inFrame i = true := inFrame
    have short : ∀ {bytes : List Byte}, held ++ [b] = bytes → bytes.length ≤ 32 → held.length < 32 := fun same fits => by
      have length := congrArg List.length same
      rw [List.length_append] at length
      simp only [List.length_cons, List.length_nil] at length
      omega
    refine ⟨data, long, abortIdle, aborts, fun n spells => ?_, fun spells => ?_, fun t k spells => ?_,
      fun room notAccount notFinish notCard => unknown room (upMessage_unknown notAccount notFinish notCard)⟩
    · rw [message (.account n.toNat) (short spells (by simp [length_beBytes])) (by rw [spells]; exact upMessage_account n)]
      exact (congrArg Host.Outcome.next (if_pos here)).symm
    · rw [message .finish (short spells (by simp)) (by rw [spells]; exact upMessage_finish)]
      exact (congrArg Host.Outcome.next (if_pos here)).symm
    · rw [message (.card t k) (short spells (by simp [length_beBytes])) (by rw [spells]; exact upMessage_card t k)]
      exact (congrArg Host.Outcome.next (if_pos here)).symm
  case waits =>
    intro x present arrives
    rcases arrives with ⟨unmarked, few, rfl⟩ | ⟨c, pick, ack, b, rfl, spelt, confirmed, rfl, silent, latch⟩
    · exact slot_waitedThrough (slot_empty inFrame slot present unmarked few)
    · exact slot_waitedThrough (slot_quiet inFrame slot present spelt confirmed silent latch)

end Sys2Proof.Machine
end

section
/-!
PROOFS. A sheet that leaves the path: its credit, its removal, and what follows it (sections 3.6, 4.4 and 4.5).
-/

namespace Sys2Proof.Machine

section
variable {i : StationId} {s : State} {x : Session} {e : InFlight} {rest : List InFlight}

/-! ## A credit (R56, R57, R109) -/

/-- What of a credit is past the top of its account's balance. -/
def creditLost (s : State) (x : Session) (e : InFlight) : Nat :=
  match x.payer with
  | some (.account n) =>
    match findAccount s.accounts n with
    | some a => (a.balance + unitsReturned x e.price - 9999999).toNat
    | none => 0
  | _ => 0

/-- The part, its stations apart, after a credit to a session. -/
def creditWorld (x : Session) (e : InFlight) (s : State) : State :=
  match x.payer with
  | some (.account n) =>
    match findAccount s.accounts n with
    | some a => putAccount { a with balance := min 9999999 (a.balance + unitsReturned x e.price) } s
    | none => s
  | _ => s

theorem creditWorld_stations (x : Session) (e : InFlight) (s : State) :
    creditWorld x e s = { s with accounts := (creditWorld x e s).accounts } := by
  unfold creditWorld
  split
  · split <;> rfl
  · rfl

theorem creditWorld_ranges (x : Session) (e : InFlight) (s : State) : (creditWorld x e s).accounts.ranges = s.accounts.ranges := by
  unfold creditWorld
  split
  · split <;> rfl
  · rfl

theorem creditWorld_upd (x : Session) (e : InFlight) (s : State) (f : Station → Station) :
    creditWorld x e (s.upd i f) = (creditWorld x e s).upd i f := by
  unfold creditWorld
  split
  · show (match findAccount s.accounts _ with | some _ => _ | none => _) = _
    split <;> rfl
  · rfl

theorem creditWorld_account {n : Nat} {a : Account} (payer : x.payer = some (.account n)) (found : findAccount s.accounts n = some a) :
    creditWorld x e s = putAccount { a with balance := min 9999999 (a.balance + unitsReturned x e.price) } s := by
  rw [creditWorld, payer]
  dsimp only
  rw [found]

theorem creditLost_account {n : Nat} {a : Account} (payer : x.payer = some (.account n)) (found : findAccount s.accounts n = some a) :
    creditLost s x e = (a.balance + unitsReturned x e.price - 9999999).toNat := by
  rw [creditLost, payer]
  dsimp only
  rw [found]

/-- A payer with no account record: a card, or an account that is not stored. -/
theorem credit_noAccount (other : ∀ n, x.payer = some (.account n) → findAccount s.accounts n = none) :
    creditWorld x e s = s ∧ creditLost s x e = 0 := by
  unfold creditWorld creditLost
  rcases payer : x.payer with _ | n | t | t
  · exact ⟨rfl, rfl⟩
  · dsimp only
    rw [other n payer]
    exact ⟨rfl, rfl⟩
  · exact ⟨rfl, rfl⟩
  · exact ⟨rfl, rfl⟩

theorem creditAccount_eq {n units : Nat} {a : Account} (found : findAccount s.accounts n = some a) : creditAccount i n units s =
    (putAccount { a with balance := min 9999999 (a.balance + units) } s).updSession i fun y => { y with
      unreturnedCredit := if (a.balance + units - 9999999).toNat = 0 then y.unreturnedCredit
        else min 16777215 (y.unreturnedCredit + (a.balance + units - 9999999).toNat) } := by
  unfold creditAccount
  rw [found]
  dsimp only
  split
  · next fits =>
    have fits' : a.balance + units ≤ 9999999 := fits
    rw [min_eq_right fits', Int.toNat_of_nonpos (by omega)]
    exact (upd_id _ i rfl).symm
  · next above =>
    have above' : ¬ a.balance + units ≤ 9999999 := above
    have lost : (a.balance + units - 9999999).toNat ≠ 0 := by omega
    rw [min_eq_left (by omega)]
    simp only [if_neg lost]
    rfl

theorem creditSheet_eq (live : sessionLive (s.st i).session = true) (e : InFlight) : creditSheet i e s =
    (creditWorld (s.st i).session e s).upd i fun y =>
      { y with session := creditedSession y.session e (creditLost s (s.st i).session e) } := by
  have plain : s.updSession i (creditRecord e.impressions e.price) =
      s.upd i fun y => { y with session := creditedSession y.session e 0 } := rfl
  have noAccount : (∀ n, (s.st i).session.payer = some (.account n) → findAccount s.accounts n = none) →
      s.updSession i (creditRecord e.impressions e.price) = (creditWorld (s.st i).session e s).upd i fun y =>
        { y with session := creditedSession y.session e (creditLost s (s.st i).session e) } := fun other => by
    obtain ⟨world, lost⟩ := credit_noAccount (s := s) (e := e) other
    rw [world, lost, plain]
  unfold creditSheet
  dsimp only
  rw [if_pos live]
  rcases payer : (s.st i).session.payer with _ | n | t | t
  · exact noAccount fun n h => by rw [payer] at h; cases h
  · dsimp only
    rcases found : findAccount s.accounts n with _ | a
    · have missing : creditAccount i n (returnedBy (s.st i).session.fineTotal e.price)
          (s.updSession i (creditRecord e.impressions e.price)) = s.updSession i (creditRecord e.impressions e.price) := by
        unfold creditAccount
        rw [show findAccount (s.updSession i _).accounts n = none from found]
      refine missing.trans (noAccount fun m h => ?_)
      obtain rfl : n = m := by rw [payer] at h; cases h; rfl
      exact found
    · rw [creditAccount_eq (s := s.updSession i _) (a := a) found, creditWorld_account payer found, creditLost_account payer found,
        plain, putAccount_upd, State.updSession, upd_upd]
      refine upd_congr ?_
      rfl
  · exact noAccount fun n h => by rw [payer] at h; cases h
  · exact noAccount fun n h => by rw [payer] at h; cases h

/-! ## A head taken back (R75, R76) -/

/-- A station with its head entry taken out of the queue onto the written off meter. -/
def takenOut (full : Nat) (e : InFlight) (rest : List InFlight) (x : Station) : Station :=
  judged full { x with
    queue := rest, meters := { x.meters with writtenOff := (x.meters.writtenOff + e.impressions) % 1000000000 } }

/-- A station whose CHARGED head has been taken back, with the funds that its SHOW gives. -/
def takenBack (full : Nat) (e : InFlight) (rest : List InFlight) (lost remaining : Nat) (x : Station) : Station :=
  offered (.showing ((x.session.fineTotal - e.price) / 100) remaining)
    { takenOut full e rest x with session := creditedSession x.session e lost }

theorem takenOut_eq (i : StationId) (e : InFlight) (rest : List InFlight) (s : State) :
    setQueue i rest (s.updMeters i fun m => { m with writtenOff := addMeter m.writtenOff e.impressions }) =
      s.upd i (takenOut s.idleFull e rest) := by
  rw [setQueue, syncIdle_eq, State.updMeters, upd_upd, upd_upd]
  rfl

theorem takeBack_service (service : e.kind = .service) : takeBack i e rest s = s.upd i (takenOut s.idleFull e rest) := by
  unfold takeBack
  dsimp only
  rw [takenOut_eq, if_neg (by rw [isCharged, service]; nofun)]

theorem takeBack_charged (charged : e.kind = .charged) (live : (s.st i).session.state ≠ .none) : takeBack i e rest s =
    (creditWorld (s.st i).session e s).upd i (takenBack s.idleFull e rest (creditLost s (s.st i).session e)
      (remainingFor (creditedSession (s.st i).session e (creditLost s (s.st i).session e)) (creditWorld (s.st i).session e s))) := by
  have out : ((s.upd i (takenOut s.idleFull e rest)).st i).session = (s.st i).session := by rw [st_upd_self]; rfl
  have here : (creditWorld (s.st i).session e s).st i = s.st i := by rw [creditWorld_stations]; rfl
  unfold takeBack
  dsimp only
  rw [takenOut_eq, if_pos (by rw [isCharged, charged]; rfl), creditSheet_eq (by rw [out, sessionLive_iff]; exact live), out,
    creditWorld_upd, upd_upd, offerShow_eq, upd_upd]
  refine upd_congr ?_
  rw [here]
  rfl

/-! ## An exit that delivers (R72) -/

/-- A station with its head entry delivered. -/
def headDelivered (full : Nat) (e : InFlight) (rest : List InFlight) (x : Station) : Station :=
  judged full { x with queue := rest, meters := deliveredOn e x.meters }

theorem deliverMeter_eq (e : InFlight) (m : Meters) : deliverMeter e m = deliveredOn e m := by
  unfold deliverMeter deliveredOn
  cases e.kind <;> rfl

theorem exitOne_cons (queue : (s.st i).queue = e :: rest) : exitOne i s =
    afterRemoval false (isCharged e) i (s.upd i (headDelivered s.idleFull e rest)) := by
  unfold exitOne
  rw [queue]
  dsimp only
  rw [setQueue, syncIdle_eq, State.updMeters, upd_upd, upd_upd]
  refine congrArg (afterRemoval false (isCharged e) i) (upd_congr ?_)
  rw [headDelivered, deliverMeter_eq]
  rfl

/-- A station with an uncharged exit (R73). -/
def exitUncharged (x : Station) : Station := { x with
  meters := { x.meters with unchargedExits := (x.meters.unchargedExits + 1) % 1000000000 }
  cond := oneAnomaly .unchargedExit x.cond
  session := if x.session.state = .none then x.session
    else { x.session with unchargedExits := min 16777215 (x.session.unchargedExits + 1) } }

theorem exitOne_nil (queue : (s.st i).queue = []) : exitOne i s = s.upd i exitUncharged := by
  unfold exitOne
  rw [queue]
  dsimp only
  rw [unchargedExit, raiseAnomaly, State.updCond, upd_upd]
  refine upd_congr ?_
  have live := sessionLive_iff (s.st i).session
  unfold exitUncharged
  by_cases ended : (s.st i).session.state = .none
  · simp only [if_pos ended, if_neg (mt live.1 (not_not.2 ended))]
    rfl
  · simp only [if_neg ended, if_pos (live.2 ended)]
    rfl

/-! ## What follows a removal (R71) -/

theorem holdWhenEmpty_stays {b : Bool} (stays : (s.st i).queue ≠ [] ∨ (s.st i).hold = .none ∨ (s.st i).hold = .held) :
    holdWhenEmpty b i s = s := by
  unfold holdWhenEmpty
  dsimp only
  split
  · next empty =>
    rcases stays with filled | hold | hold
    · exact absurd (List.isEmpty_iff.1 empty) filled
    · rw [hold]
    · rw [hold]
  · rfl

/-- A removal that moves no hold, closes no session, and finds no pick waiting. -/
theorem afterRemoval_plain {b c : Bool} (idle : (s.st i).request = .idle)
    (stays : (s.st i).queue ≠ [] ∨ (s.st i).hold = .none ∨ (s.st i).hold = .held)
    (undrained : c = true → (s.st i).session.state = .draining → ∃ f ∈ (s.st i).queue, f.kind = .charged) :
    afterRemoval b c i s = s := by
  have kept : (if c then drainCheck i s else s) = s := by
    split
    · next gone =>
      by_cases draining : (s.st i).session.state = .draining
      · exact drainCheck_charged (undrained gone draining)
      · exact drainCheck_notDraining draining
    · rfl
  unfold afterRemoval
  rw [kept, holdWhenEmpty_stays stays, reevaluate_idle idle]

/-- A removal that takes the last CHARGED entry of a DRAINING session. -/
theorem afterRemoval_closes {r : CloseReason} (state : (s.st i).session.state = .draining)
    (reason : (s.st i).session.closeReason = some r) (none : ∀ f ∈ (s.st i).queue, f.kind ≠ .charged)
    (idle : (s.st i).request = .idle) (hold : (s.st i).hold = .none) :
    afterRemoval false true i s = closeStep i r .closed s := by
  have closed : drainCheck i s = closeStep i r .closed s := drainCheck_closes state reason none idle
  have rest : ((closeStep i r .closed s).st i).request = .idle ∧ ((closeStep i r .closed s).st i).hold = .none := by
    rw [closeStep_st, closedAt_rest]
    exact ⟨idle, hold⟩
  unfold afterRemoval
  rw [if_pos rfl, closed, holdWhenEmpty_stays (.inr (.inl rest.2)), reevaluate_idle rest.1]

/-! ## The head judged by its age (R74, R75) -/

theorem headOverdue_false (keeps : HeadKeeps (s.st i) (s.st i).queue) : headOverdue (s.st i) = false := by
  rw [← Bool.not_eq_true]
  intro due
  rw [headOverdue, Bool.and_eq_true, Option.any_eq_true] at due
  obtain ⟨clear, f, head, aged⟩ := due
  rcases keeps f head with stopped | young
  · exact stopped (Option.isNone_iff_eq_none.1 clear)
  · have aged' : f.limit * 2000 ≤ f.age := of_decide_eq_true aged
    omega

theorem headOverdue_true (queue : (s.st i).queue = e :: rest) (clear : (s.st i).recovery.stoppage = none)
    (aged : e.limit * 2000 ≤ e.age) : headOverdue (s.st i) = true := by
  have aged' : decide (seconds e.limit ≤ e.age) = true := decide_eq_true aged
  rw [headOverdue, clear, queue]
  simp [aged']

theorem judgeHeads_keeps (b : Bool) (n : Nat) (keeps : HeadKeeps (s.st i) (s.st i).queue) : judgeHeads b i n s = s := by
  cases n with
  | zero => rfl
  | succ n =>
    rw [judgeHeads, headOverdue_false keeps]
    rfl

/-- One overdue head, and nothing waits to exit. -/
theorem judgeHeads_one (n : Nat) {t : State} (due : headOverdue (s.st i) = true) (taken : overdueOne i s = t)
    (keeps : HeadKeeps (t.st i) (t.st i).queue) : judgeHeads false i (n + 1) s = t := by
  rw [judgeHeads, due]
  show judgeHeads false i n (overdueOne i s) = t
  rw [taken, judgeHeads_keeps false n keeps]

theorem overdueOne_cons (queue : (s.st i).queue = e :: rest) : overdueOne i s =
    afterRemoval false (isCharged e) i (raiseAnomaly i .overdue (takeBack i e rest s)) := by
  rw [overdueOne, queue]

end

end Sys2Proof.Machine
end

section
/-!
PROOFS. An overdue sheet taken back (section 4.5), with its credit.
-/

namespace Sys2Proof.Machine

section
variable {i : StationId} {s : State} {x : Station} {e : InFlight} {rest : List InFlight} {full lost remaining : Nat}

/-- A station with one ANOMALY more. -/
def anomalyAt (k : AnomalyKind) (x : Station) : Station := { x with cond := oneAnomaly k x.cond }

theorem raiseAnomaly_eq (i : StationId) (k : AnomalyKind) (s : State) : raiseAnomaly i k s = s.upd i (anomalyAt k) := rfl

/-- A line state with a SHOW offered, where there is room. -/
def shownLine (spent remaining : Nat) (l : StationLine) : StationLine :=
  if l.present then { l with down := l.down ++ [.showing spent remaining] } else l

theorem takenBack_shown (room : x.line.present = true → x.line.down.length < 4) : takenBack full e rest lost remaining x =
    { takenOut full e rest x with
      session := creditedSession x.session e lost
      line := shownLine ((x.session.fineTotal - e.price) / 100) remaining x.line } := by
  unfold takenBack shownLine
  by_cases present : x.line.present = true
  · rw [offered_room (by exact present) (by exact room present)]
    simp only [if_pos present]
    rfl
  · rw [offered_absent (by exact Bool.eq_false_iff.2 present)]
    simp only [if_neg present]
    rfl

/-- What a credit leaves of a station but for the line and the conditions. -/
theorem takenBack_rest (full : Nat) (e : InFlight) (rest : List InFlight) (lost remaining : Nat) (x : Station) :
    takenBack full e rest lost remaining x = { takenOut full e rest x with
      session := creditedSession x.session e lost
      line := { x.line with down := (takenBack full e rest lost remaining x).line.down }
      cond := (takenBack full e rest lost remaining x).cond } := by
  have parts := offered_rest (.showing ((x.session.fineTotal - e.price) / 100) remaining)
    { takenOut full e rest x with session := creditedSession x.session e lost }
  exact parts

/-- The funds that the SHOW of a credit gives. -/
def creditShown (s : State) (x : Session) (e : InFlight) : Nat :=
  remainingFor (creditedSession x e (creditLost s x e)) (creditWorld x e s)

theorem creditShown_account {x : Session} {n : Nat} {a : Account} (payer : x.payer = some (.account n))
    (found : findAccount s.accounts n = some a) (number : a.number = n) :
    creditShown s x e = (min 9999999 (a.balance + unitsReturned x e.price) - floorOf s.accounts.ranges n).toNat := by
  have stored := (findAccount_put (a := { a with balance := min 9999999 (a.balance + unitsReturned x e.price) }) number s).1
  rw [creditShown, creditWorld_account payer found]
  exact remainingFor_account (y := creditedSession x e _) payer stored number

theorem creditShown_authority {x : Session} {k : Token} (payer : x.payer = some (.card k) ∨ x.payer = some (.standIn k)) :
    creditShown s x e = x.authority.getD 0 - (x.fineTotal - e.price) / 100 :=
  remainingFor_authority (y := creditedSession x e _) (payer.imp (fun h => ⟨k, h⟩) fun h => ⟨k, h⟩) _

theorem credit_authority {x : Session} {k : Token} (payer : x.payer = some (.card k) ∨ x.payer = some (.standIn k)) :
    creditWorld x e s = s ∧ creditLost s x e = 0 :=
  credit_noAccount fun n h => by rcases payer with p | p <;> rw [p] at h <;> cases h

/-! ## One overdue head -/

/-- The part with the overdue head of station `i` taken back, before what follows a removal. -/
def overdueTaken (i : StationId) (e : InFlight) (rest : List InFlight) (s : State) : State :=
  (takeBack i e rest s).upd i (anomalyAt .overdue)

theorem overdueTaken_service (service : e.kind = .service) : overdueTaken i e rest s =
    s.upd i fun x => anomalyAt .overdue (takenOut s.idleFull e rest x) := by
  rw [overdueTaken, takeBack_service service, upd_upd]

theorem overdueTaken_charged (charged : e.kind = .charged) (live : (s.st i).session.state ≠ .none) : overdueTaken i e rest s =
    (creditWorld (s.st i).session e s).upd i fun x => anomalyAt .overdue
      (takenBack s.idleFull e rest (creditLost s (s.st i).session e) (creditShown s (s.st i).session e) x) := by
  rw [overdueTaken, takeBack_charged charged live, upd_upd]
  rfl

theorem exec_overdue (inFrame : s.inFrame i = true) : exec (.overdue i) s = .next (headExpires i s) :=
  congrArg Host.Outcome.next (if_pos inFrame)

theorem exec_overdue_keeps (inFrame : s.inFrame i = true) (keeps : HeadKeeps (s.st i) (s.st i).queue) :
    exec (.overdue i) s = .next s := by
  rw [exec_overdue inFrame]
  exact congrArg Host.Outcome.next (judgeHeads_keeps false _ keeps)

/-- An overdue head taken back, and what follows it. -/
theorem exec_overdue_one {t : State} (inFrame : s.inFrame i = true) (queue : (s.st i).queue = e :: rest)
    (clear : (s.st i).recovery.stoppage = none) (aged : e.limit * 2000 ≤ e.age)
    (follows : afterRemoval false (isCharged e) i (overdueTaken i e rest s) = t) (keeps : HeadKeeps (t.st i) (t.st i).queue) :
    exec (.overdue i) s = .next t := by
  rw [exec_overdue inFrame]
  exact congrArg Host.Outcome.next
    (judgeHeads_one 7 (headOverdue_true queue clear aged) ((overdueOne_cons queue).trans follows) keeps)

/-- What is left of the station with an overdue head taken back. -/
theorem overdueTaken_st (live : e.kind = .charged → (s.st i).session.state ≠ .none) :
    ((overdueTaken i e rest s).st i).queue = rest ∧ ((overdueTaken i e rest s).st i).recovery = (s.st i).recovery ∧
      ((overdueTaken i e rest s).st i).hold = (s.st i).hold ∧ ((overdueTaken i e rest s).st i).request = (s.st i).request ∧
      ((overdueTaken i e rest s).st i).session.state = (s.st i).session.state ∧
      ((overdueTaken i e rest s).st i).session.closeReason = (s.st i).session.closeReason ∧
      ((overdueTaken i e rest s).st i).meters =
        { (s.st i).meters with writtenOff := ((s.st i).meters.writtenOff + e.impressions) % 1000000000 } := by
  cases kind : e.kind with
  | service =>
    rw [overdueTaken_service kind, st_upd_self]
    exact ⟨rfl, rfl, rfl, rfl, rfl, rfl, rfl⟩
  | charged =>
    have here : (creditWorld (s.st i).session e s).st i = s.st i := by rw [creditWorld_stations]; rfl
    rw [overdueTaken_charged kind (live kind), st_upd_self, here, takenBack_rest]
    exact ⟨rfl, rfl, rfl, rfl, rfl, rfl, rfl⟩

/-- The part with an overdue head taken back differs in station `i` and in the account records. -/
theorem overdueTaken_rest (live : e.kind = .charged → (s.st i).session.state ≠ .none) : overdueTaken i e rest s =
    { s with
      stations := (overdueTaken i e rest s).stations
      accounts := { s.accounts with accounts := (overdueTaken i e rest s).accounts.accounts } } := by
  cases kind : e.kind with
  | service =>
    rw [overdueTaken_service kind]
    rfl
  | charged =>
    have ranges := creditWorld_ranges (s.st i).session e s
    rw [overdueTaken_charged kind (live kind)]
    generalize (fun y => anomalyAt .overdue _) = f
    have world := creditWorld_stations (s.st i).session e s
    generalize creditWorld (s.st i).session e s = w at *
    have accounts : w.accounts = { s.accounts with accounts := w.accounts.accounts } := by
      show _ = AccountUnit.mk s.accounts.ranges _
      rw [← ranges]
    rw [world]
    exact congrArg (fun u => ({ s with accounts := u } : State).upd i f) accounts

end

end Sys2Proof.Machine
end

section
/-!
PROOFS. OVERDUE, by what its credit makes of the session, the payer and the downstream queue (sections 2.5, 3.6 and 4.5).
-/

namespace Sys2Proof.Machine

section
variable {i : StationId} {s : State} {e : InFlight} {rest : List InFlight}

theorem headKeeps_congr {x y : Station} {q : List InFlight} (recovery : y.recovery.stoppage = x.recovery.stoppage)
    (keeps : HeadKeeps x q) : HeadKeeps y q := fun f head => recovery ▸ keeps f head

section
variable (inFrame : s.inFrame i = true) (queue : (s.st i).queue = e :: rest) (clear : (s.st i).recovery.stoppage = none)
  (aged : e.limit * 2000 ≤ e.age) (keeps : HeadKeeps (s.st i) rest) (idle : (s.st i).request = .idle) (hold : (s.st i).hold = .none)
include inFrame queue clear aged keeps idle hold

/-- An overdue head whose removal closes no session. -/
theorem exec_overdue_plain (live : e.kind = .charged → (s.st i).session.state ≠ .none)
    (undrained : e.kind = .charged → (s.st i).session.state = .draining → ∃ f ∈ rest, f.kind = .charged) :
    exec (.overdue i) s = .next (overdueTaken i e rest s) := by
  obtain ⟨left, recovery, holds, waits, state, -, -⟩ := overdueTaken_st (rest := rest) live
  refine exec_overdue_one inFrame queue clear aged (afterRemoval_plain (waits.trans idle) (.inr (.inl (holds.trans hold))) ?_)
    (by rw [left]; exact headKeeps_congr (congrArg Recovery.stoppage recovery) keeps)
  intro charged draining
  rw [left]
  exact undrained (beq_iff_eq.1 charged) (state ▸ draining)

/-- An overdue head whose removal closes its DRAINING session. -/
theorem exec_overdue_closes {r : CloseReason} (charged : e.kind = .charged) (state : (s.st i).session.state = .draining)
    (reason : (s.st i).session.closeReason = some r) (none : ∀ f ∈ rest, f.kind ≠ .charged) :
    exec (.overdue i) s = .next (closeStep i r .closed (overdueTaken i e rest s)) := by
  obtain ⟨left, recovery, holds, waits, drains, reasons, -⟩ :=
    overdueTaken_st (s := s) (i := i) (e := e) (rest := rest) (fun _ => by rw [state]; nofun)
  have isIt : isCharged e = true := beq_iff_eq.2 charged
  refine exec_overdue_one inFrame queue clear aged (isIt ▸ afterRemoval_closes (drains.trans state) (reasons.trans reason)
    (by rw [left]; exact none) (waits.trans idle) (holds.trans hold)) ?_
  have st := closeStep_st i r .closed (overdueTaken i e rest s)
  rw [closedAt_rest] at st
  rw [st]
  show HeadKeeps _ ((overdueTaken i e rest s).st i).queue
  rw [left]
  have stays : ((overdueTaken i e rest s).st i).recovery.stoppage = (s.st i).recovery.stoppage := congrArg Recovery.stoppage recovery
  exact headKeeps_congr stays keeps

end

/-- The first clauses of O54: a sheet taken back without a close. -/
theorem overdue_takes (inFrame : s.inFrame i = true) (queue : (s.st i).queue = e :: rest)
    (clear : (s.st i).recovery.stoppage = none) (aged : e.limit * 2000 ≤ e.age) (keeps : HeadKeeps (s.st i) rest)
    (session : (s.st i).session.state = .opened ∨
      ((s.st i).session.state = .draining ∧ (e.kind = .service ∨ ∃ f ∈ rest, f.kind = .charged)))
    (hold : (s.st i).hold = .none) (idle : (s.st i).request = .idle)
    (room : (s.st i).line.present = true → (s.st i).line.down.length < 4) :
    let x := s.st i
    let shown := fun (spent remaining : Nat) =>
      if x.line.present then { x.line with down := x.line.down ++ [.showing spent remaining] } else x.line
    ∃ t : State, exec (.overdue i) s = .next t ∧
      (t.st i).queue = rest ∧
      (t.st i).meters = { x.meters with writtenOff := (x.meters.writtenOff + e.impressions) % 1000000000 } ∧
      (t.st i).cond = oneAnomaly .overdue x.cond ∧
      t = { s with stations := t.stations, accounts := { s.accounts with accounts := t.accounts.accounts } } ∧
      (∀ j, j ≠ i → t.st j = s.st j) ∧
      (e.kind = .service → t.accounts = s.accounts ∧ (t.st i).session = x.session ∧ (t.st i).line = x.line) ∧
      (∀ n a, e.kind = .charged → x.session.payer = some (.account n) → findAccount s.accounts n = some a →
        a.number = n →
        let raised := a.balance + unitsReturned x.session e.price
        let lost := (raised - 9999999).toNat
        (t.st i).session = creditedSession x.session e lost ∧
        findAccount t.accounts n = some { a with balance := min 9999999 raised } ∧
        (∀ m, m ≠ n → findAccount t.accounts m = findAccount s.accounts m) ∧
        (t.st i).line = shown ((x.session.fineTotal - e.price) / 100)
          (min 9999999 raised - floorOf s.accounts.ranges n).toNat) ∧
      (∀ k, e.kind = .charged → x.session.payer = some (.card k) ∨ x.session.payer = some (.standIn k) →
        (t.st i).session = creditedSession x.session e 0 ∧ t.accounts = s.accounts ∧
        (t.st i).line = shown ((x.session.fineTotal - e.price) / 100)
          (x.session.authority.getD 0 - (x.session.fineTotal - e.price) / 100)) := by
  intro x shown
  have live : e.kind = .charged → x.session.state ≠ .none := fun _ => by
    rcases session with state | ⟨state, -⟩ <;> rw [show x.session.state = _ from state] <;> nofun
  have undrained : e.kind = .charged → x.session.state = .draining → ∃ f ∈ rest, f.kind = .charged := fun charged draining => by
    rcases session with state | ⟨-, service | left⟩
    · rw [state] at draining; cases draining
    · rw [charged] at service; cases service
    · exact left
  obtain ⟨left, -, -, -, -, -, meters⟩ := overdueTaken_st (s := s) (i := i) (e := e) (rest := rest) live
  have here : (creditWorld x.session e s).st i = x := by rw [creditWorld_stations]; rfl
  have charged_st : e.kind = .charged → (overdueTaken i e rest s).st i = anomalyAt .overdue { takenOut s.idleFull e rest x with
      session := creditedSession x.session e (creditLost s x.session e)
      line := shownLine ((x.session.fineTotal - e.price) / 100) (creditShown s x.session e) x.line } := fun charged => by
    rw [overdueTaken_charged charged (live charged), st_upd_self, here, takenBack_shown room]
  refine ⟨_, exec_overdue_plain inFrame queue clear aged keeps idle hold live undrained, left, meters, ?_,
    overdueTaken_rest live, fun j other => ?_, fun service => ?_, fun n a charged payer found number => ?_, fun k charged payer => ?_⟩
  · cases kind : e.kind with
    | service => rw [overdueTaken_service kind, st_upd_self]; rfl
    | charged => rw [charged_st kind]; rfl
  · cases kind : e.kind with
    | service => rw [overdueTaken_service kind, st_upd_ne _ _ other]
    | charged => rw [overdueTaken_charged kind (live kind), st_upd_ne _ _ other, creditWorld_stations]; rfl
  · rw [overdueTaken_service service, st_upd_self]
    exact ⟨rfl, rfl, rfl⟩
  · rw [charged_st charged, creditLost_account payer found, creditShown_account payer found number, overdueTaken_charged charged (live charged),
      upd_accounts, creditWorld_account payer found]
    exact ⟨rfl, (findAccount_put (a := { a with balance := min 9999999 (a.balance + unitsReturned x.session e.price) }) number s).1,
      (findAccount_put (a := { a with balance := min 9999999 (a.balance + unitsReturned x.session e.price) }) number s).2, rfl⟩
  · obtain ⟨world, lost⟩ := credit_authority (s := s) (e := e) payer
    rw [charged_st charged, lost, creditShown_authority payer, overdueTaken_charged charged (live charged), upd_accounts, world]
    exact ⟨rfl, rfl, rfl⟩

/-! ## The close that an overdue head causes -/

theorem closeRecord_congr {s t : State} {y : Session} {payer : Payer} {r : CloseReason} {cent : ClosingCent} {spent : Nat}
    (journal : t.journal = s.journal) : closeRecord t i y payer r cent spent = closeRecord s i y payer r cent spent := by
  unfold closeRecord
  rw [journal]

/-- Whether a card or stand-in payer covers the closing cent says the session alone. -/
theorem finalSpent_authority {s t : State} {y : Session} {k : Token} {cent : ClosingCent} {spent : Nat}
    (payer : y.payer = some (.card k) ∨ y.payer = some (.standIn k)) (final : FinalSpent t y cent spent) :
    FinalSpent s y cent spent := by
  have same : CentFits s y ↔ CentFits t y := by rcases payer with p | p <;> rw [CentFits, CentFits, p]
  exact ⟨final.1, fun owes fits => final.2.1 owes (same.1 fits), fun owes no => final.2.2 owes (mt same.2 no)⟩

/-- The closing cent of an account's session, by the balance. -/
theorem finalSpent_account {t : State} {y : Session} {n : Nat} {b : Account} {cent : ClosingCent} {spent : Nat}
    (payer : y.payer = some (.account n)) (found : findAccount t.accounts n = some b) (final : FinalSpent t y cent spent) :
    let owes : Bool := 50 ≤ y.fineTotal % 100
    let fits : Bool := floorOf t.accounts.ranges n ≤ b.balance - 1
    cent = (if owes then (if fits then .posted else .waived) else .none) ∧
    spent = y.spent + (if owes && fits then 1 else 0) := by
  intro owes fits
  have covers : CentFits t y ↔ floorOf t.accounts.ranges n ≤ b.balance - 1 := by simp [CentFits, payer, found]
  obtain ⟨small, posts, waives⟩ := final
  by_cases o : 50 ≤ y.fineTotal % 100
  · by_cases f : floorOf t.accounts.ranges n ≤ b.balance - 1
    · simpa [owes, fits, o, f] using posts o (covers.2 f)
    · simpa [owes, fits, o, f] using waives o (mt covers.1 f)
  · simpa [owes, fits, o] using small (by omega)

/-- What a close makes of the payer, with its cent and its final spent. -/
structure ClosedWith (i : StationId) (r : CloseReason) (u t : State) (payer : Payer) (cent : ClosingCent) (spent : Nat) : Prop where
  final : FinalSpent u (u.st i).session cent spent
  station : t.st i = closedAt .closed spent cent (u.st i)
  records : t.journal.records = u.journal.records ++ [closeRecord u i (u.st i).session payer r cent spent]
  account : ∀ n b, payer = .account n → findAccount u.accounts n = some b →
    findAccount t.accounts n = some { b with
      balance := b.balance - (if cent = .posted then 1 else 0), openSessions := b.openSessions - 1
      lifetimeSpend := (b.lifetimeSpend + spent) % 1000000000, lastUse := u.journal.clock } ∧
    ∀ m, m ≠ n → findAccount t.accounts m = findAccount u.accounts m
  authority : ∀ k, payer = .card k ∨ payer = .standIn k → t.accounts = u.accounts

theorem closeStep_closedWith {r : CloseReason} {u : State} {payer : Payer} (paid : (u.st i).session.payer = some payer) :
    ClosedWith i r u (closeStep i r .closed u) payer (closingCent i u).1 (closingCent i u).2.1 where
  final := closingCent_final i u
  station := closeStep_st i r .closed u
  records := congrArg JournalUnit.records (closeStep_journal paid)
  account n b account found := (closeStep_account (paid.trans (congrArg some account)) found).2
  authority k authority := by
    rcases authority with rfl | rfl
    · exact (closeStep_card paid).1
    · exact (closeStep_standIn paid).1

/-- A CHARGED head of station `i` has been taken back, with its credit and its SHOW, for which there was room. -/
structure HeadCredited (i : StationId) (s u : State) (e : InFlight) (rest : List InFlight) : Prop where
  station : u.st i = anomalyAt .overdue { takenOut s.idleFull e rest (s.st i) with
    session := creditedSession (s.st i).session e (creditLost s (s.st i).session e)
    line := shownLine (((s.st i).session.fineTotal - e.price) / 100) (creditShown s (s.st i).session e) (s.st i).line }
  accounts : u.accounts = (creditWorld (s.st i).session e s).accounts
  journal : u.journal = s.journal

theorem overdueTaken_credited (charged : e.kind = .charged) (live : (s.st i).session.state ≠ .none)
    (room : (s.st i).line.present = true → (s.st i).line.down.length < 4) : HeadCredited i s (overdueTaken i e rest s) e rest where
  station := by
    have here : (creditWorld (s.st i).session e s).st i = s.st i := by rw [creditWorld_stations]; rfl
    rw [overdueTaken_charged charged live, st_upd_self, here, takenBack_shown room]
  accounts := by rw [overdueTaken_charged charged live, upd_accounts]
  journal := by rw [overdueTaken_rest fun _ => live]

theorem shownLine_present {spent remaining : Nat} {l : StationLine} : (shownLine spent remaining l).present = l.present := by
  unfold shownLine
  split <;> rfl

/-- The station that closes after the credit of its last CHARGED sheet. -/
theorem closedAt_credited {y x : Station} {lost shown spent : Nat} {cent : ClosingCent} {full : Nat}
    (credited : y = anomalyAt .overdue { takenOut full e rest x with
      session := creditedSession x.session e lost
      line := shownLine ((x.session.fineTotal - e.price) / 100) shown x.line })
    (room : x.line.present = true → x.line.down.length < 3) :
    let z := closedAt .closed spent cent y
    z.session = Session.ended x.session.number ∧ z.queue = rest ∧
    z.meters = { x.meters with
      writtenOff := (x.meters.writtenOff + e.impressions) % 1000000000
      sessionsClosed := (x.meters.sessionsClosed + 1) % 1000000000 } ∧
    z.cond.anomalies = min 255 (x.cond.anomalies + 1) ∧ z.cond.latestAnomaly = some .overdue ∧
    z.line = (if x.line.present then
      { x.line with down := x.line.down ++ [.showing ((x.session.fineTotal - e.price) / 100) shown, .closed spent cent] }
      else x.line) := by
  intro z
  have rest_ : z = _ := closedAt_rest .closed spent cent y
  have line : y.line = shownLine ((x.session.fineTotal - e.price) / 100) shown x.line := by rw [credited]; rfl
  have anomalies : y.cond.anomalies = min 255 (x.cond.anomalies + 1) ∧ y.cond.latestAnomaly = some .overdue := by
    rw [credited]
    exact ⟨rfl, rfl⟩
  refine ⟨?_, ?_, ?_, ?_⟩
  · rw [rest_, credited]
    rfl
  · rw [rest_, credited]
    rfl
  · rw [rest_, credited]
    rfl
  by_cases present : x.line.present = true
  · have shows : y.line = { x.line with down := x.line.down ++ [.showing ((x.session.fineTotal - e.price) / 100) shown] } :=
      line.trans (if_pos present)
    have there : y.line.present = true := by rw [shows]; exact present
    have fits : y.line.down.length < 4 := by
      rw [shows]
      have := room present
      simp only [List.length_append, List.length_cons, List.length_nil]
      omega
    obtain ⟨count, latest⟩ := closedAt_anomalies_room (cancel := .closed) (spent := spent) (cent := cent) there fits
    refine ⟨count.trans anomalies.1, latest.trans anomalies.2, ?_⟩
    rw [if_pos present, rest_]
    dsimp only
    rw [closedAt_down_room there fits, shows]
    simp only [List.append_assoc, List.cons_append, List.nil_append]
  · have absent : y.line.present = false := by
      rw [line, shownLine_present]
      exact Bool.eq_false_iff.2 present
    obtain ⟨count, latest⟩ := closedAt_anomalies_absent (cancel := .closed) (spent := spent) (cent := cent) absent
    refine ⟨count.trans anomalies.1, latest.trans anomalies.2, ?_⟩
    rw [if_neg present, closedAt_line_absent absent, line]
    exact if_neg present

/-- The minor unit that a closing cent takes from an account. -/
theorem postedUnit (owes fits : Bool) :
    (if (if owes = true then (if fits = true then ClosingCent.posted else .waived) else .none) = .posted then (1 : Int) else 0) =
      if (owes && fits) = true then 1 else 0 := by
  cases owes <;> cases fits <;> rfl

/-- A CHARGED overdue head of a DRAINING session, the last of its queue. -/
theorem overdue_closes {r : CloseReason} {payer : Payer} (inFrame : s.inFrame i = true) (queue : (s.st i).queue = e :: rest)
    (clear : (s.st i).recovery.stoppage = none) (aged : e.limit * 2000 ≤ e.age) (keeps : HeadKeeps (s.st i) rest)
    (state : (s.st i).session.state = .draining) (reason : (s.st i).session.closeReason = some r)
    (paid : (s.st i).session.payer = some payer) (charged : e.kind = .charged) (none_ : ∀ f ∈ rest, f.kind ≠ .charged)
    (hold : (s.st i).hold = .none) (idle : (s.st i).request = .idle)
    (room : (s.st i).line.present = true → (s.st i).line.down.length < 3) :
    let x := s.st i
    ∃ (t : State) (lost remaining spent : Nat) (cent : ClosingCent), exec (.overdue i) s = .next t ∧ LocalTo i s t ∧
      let credited := creditedSession x.session e lost
      t.journal.records = s.journal.records ++ [closeRecord s i credited payer r cent spent] ∧
      (t.st i).session = Session.ended x.session.number ∧ (t.st i).queue = rest ∧
      (t.st i).meters = { x.meters with
        writtenOff := (x.meters.writtenOff + e.impressions) % 1000000000
        sessionsClosed := (x.meters.sessionsClosed + 1) % 1000000000 } ∧
      (t.st i).cond.anomalies = min 255 (x.cond.anomalies + 1) ∧ (t.st i).cond.latestAnomaly = some .overdue ∧
      (t.st i).line = (if x.line.present then
        { x.line with down := x.line.down ++ [.showing credited.spent remaining, .closed spent cent] } else x.line) ∧
      (∀ n a, payer = .account n → findAccount s.accounts n = some a → a.number = n →
        let raised := a.balance + unitsReturned x.session e.price
        let balance := min 9999999 raised
        let owes : Bool := 50 ≤ credited.fineTotal % 100
        let fits : Bool := floorOf s.accounts.ranges n ≤ balance - 1
        lost = (raised - 9999999).toNat ∧ remaining = (balance - floorOf s.accounts.ranges n).toNat ∧
        cent = (if owes then (if fits then .posted else .waived) else .none) ∧
        spent = credited.spent + (if owes && fits then 1 else 0) ∧
        findAccount t.accounts n = some { a with
          balance := balance - (if owes && fits then 1 else 0), openSessions := a.openSessions - 1
          lifetimeSpend := (a.lifetimeSpend + spent) % 1000000000, lastUse := s.journal.clock } ∧
        ∀ m, m ≠ n → findAccount t.accounts m = findAccount s.accounts m) ∧
      (∀ k, payer = .card k ∨ payer = .standIn k → lost = 0 ∧ t.accounts = s.accounts ∧
        remaining = x.session.authority.getD 0 - credited.spent ∧ FinalSpent s credited cent spent) := by
  intro x
  have live : x.session.state ≠ .none := by rw [show x.session.state = _ from state]; nofun
  have taken := exec_overdue_closes inFrame queue clear aged keeps idle hold charged state reason none_
  obtain ⟨station, accounts, journal⟩ :=
    overdueTaken_credited (rest := rest) charged live fun p => Nat.lt_succ_of_lt (room p)
  have whole : LocalTo i s (closeStep i r .closed (overdueTaken i e rest s)) := by
    have same := (exec_overdue inFrame).symm.trans taken
    injection same with same
    exact same ▸ headExpires_local i s
  generalize overdueTaken i e rest s = u at taken station accounts journal whole
  have session : (u.st i).session = creditedSession x.session e (creditLost s x.session e) := by rw [station]; rfl
  have paid' : (u.st i).session.payer = some payer := by rw [session]; exact paid
  have closed := closeStep_closedWith (i := i) (r := r) paid'
  generalize (closingCent i u).1 = cent at closed
  generalize (closingCent i u).2.1 = spent at closed
  generalize closeStep i r .closed u = t at closed taken whole
  obtain ⟨final, ended, records, settled, unmoved⟩ := closed
  rw [session] at final
  rw [session, closeRecord_congr journal, journal] at records
  have parts := closedAt_credited (spent := spent) (cent := cent) station room
  rw [← ended] at parts
  obtain ⟨endedSession, left, meters, anomalies, latest, line⟩ := parts
  refine ⟨t, creditLost s x.session e, creditShown s x.session e, spent, cent, taken, whole, records, endedSession, left, meters,
    anomalies, latest, line, fun n a account found number => ?_, fun k authority => ?_⟩
  · have payer' : x.session.payer = some (.account n) := paid.trans (congrArg some account)
    have stored := findAccount_put (a := { a with balance := min 9999999 (a.balance + unitsReturned x.session e.price) }) number s
    rw [creditWorld_account payer' found] at accounts
    have foundThere := (congrArg (findAccount · n) accounts).trans stored.1
    have ranges : u.accounts.ranges = s.accounts.ranges := by rw [accounts]; rfl
    obtain ⟨cents, spends⟩ := finalSpent_account (y := creditedSession x.session e (creditLost s x.session e)) payer' foundThere final
    rw [ranges] at cents spends
    obtain ⟨updated, others⟩ := settled n _ account foundThere
    refine ⟨creditLost_account payer' found, creditShown_account payer' found number, cents, spends, ?_, fun m other => ?_⟩
    · rw [updated, journal, cents, postedUnit]
    · rw [others m other, accounts]
      exact stored.2 m other
  · have authority' : x.session.payer = some (.card k) ∨ x.session.payer = some (.standIn k) :=
      authority.imp (fun h => paid.trans (congrArg some h)) fun h => paid.trans (congrArg some h)
    obtain ⟨world, lost⟩ := credit_authority (s := s) (e := e) authority'
    exact ⟨lost, by rw [unmoved k authority, accounts, world], creditShown_authority authority', finalSpent_authority authority' final⟩

/-- A CHARGED overdue head of an account's session, with four messages in the downstream queue. -/
theorem overdue_full {n : Nat} {a : Account} (inFrame : s.inFrame i = true) (queue : (s.st i).queue = e :: rest)
    (clear : (s.st i).recovery.stoppage = none) (aged : e.limit * 2000 ≤ e.age) (keeps : HeadKeeps (s.st i) rest)
    (state : (s.st i).session.state = .opened) (hold : (s.st i).hold = .none) (idle : (s.st i).request = .idle)
    (present : (s.st i).line.present = true) (full : (s.st i).line.down.length = 4) (charged : e.kind = .charged)
    (payer : (s.st i).session.payer = some (.account n)) (found : findAccount s.accounts n = some a) (number : a.number = n) :
    let x := s.st i
    let balance := min 9999999 (a.balance + unitsReturned x.session e.price)
    ∃ (t : State) (c : Conditions), exec (.overdue i) s = .next t ∧ (t.st i).cond = oneAnomaly .overdue c ∧
      OfferedToFull (.showing ((x.session.fineTotal - e.price) / 100)
        (balance - floorOf s.accounts.ranges n).toNat) x.line x.cond (t.st i).line.down c := by
  intro x balance
  have live : x.session.state ≠ .none := by rw [show x.session.state = _ from state]; nofun
  have here : (creditWorld x.session e s).st i = x := by rw [creditWorld_stations]; rfl
  refine ⟨_, (takenBack s.idleFull e rest (creditLost s x.session e) (creditShown s x.session e) x).cond,
    exec_overdue_plain inFrame queue clear aged keeps idle hold (fun _ => live)
      (fun _ draining => by rw [state] at draining; cases draining), ?_, ?_⟩
  all_goals rw [overdueTaken_charged charged live, st_upd_self, here]
  · rfl
  · rw [creditShown_account payer found number]
    exact offered_full (x := { takenOut s.idleFull e rest x with
      session := creditedSession x.session e (creditLost s x.session e) }) present full

end

end Sys2Proof.Machine
end

section
/-!
PROOFS. A slot that brings exits (sections 1.5 and 4.4), at an OPEN session.
-/

namespace Sys2Proof.Machine

section
variable {i : StationId} {s : State} {e f : InFlight} {rest : List InFlight} {x : Station} {c : Code} {k : Nat}

/-! ## The slot -/

/-- A station whose slot has brought exits, before they are taken: the downstream half has gone out, and a running idle timer is
reloaded. -/
def exiting (full : Nat) (x : Station) : Station := reloaded full { x with line := reportedLine x }

/-- The state in which the exits of a slot of station `i` are taken. -/
def State.exiting (s : State) (i : StationId) : State := s.passSlot.upd i (Machine.exiting s.idleFull)

theorem exiting_st : (s.exiting i).st i = exiting s.idleFull (s.st i) := st_upd_self ..

/-- The parts of an arrival that brings exits, where the pick field leaves the latch as it is. -/
theorem messageParts_exits {a : Arrival} {l : StationLine} (stays : LatchStays a.pick l.latch) (some_ : a.exits ≠ 0)
    (mark : a.mark = .idle) (up : l.up = .idle) (free : l.downWait = none) : messageParts a l = (l, [.exits a.exits]) := by
  have byte : byteArrival a.mark a.byte l = (l, []) := by
    rw [mark]
    exact quietArrival_idle up
  unfold messageParts
  rw [pickArrival_stays stays]
  dsimp only
  rw [byte]
  dsimp only
  rw [ackArrival_none _ free, exitArrival, if_neg some_]
  rfl

/-- A slot of a station that is calm but for its pick brings exits. -/
theorem slot_exits {pick : Nat} (inFrame : s.inFrame i = true) (slot : s.slot = i) (spelt : c ≠ .jam 0) (calm : CalmBut c (s.st i))
    (few : k < 4) (some_ : k ≠ 0) (small : pick < 256) (stays : LatchStays (decodePick pick) (s.st i).line.latch) :
    exec (.upstreamHalf i (halfOf c pick k 0 0 0)) s = .next (exits i k (s.exiting i)) := by
  have line := reportedLine_calmBut calm
  have half : decodeHalf (halfOf c pick k 0 0 0) = ⟨true, some c, decodePick pick, k, .idle, .none, 0⟩ :=
    decodeHalf_halfOf 0 spelt small few (by omega) (by omega)
  obtain ⟨⟨present, -, up, -, free, -⟩, confirmed⟩ := calm
  have parts := messageParts_exits (a := ⟨true, some c, decodePick pick, k, .idle, .none, 0⟩) (l := reportedLine (s.st i))
    (by rw [line]; exact stays) some_ rfl (by rw [line]; exact up) (by rw [line]; exact free)
  rw [slot_reports inFrame slot half rfl rfl present confirmed parts, takeEvents_one rfl]
  refine congrArg Host.Outcome.next ((if_neg some_).trans (congrArg (exits i k) ?_))
  rw [activity_eq, upd_upd]
  exact upd_congr (s := s.passSlot) rfl

/-- The slot of a calm station. -/
theorem calmBut_of_calm (calm : Calm x) (confirmed : x.line.confirmed = some c) : CalmBut c x := by
  obtain ⟨present, latch, rest⟩ := calm
  exact ⟨⟨present, rfl, rest⟩, confirmed⟩

theorem calm_of_calmBut (calm : CalmBut c x) (latch : x.line.latch = .idle) : Calm x := by
  obtain ⟨⟨present, -, rest⟩, -⟩ := calm
  exact ⟨present, latch, rest⟩

theorem slot_exits_idle (inFrame : s.inFrame i = true) (slot : s.slot = i) (spelt : c ≠ .jam 0) (calm : CalmBut c (s.st i))
    (latch : (s.st i).line.latch = .idle) (few : k < 4) (some_ : k ≠ 0) :
    exec (.upstreamHalf i (halfOf c 0 k 0 0 0)) s = .next (exits i k (s.exiting i)) :=
  slot_exits inFrame slot spelt calm few some_ (by omega) (.inl ⟨decodePick_none, latch⟩)

/-! ## One exit -/

theorem exits_one (i : StationId) (s : State) : exits i 1 s = judgeHeads false i 8 (exitOne i s) := rfl

/-- An exit that is taken whole, with what its removal makes follow. -/
theorem exits_one_delivers {t : State} (queue : (s.st i).queue = e :: rest)
    (follows : afterRemoval false (isCharged e) i (s.upd i (headDelivered s.idleFull e rest)) = t)
    (keeps : HeadKeeps (t.st i) (t.st i).queue) : exits i 1 s = t := by
  rw [exits_one, exitOne_cons queue, follows]
  exact judgeHeads_keeps false 8 keeps

/-- The station after a slot in which an exit delivers its head, and nothing else follows. -/
theorem headDelivered_exiting (e : InFlight) (rest : List InFlight) (full : Nat) (x : Station) :
    headDelivered full e rest (exiting full x) = { x with
      line := reportedLine x, queue := rest, meters := deliveredOn e x.meters
      idleTimer := (headDelivered full e rest (exiting full x)).idleTimer } := rfl

/-- An exit that delivers without a change of the hold, a close, or a waiting pick. -/
theorem exits_one_plain (queue : (s.st i).queue = e :: rest) (idle : (s.st i).request = .idle)
    (stays : rest ≠ [] ∨ (s.st i).hold = .none ∨ (s.st i).hold = .held)
    (undrained : (s.st i).session.state = .draining → ∃ f ∈ rest, f.kind = .charged) (keeps : HeadKeeps (s.st i) rest) :
    exits i 1 s = s.upd i (headDelivered s.idleFull e rest) := by
  refine exits_one_delivers queue (afterRemoval_plain ?_ ?_ fun _ draining => ?_) ?_ <;> rw [st_upd_self] at *
  · exact idle
  · exact stays
  · exact undrained draining
  · exact keeps

theorem deliveredOn_writtenOff (e : InFlight) (m : Meters) : (deliveredOn e m).writtenOff = m.writtenOff := by
  unfold deliveredOn
  cases e.kind <;> rfl

/-- An exit that makes an overdue SERVICE entry the head. -/
theorem exits_one_overdue (queue : (s.st i).queue = e :: f :: rest) (idle : (s.st i).request = .idle) (hold : (s.st i).hold = .none)
    (open_ : (s.st i).session.state ≠ .draining) (clear : (s.st i).recovery.stoppage = none) (service : f.kind = .service)
    (aged : f.limit * 2000 ≤ f.age) (keeps : HeadKeeps (s.st i) rest) : exits i 1 s =
      s.upd i fun x => anomalyAt .overdue (takenOut s.idleFull f rest (headDelivered s.idleFull e (f :: rest) x)) := by
  have exit : exitOne i s = s.upd i (headDelivered s.idleFull e (f :: rest)) := by
    rw [exitOne_cons queue]
    refine afterRemoval_plain ?_ (.inr (.inl ?_)) fun _ draining => ?_ <;> rw [st_upd_self] at *
    · exact idle
    · exact hold
    · exact absurd draining open_
  have left : ((s.upd i (headDelivered s.idleFull e (f :: rest))).st i).queue = f :: rest := by rw [st_upd_self]; rfl
  have taken : overdueOne i (s.upd i (headDelivered s.idleFull e (f :: rest))) =
      s.upd i fun x => anomalyAt .overdue (takenOut s.idleFull f rest (headDelivered s.idleFull e (f :: rest) x)) := by
    have out : overdueTaken i f rest (s.upd i (headDelivered s.idleFull e (f :: rest))) =
        s.upd i fun x => anomalyAt .overdue (takenOut s.idleFull f rest (headDelivered s.idleFull e (f :: rest) x)) := by
      rw [overdueTaken_service service, upd_upd]
      rfl
    rw [overdueOne_cons left, raiseAnomaly_eq, ← overdueTaken, out]
    refine afterRemoval_plain ?_ (.inr (.inl ?_)) fun charged => ?_
    · rw [st_upd_self]; exact idle
    · rw [st_upd_self]; exact hold
    · rw [isCharged, service] at charged
      cases charged
  rw [exits_one, exit]
  refine judgeHeads_one 7 (headOverdue_true left (by rw [st_upd_self]; exact clear) aged) taken ?_
  rw [st_upd_self]
  exact keeps

/-- The second part of O54: one exit at a calm station with an OPEN session and hold NONE. -/
theorem exitAtOpen (i : StationId) (s : State) (c : Code) (inFrame : s.inFrame i = true) (slot : s.slot = i) (spelt : c ≠ .jam 0)
    (calm : Calm (s.st i)) (confirmed : (s.st i).line.confirmed = some c) (state : (s.st i).session.state = .opened)
    (hold : (s.st i).hold = .none) (idle : (s.st i).request = .idle) :
    let x := s.st i
    let exit := halfOf c 0 1 0 0 0
    (x.queue = [] → ∃ idle : Option Nat,
      exec (.upstreamHalf i exit) s = .next (s.passSlot.upd i fun y => { y with
        line := calmLine x, idleTimer := idle, cond := oneAnomaly .unchargedExit x.cond
        meters := { x.meters with unchargedExits := (x.meters.unchargedExits + 1) % 1000000000 }
        session := { x.session with unchargedExits := min 16777215 (x.session.unchargedExits + 1) } })) ∧
    (∀ e rest, x.queue = e :: rest → HeadKeeps x rest → ∃ idle : Option Nat,
      exec (.upstreamHalf i exit) s = .next (s.passSlot.upd i fun y => { y with
        line := calmLine x, idleTimer := idle, queue := rest, meters := deliveredOn e x.meters })) ∧
    (∀ e f rest, x.queue = e :: f :: rest → x.recovery.stoppage = none → f.kind = .service → f.limit * 2000 ≤ f.age →
      HeadKeeps x rest → ∃ idle : Option Nat,
      exec (.upstreamHalf i exit) s = .next (s.passSlot.upd i fun y => { y with
        line := calmLine x, idleTimer := idle, queue := rest, cond := oneAnomaly .overdue x.cond
        meters := { deliveredOn e x.meters with
          writtenOff := (x.meters.writtenOff + f.impressions) % 1000000000 } })) := by
  intro x exit
  have taken : exec (.upstreamHalf i exit) s = .next (exits i 1 (s.exiting i)) :=
    slot_exits_idle inFrame slot spelt (calmBut_of_calm calm confirmed) calm.2.1 (by omega) (by omega)
  have line : reportedLine x = calmLine x := reportedLine_calm calm
  have here := exiting_st (s := s) (i := i)
  have open_ : ((s.exiting i).st i).session.state ≠ .draining := by
    rw [here]
    show (s.st i).session.state ≠ _
    rw [state]
    nofun
  refine ⟨fun empty => ⟨(exiting s.idleFull x).idleTimer, ?_⟩, fun e rest queue keeps =>
    ⟨(headDelivered s.idleFull e rest (exiting s.idleFull x)).idleTimer, ?_⟩, fun e f rest queue clear service aged keeps =>
    ⟨(takenOut s.idleFull f rest (headDelivered s.idleFull e (f :: rest) (exiting s.idleFull x))).idleTimer, ?_⟩⟩
  · have none : ((s.exiting i).st i).queue = [] := by rw [here]; exact empty
    rw [taken, exits_one, exitOne_nil none, judgeHeads_keeps false 8 (by
      rw [st_upd_self]
      intro f head
      rw [show (exitUncharged _).queue = _ from none] at head
      cases head), State.exiting, upd_upd]
    refine congrArg Host.Outcome.next (upd_congr (s := s.passSlot) ?_)
    have live : ¬ (exiting s.idleFull x).session.state = .none := by
      show ¬ x.session.state = _
      rw [state]
      nofun
    rw [st_passSlot, exitUncharged, if_neg live, ← line]
    rfl
  · rw [taken, exits_one_plain (by rw [here]; exact queue) (by rw [here]; exact idle) (.inr (.inl (by rw [here]; exact hold)))
      (fun draining => absurd draining open_) (by rw [here]; exact keeps), State.exiting, upd_upd, ← line]
    exact congrArg Host.Outcome.next (upd_congr (s := s.passSlot) (headDelivered_exiting ..))
  · have overdue := exits_one_overdue (i := i) (s := s.exiting i) (e := e) (f := f) (rest := rest) (by rw [here]; exact queue)
      (by rw [here]; exact idle) (by rw [here]; exact hold) open_ (by rw [here]; exact clear) service aged (by rw [here]; exact keeps)
    rw [taken, overdue, State.exiting, upd_upd, ← line]
    refine congrArg Host.Outcome.next (upd_congr (s := s.passSlot) ?_)
    rw [st_passSlot, ← deliveredOn_writtenOff e x.meters]
    rfl

end

end Sys2Proof.Machine
end

section
/-!
PROOFS. What follows an exit (section 4.4): a waiting pick, the hold, and the close of a DRAINING session.
-/

namespace Sys2Proof.Machine

section
variable {i : StationId} {s : State} {e f : InFlight} {rest : List InFlight} {x : Station} {c : Code} {n m : Nat} {p : SheetSpec}
  {cause : WaitCause} {left full : Nat} {w : Bool}

/-! ## A waiting pick after a removal -/

/-- A removal that moves no hold and closes no session has the waiting pick evaluated. -/
theorem afterRemoval_waits {b g : Bool} (stays : (s.st i).queue ≠ [] ∨ (s.st i).hold = .none ∨ (s.st i).hold = .held)
    (undrained : (s.st i).session.state ≠ .draining) : afterRemoval b g i s = reevaluate i s := by
  have kept : (if g then drainCheck i s else s) = s := by
    split
    · exact drainCheck_notDraining undrained
    · rfl
  unfold afterRemoval
  rw [kept, holdWhenEmpty_stays stays]

/-- A station whose waiting pick is granted with an entry. -/
def grantedWaiting (e : InFlight) (x : Station) : Station := { x with
  request := .idle, idleTimer := none, queue := x.queue ++ [e], line := { x.line with latch := .answeredGo }
  meters := { x.meters with granted := (x.meters.granted + e.impressions) % 1000000000 } }

theorem answered_pushed (latch : x.line.latch = .raised n p w) : answered full n .go (pushed full e x) = grantedWaiting e x := by
  have busy : idleEligible { pushed full e x with request := .idle } = false := by
    rw [← Bool.not_eq_true, idleEligible_iff, pushed_rest]
    exact fun h => List.append_ne_nil_of_right_ne_nil x.queue (by simp) h.2.2.1
  unfold answered
  rw [judged_ineligible busy, pushed_rest]
  dsimp only
  rw [latch, answerLatch_held]
  rfl

theorem answered_chargedAt {y : Session} {remaining : Nat} (latch : x.line.latch = .raised n p w) (present : x.line.present = true)
    (empty : x.line.down = []) : answered full n .go (chargedAt full e y remaining x) =
      { grantedWaiting e x with
        session := y, line := { x.line with latch := .answeredGo, down := [.showing y.spent remaining] } } := by
  have shown : chargedAt full e y remaining x = { pushed full e { x with session := y } with
      line := { x.line with down := [.showing y.spent remaining] } } := by
    have line : (pushed full e { x with session := y }).line = x.line := by rw [pushed_rest]
    rw [chargedAt, offered_room (by rw [line]; exact present) (by rw [line, empty]; exact Nat.zero_lt_succ 3), line, empty]
    rfl
  have busy : idleEligible { chargedAt full e y remaining x with request := .idle } = false := by
    rw [← Bool.not_eq_true, idleEligible_iff, shown, pushed_rest]
    exact fun h => List.append_ne_nil_of_right_ne_nil x.queue (by simp) h.2.2.1
  unfold answered
  rw [judged_ineligible busy, shown, pushed_rest]
  dsimp only
  rw [latch, answerLatch_held]
  rfl

theorem reevaluate_standIn {t : Token} {k : Fin 8} {base : Nat} (waits : (s.st i).request = .waiting n p cause left)
    (state : (s.st i).session.state = .opened) (hold : (s.st i).hold = .none) (sides : p.sides = 1 ∨ p.sides = 2)
    (room : (s.st i).queue.length < 8) (payer : (s.st i).session.payer = some (.standIn t))
    (tariff : (s.st i).session.tariffClass = some k) (priced : basePrice s.charge k p.media p.colour = some base)
    (within : ¬ PastLimits (s.st i).session p (costOf s k base (s.st i).session p))
    (covered : (s.st i).session.spent + unitsPosted (s.st i).session (costOf s k base (s.st i).session p) ≤
      (s.st i).session.authority.getD 0) :
    let y := chargedSession (s.st i).session p (costOf s k base (s.st i).session p)
    reevaluate i s = s.upd i fun x => answered s.idleFull n .go (chargedAt s.idleFull
      (sheetEntry s .charged p (costOf s k base (s.st i).session p)) y ((s.st i).session.authority.getD 0 - y.spent) x) := by
  intro y
  have funds : fundsCheck (s.st i).session (unitsPosted (s.st i).session (costOf s k base (s.st i).session p)) s = some s :=
    (fundsCheck_authority (.inr ⟨t, payer⟩)).trans (if_pos covered)
  have judged_ := (evaluate_charge (p := p) state hold sides room).trans (evaluateCharge_go tariff priced within funds)
  have notCard : ¬ payerIsCard y.payer = true := by
    rw [show y.payer = _ from payer]
    nofun
  dsimp only at judged_
  rw [if_neg notCard, remainingFor_authority (y := chargedSession _ _ _) (.inr ⟨t, payer⟩)] at judged_
  rw [reevaluate_answered (v := .go) waits nofun judged_, upd_upd]
  rfl

/-- A queue whose head keeps, with a fresh sheet at its tail. -/
theorem headKeeps_append (keeps : HeadKeeps x rest) (young : e.age < e.limit * 2000) : HeadKeeps x (rest ++ [e]) := by
  intro f head
  cases rest with
  | nil =>
    cases head
    exact .inr young
  | cons g rest => exact keeps f head

theorem deliveredOn_granted (e : InFlight) (m : Meters) : (deliveredOn e m).granted = m.granted := by
  unfold deliveredOn
  cases e.kind <;> rfl

theorem deliveredOn_closed (e : InFlight) (m : Meters) : (deliveredOn e m).sessionsClosed = m.sessionsClosed := by
  unfold deliveredOn
  cases e.kind <;> rfl

/-- The line state of a station calm but for its pick, whose waiting request is granted. -/
theorem granted_line (calm : CalmBut c x) (latch : Latch) : { reportedLine x with latch := latch } = heldLine x latch := by
  rw [reportedLine_calmBut calm]
  rfl

/-- A slot with one exit, at a latch that holds the pick. -/
theorem exec_exit_pick (inFrame : s.inFrame i = true) (slot : s.slot = i) (spelt : c ≠ .jam 0) (calm : CalmBut c (s.st i))
    (latch : (s.st i).line.latch = .raised n p w) :
    exec (.upstreamHalf i (halfOf c (pickByte p) 1 0 0 0)) s = .next (exits i 1 (s.exiting i)) :=
  slot_exits inFrame slot spelt calm (by omega) (by omega) (pickByte_lt p)
    (.inr ⟨by rw [latch]; nofun, by rw [decodePick_pickByte]; rfl⟩)

/-- The station after an exit has delivered its head. -/
theorem delivered_st (e : InFlight) (rest : List InFlight) : ((s.exiting i).upd i (headDelivered s.idleFull e rest)).st i =
    headDelivered s.idleFull e rest (exiting s.idleFull (s.st i)) := by
  rw [st_upd_self, exiting_st]

section
variable (inFrame : s.inFrame i = true) (slot : s.slot = i) (spelt : c ≠ .jam 0) (calm : CalmBut c (s.st i))
  (queue : (s.st i).queue = e :: rest) (keeps : HeadKeeps (s.st i) rest)
include inFrame slot spelt calm queue keeps

/-- The exit that leaves a place for a waiting pick. -/
theorem exit_grants {g : Station → Station} {sheet : InFlight} (latch : (s.st i).line.latch = .raised n p w)
    (undrained : (s.st i).session.state ≠ .draining) (hold : (s.st i).hold = .none ∨ (s.st i).hold = .held)
    (young : sheet.age < sheet.limit * 2000)
    (grants : reevaluate i ((s.exiting i).upd i (headDelivered s.idleFull e rest)) =
      ((s.exiting i).upd i (headDelivered s.idleFull e rest)).upd i g)
    (left : (g (headDelivered s.idleFull e rest (exiting s.idleFull (s.st i)))).queue = rest ++ [sheet])
    (recovery : (g (headDelivered s.idleFull e rest (exiting s.idleFull (s.st i)))).recovery = (s.st i).recovery) :
    exec (.upstreamHalf i (halfOf c (pickByte p) 1 0 0 0)) s = .next (s.passSlot.upd i fun x =>
      g (headDelivered s.idleFull e rest (exiting s.idleFull x))) := by
  have here := delivered_st (s := s) (i := i) e rest
  rw [exec_exit_pick inFrame slot spelt calm latch]
  refine congrArg Host.Outcome.next (exits_one_delivers (by rw [exiting_st]; exact queue) ?_ ?_)
  · show afterRemoval false (isCharged e) i ((s.exiting i).upd i (headDelivered s.idleFull e rest)) = _
    rw [afterRemoval_waits (by rw [here]; exact .inr hold) (by rw [here]; exact undrained), grants, State.exiting, upd_upd, upd_upd]
  · rw [st_upd_self, st_passSlot, left]
    exact headKeeps_congr (congrArg Recovery.stoppage recovery) (headKeeps_append keeps young)

/-- A slot with one exit at an IDLE latch. -/
theorem exit_follows {t : State} (latch : (s.st i).line.latch = .idle)
    (follows : afterRemoval false (isCharged e) i ((s.exiting i).upd i (headDelivered s.idleFull e rest)) = t)
    (left : (t.st i).queue = rest) (stoppage : (t.st i).recovery.stoppage = (s.st i).recovery.stoppage) :
    exec (.upstreamHalf i (halfOf c 0 1 0 0 0)) s = .next t := by
  rw [slot_exits_idle inFrame slot spelt calm latch (by omega) (by omega)]
  refine congrArg Host.Outcome.next (exits_one_delivers (by rw [exiting_st]; exact queue) follows ?_)
  rw [left]
  exact headKeeps_congr stoppage keeps

/-- A pick that waits gets GO as a service sheet under HELD. -/
theorem exit_grants_service (waits : (s.st i).request = .waiting n p cause left) (latch : (s.st i).line.latch = .raised n p w)
    (sides : p.sides = 1 ∨ p.sides = 2) (room : rest.length < 8) (transit : 0 < s.host.timers.transit) (hold : (s.st i).hold = .held)
    (state : (s.st i).session.state = .none ∨ (s.st i).session.state = .opened) :
    let x := s.st i
    exec (.upstreamHalf i (halfOf c (pickByte p) 1 0 0 0)) s = .next (s.passSlot.upd i fun y => { y with
      line := heldLine x .answeredGo, idleTimer := none, request := .idle
      queue := rest ++ [sheetEntry s .service p 0]
      meters := { deliveredOn e x.meters with granted := (x.meters.granted + p.sides.val) % 1000000000 } }) := by
  intro x
  have here := delivered_st (s := s) (i := i) e rest
  have undrained : (s.st i).session.state ≠ .draining := by rcases state with h | h <;> rw [h] <;> nofun
  have go := evaluate_free (i := i) (p := p) (s := (s.exiting i).upd i (headDelivered s.idleFull e rest))
    (by rw [here]; exact state.imp_right .inr) (by rw [here]; exact (servesFree_iff _).2 (.inl hold)) sides (by rw [here]; exact room)
  have grants := reevaluate_go (by rw [here]; exact waits) go
  rw [exit_grants (sheet := sheetEntry s .service p 0) inFrame slot spelt calm queue keeps latch undrained (.inr hold) (show 0 < _ * 2000 by
    have : (sheetEntry s .service p 0).limit = s.host.timers.transit := rfl
    omega) grants ?_ ?_]
  · refine congrArg Host.Outcome.next (upd_congr (s := s.passSlot) ?_)
    rw [answered_pushed (p := p) (w := w) (by rw [st_passSlot]; exact (congrArg StationLine.latch (reportedLine_calmBut calm)).trans latch),
      ← granted_line calm, ← deliveredOn_granted e x.meters]
    rfl
  all_goals
    rw [answered_pushed (p := p) (w := w) (by exact (congrArg StationLine.latch (reportedLine_calmBut calm)).trans latch)]
    rfl

end

end

end Sys2Proof.Machine
end

section
/-!
PROOFS. What follows an exit, by the session and the hold (sections 2.5, 4.4 and 9.2), the third part of the statement on sheets.
-/

namespace Sys2Proof.Machine

section
variable {i : StationId} {s : State} {e f : InFlight} {rest : List InFlight} {x : Station} {c : Code} {n m : Nat} {p : SheetSpec}
  {cause : WaitCause} {left full : Nat} {w : Bool}

/-- A station whose hold an emptied queue moves on. -/
theorem holdWhenEmpty_requested {b : Bool} (empty : (s.st i).queue = []) (hold : (s.st i).hold = .requested) :
    holdWhenEmpty b i s = changeHold b i .held s := by
  unfold holdWhenEmpty
  dsimp only
  rw [if_pos (by rw [empty]; rfl), hold]

theorem holdWhenEmpty_releasing {b : Bool} (empty : (s.st i).queue = []) (hold : (s.st i).hold = .releasing) :
    holdWhenEmpty b i s = changeHold b i .none s := by
  unfold holdWhenEmpty
  dsimp only
  rw [if_pos (by rw [empty]; rfl), hold]

/-- A removal that empties the queue under a hold that moves on to a state that stalls no session. -/
theorem afterRemoval_holds {b g : Bool} {h : HoldState} (undrained : (s.st i).session.state ≠ .draining)
    (idle : (s.st i).request = .idle) (moves : holdWhenEmpty b i s = changeHold b i h s)
    (plain : h ≠ .none ∨ (s.st i).recovery.stoppage = none ∨ b = true) :
    afterRemoval b g i s = s.upd i (holdSet s.idleFull h) := by
  have kept : (if g then drainCheck i s else s) = s := by
    split
    · exact drainCheck_notDraining undrained
    · rfl
  have idle' : ((s.upd i (holdSet s.idleFull h)).st i).request = .idle := by rw [st_upd_self]; exact idle
  unfold afterRemoval
  rw [kept, moves, changeHold_plain plain, reevaluate_idle idle', reevaluate_idle idle']

section
variable (inFrame : s.inFrame i = true) (slot : s.slot = i) (spelt : c ≠ .jam 0) (calm : CalmBut c (s.st i))
  (queue : (s.st i).queue = e :: rest) (keeps : HeadKeeps (s.st i) rest)
include inFrame slot spelt calm queue keeps

/-- A pick that waits is charged at an OPEN STANDIN session. -/
theorem exit_grants_standIn {t : Token} {k : Fin 8} {base : Nat} (waits : (s.st i).request = .waiting n p cause left)
    (latch : (s.st i).line.latch = .raised n p w) (sides : p.sides = 1 ∨ p.sides = 2) (room : rest.length < 8)
    (transit : 0 < s.host.timers.transit) (hold : (s.st i).hold = .none) (state : (s.st i).session.state = .opened)
    (payer : (s.st i).session.payer = some (.standIn t)) (tariff : (s.st i).session.tariffClass = some k)
    (priced : basePrice s.charge k p.media p.colour = some base)
    (within : ¬ PastLimits (s.st i).session p (costOf s k base (s.st i).session p))
    (covered : (s.st i).session.spent + unitsPosted (s.st i).session (costOf s k base (s.st i).session p) ≤
      (s.st i).session.authority.getD 0) :
    let x := s.st i
    let price := costOf s k base x.session p
    let session := chargedSession x.session p price
    exec (.upstreamHalf i (halfOf c (pickByte p) 1 0 0 0)) s = .next (s.passSlot.upd i fun y => { y with
      session := session, idleTimer := none, request := .idle
      queue := rest ++ [sheetEntry s .charged p price]
      meters := { deliveredOn e x.meters with granted := (x.meters.granted + p.sides.val) % 1000000000 }
      line := { heldLine x .answeredGo with
        down := [.showing session.spent (x.session.authority.getD 0 - session.spent)] } }) := by
  intro x price session
  have here := delivered_st (s := s) (i := i) e rest
  have undrained : (s.st i).session.state ≠ .draining := by rw [state]; nofun
  have grants := reevaluate_standIn (i := i) (p := p) (s := (s.exiting i).upd i (headDelivered s.idleFull e rest)) (k := k) (base := base)
    (by rw [here]; exact waits) (by rw [here]; exact state) (by rw [here]; exact hold) sides (by rw [here]; exact room)
    (by rw [here]; exact payer) (by rw [here]; exact tariff) priced (by rw [here]; exact within) (by rw [here]; exact covered)
  rw [here] at grants
  have latch' : (headDelivered s.idleFull e rest (exiting s.idleFull x)).line.latch = .raised n p w :=
    (congrArg StationLine.latch (reportedLine_calmBut calm)).trans latch
  have present : (headDelivered s.idleFull e rest (exiting s.idleFull x)).line.present = true :=
    (congrArg StationLine.present (reportedLine_calmBut calm)).trans calm.1.1
  have empty : (headDelivered s.idleFull e rest (exiting s.idleFull x)).line.down = [] :=
    (congrArg StationLine.down (reportedLine_calmBut calm)).trans calm.1.2.2.2.1
  have granted := fun v y remaining => answered_chargedAt (full := s.idleFull) (e := v) (y := y) (remaining := remaining) latch' present empty
  rw [exit_grants (sheet := sheetEntry s .charged p price) inFrame slot spelt calm queue keeps latch undrained (.inl hold) (show 0 < _ * 2000 by
    have : (sheetEntry s .charged p price).limit = s.host.timers.transit := rfl
    omega) grants ?_ ?_]
  · refine congrArg Host.Outcome.next (upd_congr (s := s.passSlot) ?_)
    refine (granted _ _ _).trans ?_
    rw [← granted_line calm, ← deliveredOn_granted e x.meters]
    rfl
  · refine (congrArg Station.queue (granted _ _ _)).trans ?_
    rfl
  · refine (congrArg Station.recovery (granted _ _ _)).trans ?_
    rfl

/-- An exit that empties the queue under a hold that moves on. -/
theorem exit_moves_hold {h : HoldState} (latch : (s.st i).line.latch = .idle) (idle : (s.st i).request = .idle) (last : rest = [])
    (state : (s.st i).session.state = .none ∨ (s.st i).session.state = .opened)
    (moves : ((s.st i).hold = .requested ∧ h = .held) ∨
      ((s.st i).hold = .releasing ∧ h = .none ∧ (s.st i).recovery.stoppage = none)) :
    exec (.upstreamHalf i (halfOf c 0 1 0 0 0)) s = .next (s.passSlot.upd i fun y =>
      holdSet s.idleFull h (headDelivered s.idleFull e rest (exiting s.idleFull y))) := by
  have here := delivered_st (s := s) (i := i) e rest
  have undrained : (s.st i).session.state ≠ .draining := by rcases state with h | h <;> rw [h] <;> nofun
  have empty : (((s.exiting i).upd i (headDelivered s.idleFull e rest)).st i).queue = [] := by rw [here]; exact last
  have moved : holdWhenEmpty false i ((s.exiting i).upd i (headDelivered s.idleFull e rest)) =
      changeHold false i h ((s.exiting i).upd i (headDelivered s.idleFull e rest)) := by
    rcases moves with ⟨hold, rfl⟩ | ⟨hold, rfl, -⟩
    · exact holdWhenEmpty_requested empty (by rw [here]; exact hold)
    · exact holdWhenEmpty_releasing empty (by rw [here]; exact hold)
  have follows := afterRemoval_holds (g := isCharged e) (by rw [here]; exact undrained) (by rw [here]; exact idle) moved (by
    rw [here]
    rcases moves with ⟨-, rfl⟩ | ⟨-, -, clear⟩
    · exact .inl nofun
    · exact .inr (.inl clear))
  rw [exit_follows inFrame slot spelt calm queue keeps latch follows (by rw [st_upd_self, here]; rfl) (by rw [st_upd_self, here]; rfl),
    State.exiting, upd_upd, upd_upd]
  rfl

/-- An exit that delivers a sheet of a DRAINING session with more CHARGED ones behind it. -/
theorem exit_drains (latch : (s.st i).line.latch = .idle) (idle : (s.st i).request = .idle) (hold : (s.st i).hold = .none)
    (state : (s.st i).session.state = .draining) (more : ∃ f ∈ rest, f.kind = .charged) :
    exec (.upstreamHalf i (halfOf c 0 1 0 0 0)) s = .next (s.passSlot.upd i fun y => { y with
      line := calmLine (s.st i), idleTimer := none, queue := rest, meters := deliveredOn e (s.st i).meters }) := by
  have here := delivered_st (s := s) (i := i) e rest
  have follows := afterRemoval_plain (b := false) (c := isCharged e) (s := (s.exiting i).upd i (headDelivered s.idleFull e rest))
    (by rw [here]; exact idle) (.inr (.inl (by rw [here]; exact hold))) (fun _ _ => by rw [here]; exact more)
  rw [exit_follows inFrame slot spelt calm queue keeps latch follows (by rw [here]; rfl) (by rw [here]; rfl),
    State.exiting, upd_upd]
  refine congrArg Host.Outcome.next (upd_congr (s := s.passSlot) ?_)
  have notOpen : ({ exiting s.idleFull (s.st i) with queue := rest, meters := deliveredOn e (s.st i).meters } : Station).session.state ≠
      .opened := by
    show (s.st i).session.state ≠ _
    rw [state]
    nofun
  rw [st_passSlot, ← reportedLine_calm (calm_of_calmBut calm latch)]
  exact judged_notOpen notOpen

/-- An exit that delivers the last CHARGED sheet of a DRAINING session. -/
theorem exit_closes {r : CloseReason} {payer : Payer} (latch : (s.st i).line.latch = .idle) (idle : (s.st i).request = .idle)
    (hold : (s.st i).hold = .none) (state : (s.st i).session.state = .draining) (reason : (s.st i).session.closeReason = some r)
    (paid : (s.st i).session.payer = some payer) (charged : e.kind = .charged) (none_ : ∀ f ∈ rest, f.kind ≠ .charged) :
    let v := (s.exiting i).upd i (headDelivered s.idleFull e rest)
    exitOne i (s.exiting i) = closeStep i r .closed v ∧
    exec (.upstreamHalf i (halfOf c 0 1 0 0 0)) s = .next (closeStep i r .closed v) ∧
    ∃ (cent : ClosingCent) (spent : Nat), ClosedWith i r v (closeStep i r .closed v) payer cent spent ∧
      FinalSpent s (s.st i).session cent spent ∧
      (closeStep i r .closed v).journal.records = s.journal.records ++ [closeRecord s i (s.st i).session payer r cent spent] := by
  intro v
  have here : v.st i = _ := delivered_st (s := s) (i := i) e rest
  have isIt : isCharged e = true := beq_iff_eq.2 charged
  have follows : afterRemoval false (isCharged e) i v = closeStep i r .closed v := by
    rw [isIt]
    exact afterRemoval_closes (by rw [here]; exact state) (by rw [here]; exact reason) (by rw [here]; exact none_)
      (by rw [here]; exact idle) (by rw [here]; exact hold)
  have st := closeStep_st i r .closed v
  rw [closedAt_rest, here] at st
  have closed := closeStep_closedWith (i := i) (r := r) (u := v) (payer := payer) (by rw [here]; exact paid)
  have session : (v.st i).session = (s.st i).session := by rw [here]; rfl
  refine ⟨(exitOne_cons (by rw [exiting_st]; exact queue)).trans follows,
    exit_follows inFrame slot spelt calm queue keeps latch follows (by rw [st]; rfl) (by rw [st]; rfl), _, _, closed, ?_, ?_⟩
  · exact session ▸ closed.final
  · refine closed.records.trans ?_
    rw [session]
    rfl

end

/-- The third part of O54: one exit at a station calm but for its pick. -/
theorem exitFollowed (i : StationId) (s : State) (c : Code) (e : InFlight) (rest : List InFlight) (inFrame : s.inFrame i = true)
    (slot : s.slot = i) (spelt : c ≠ .jam 0) (calm : CalmBut c (s.st i)) (queue : (s.st i).queue = e :: rest)
    (keeps : HeadKeeps (s.st i) rest) :
    let x := s.st i
    let exit := fun pick : Nat => halfOf c pick 1 0 0 0
    (x.line.latch = .idle → x.request = .idle → rest = [] → x.session.state = .none ∨ x.session.state = .opened →
       (x.hold = .requested → exec (.upstreamHalf i (exit 0)) s = .next (s.passSlot.upd i fun y => { y with
         line := calmLine x, idleTimer := none, queue := [], hold := .held, meters := deliveredOn e x.meters })) ∧
       (x.hold = .releasing → x.recovery.stoppage = none → ∃ idle : Option Nat,
         exec (.upstreamHalf i (exit 0)) s = .next (s.passSlot.upd i fun y => { y with
           line := calmLine x, idleTimer := idle, queue := [], hold := .none, meters := deliveredOn e x.meters }))) ∧
    (∀ r payer, x.line.latch = .idle → x.request = .idle → x.hold = .none → x.session.state = .draining →
       x.session.closeReason = some r → x.session.payer = some payer → e.kind = .charged →
       ((∃ f ∈ rest, f.kind = .charged) →
         exec (.upstreamHalf i (exit 0)) s = .next (s.passSlot.upd i fun y => { y with
           line := calmLine x, idleTimer := none, queue := rest, meters := deliveredOn e x.meters })) ∧
       ((∀ f ∈ rest, f.kind ≠ .charged) → ∃ (t : State) (cent : ClosingCent) (spent : Nat),
         exec (.upstreamHalf i (exit 0)) s = .next t ∧ FinalSpent s x.session cent spent ∧
         (t.st i).session = Session.ended x.session.number ∧ (t.st i).queue = rest ∧
         (t.st i).meters = { deliveredOn e x.meters with
           sessionsClosed := (x.meters.sessionsClosed + 1) % 1000000000 } ∧
         (t.st i).line = { calmLine x with down := [.closed spent cent] } ∧
         t.journal.records = s.journal.records ++ [closeRecord s i x.session payer r cent spent])) := by
  intro x exit
  refine ⟨fun latch idle last state => ⟨fun hold => ?requested, fun hold clear => ⟨(holdSet s.idleFull .none (headDelivered s.idleFull e rest
    (exiting s.idleFull x))).idleTimer, ?releasing⟩⟩, fun r payer latch idle hold state reason paid charged =>
      ⟨fun more => exit_drains inFrame slot spelt calm queue keeps latch idle hold state more, fun none_ => ?closes⟩⟩
  case requested =>
    subst last
    rw [exit_moves_hold inFrame slot spelt calm queue keeps latch idle rfl state (.inl ⟨hold, rfl⟩)]
    refine congrArg Host.Outcome.next (upd_congr (s := s.passSlot) ?_)
    rw [st_passSlot, holdSet, judged_ineligible (by rw [← Bool.not_eq_true, idleEligible_iff]; exact fun h => nomatch h.2.1),
      ← reportedLine_calm (calm_of_calmBut calm latch)]
    rfl
  case releasing =>
    subst last
    rw [exit_moves_hold inFrame slot spelt calm queue keeps latch idle rfl state (.inr ⟨hold, rfl, clear⟩)]
    refine congrArg Host.Outcome.next (upd_congr (s := s.passSlot) ?_)
    rw [← reportedLine_calm (calm_of_calmBut calm latch)]
    rfl
  case closes =>
    obtain ⟨-, taken, cent, spent, closed, final, records⟩ :=
      exit_closes inFrame slot spelt calm queue keeps latch idle hold state reason paid charged none_
    have calm_ := reportedLine_calm (calm_of_calmBut calm latch)
    have here := delivered_st (s := s) (i := i) e rest
    have line : (((s.exiting i).upd i (headDelivered s.idleFull e rest)).st i).line = calmLine x := by rw [here, ← calm_]; rfl
    have present : (calmLine x).present = true := calm.1.1
    have empty : (calmLine x).down = [] := calm.1.2.2.2.1
    refine ⟨_, cent, spent, taken, final, ?_, ?_, ?_, ?_, records⟩
    all_goals rw [closed.station, closedAt_rest]
    · rw [here]; rfl
    · rw [here]; rfl
    · rw [here, ← deliveredOn_closed e x.meters]; rfl
    · dsimp only
      rw [closedAt_down_room (by rw [line]; exact present) (by rw [line, empty]; exact Nat.zero_lt_succ 3), line, empty]
      rfl

end

end Sys2Proof.Machine
end

section
/-!
PROOFS. Exits of a count (section 4.4), and the statement on sheets settled.
-/

namespace Sys2Proof.Machine

section
variable {i : StationId} {s : State} {e f : InFlight} {rest : List InFlight} {x : Station} {c : Code} {full k : Nat}

/-! ## Exits one after another -/

/-- The idle timer has its full value exactly while it is eligible. -/
def TimerFull (full : Nat) (x : Station) : Prop := x.idleTimer = if idleEligible x then some full else none

theorem timerFull_judged (timer : x.idleTimer = none ∨ x.idleTimer = some full) : TimerFull full (judged full x) := by
  have same : idleEligible (judged full x) = idleEligible x := rfl
  rw [TimerFull, same]
  show idleAfter full x = _
  unfold idleAfter
  rcases timer with t | t <;> rw [t] <;> rfl

theorem timerFull_cases (timer : TimerFull full x) : x.idleTimer = none ∨ x.idleTimer = some full := by
  rw [timer]
  split
  · exact .inr rfl
  · exact .inl rfl

/-- A station whose exits close no session, move no hold, and make no overdue entry the head. -/
structure ExitsPlain (k : Nat) (x : Station) : Prop where
  idle : x.request = .idle
  stays : x.hold = .none ∨ x.hold = .held ∨ k < x.queue.length
  undrained : x.session.state = .draining → ∃ f ∈ x.queue.drop k, f.kind = .charged
  young : ∀ f ∈ x.queue.drop 1, x.recovery.stoppage ≠ none ∨ f.age < f.limit * 2000

/-- A station with one exit taken, and its idle timer. -/
def exitTaken (full : Nat) (x : Station) : Station :=
  match x.queue with
  | e :: rest => headDelivered full e rest x
  | [] => exitUncharged x

theorem exitTaken_once (full : Nat) (x : Station) : exitTaken full x = { exitedOnce x with idleTimer := (exitTaken full x).idleTimer } := by
  obtain ⟨line, session, idleTimer, request, queue, meters, hold, recovery, auth, cond⟩ := x
  cases queue <;> rfl

theorem exitTaken_keeps (full : Nat) (x : Station) : (exitTaken full x).request = x.request ∧ (exitTaken full x).hold = x.hold ∧
    (exitTaken full x).recovery = x.recovery ∧ (exitTaken full x).session.state = x.session.state ∧
    (exitTaken full x).queue = x.queue.drop 1 ∧ (exitTaken full x).line = x.line := by
  unfold exitTaken
  cases queue : x.queue with
  | nil =>
    refine ⟨rfl, rfl, rfl, ?_, queue, rfl⟩
    show (if _ then _ else _ : Session).state = _
    split <;> rfl
  | cons e rest => exact ⟨rfl, rfl, rfl, rfl, rfl, rfl⟩

theorem ExitsPlain.next (plain : ExitsPlain (k + 1) x) (full : Nat) : ExitsPlain k (exitTaken full x) := by
  obtain ⟨request, hold, recovery, state, queue, -⟩ := exitTaken_keeps full x
  obtain ⟨idle, stays, undrained, young⟩ := plain
  refine ⟨request.trans idle, ?_, ?_, ?_⟩
  · rw [hold, queue, List.length_drop]
    rcases stays with h | h | h
    · exact .inl h
    · exact .inr (.inl h)
    · exact .inr (.inr (by omega))
  · rw [state, queue, List.drop_drop, Nat.add_comm]
    exact undrained
  · rw [queue, recovery]
    exact fun f member => young f (List.mem_of_mem_drop member)

theorem exitTaken_timer (timer : TimerFull full x) : TimerFull full (exitTaken full x) := by
  unfold exitTaken
  cases queue : x.queue with
  | nil =>
    have same : idleEligible (exitUncharged x) = idleEligible x := by
      unfold exitUncharged idleEligible
      dsimp only
      split <;> rfl
    show x.idleTimer = _
    rw [same]
    exact timer
  | cons e rest => exact timerFull_judged (x := { x with queue := rest, meters := deliveredOn e x.meters }) (timerFull_cases (x := x) timer)

/-- One exit of a plain run, with the head judged after it. -/
theorem exit_step {b : Bool} (plain : ExitsPlain (k + 1) (s.st i)) :
    judgeHeads b i 8 (exitOne i s) = s.upd i (exitTaken s.idleFull) := by
  obtain ⟨idle, stays, undrained, young⟩ := plain
  have taken : exitOne i s = s.upd i (exitTaken s.idleFull) := by
    cases queue : (s.st i).queue with
    | nil =>
      rw [exitOne_nil queue]
      refine upd_congr ?_
      rw [exitTaken, queue]
    | cons e rest =>
      have whole : s.upd i (headDelivered s.idleFull e rest) = s.upd i (exitTaken s.idleFull) := upd_congr (by rw [exitTaken, queue])
      rw [exitOne_cons queue, ← whole]
      refine afterRemoval_plain ?_ ?_ fun _ draining => ?_ <;> rw [st_upd_self] at *
      · exact idle
      · rcases stays with h | h | h
        · exact .inr (.inl h)
        · exact .inr (.inr h)
        · rw [queue, List.length_cons] at h
          refine .inl fun none => ?_
          have none' : rest = [] := none
          rw [none'] at h
          simp at h
      · obtain ⟨f, member, charged⟩ := undrained draining
        rw [queue, List.drop_succ_cons] at member
        exact ⟨f, List.mem_of_mem_drop member, charged⟩
  obtain ⟨-, -, recovery, -, queue, -⟩ := exitTaken_keeps s.idleFull (s.st i)
  rw [taken, judgeHeads_keeps b 8]
  rw [st_upd_self, queue]
  intro f head
  rw [recovery]
  exact young f (List.mem_of_mem_head? head)

/-- Exits of a count, each taken whole. -/
def exitsTaken (full : Nat) : Nat → Station → Station
  | 0, x => x
  | n + 1, x => exitsTaken full n (exitTaken full x)

theorem exits_plain (k : Nat) {s : State} (plain : ExitsPlain k (s.st i)) : exits i k s = s.upd i (exitsTaken s.idleFull k) := by
  induction k generalizing s with
  | zero => exact (upd_id s i rfl).symm
  | succ n ih =>
    have step := exit_step (b := n != 0) plain
    have next : ExitsPlain n ((s.upd i (exitTaken s.idleFull)).st i) := by rw [st_upd_self]; exact plain.next _
    show exits i n (judgeHeads (n != 0) i 8 (exitOne i s)) = _
    rw [step, ih next, upd_upd]
    rfl

theorem exitedTimes_timer (k : Nat) (t : Option Nat) (x : Station) :
    exitedTimes k { x with idleTimer := t } = { exitedTimes k x with idleTimer := t } := by
  induction k generalizing x with
  | zero => rfl
  | succ n ih =>
    have once : exitedOnce { x with idleTimer := t } = { exitedOnce x with idleTimer := t } := by
      unfold exitedOnce
      cases x.queue <;> rfl
    rw [exitedTimes, exitedTimes, once, ih]

theorem exitedTimes_line (k : Nat) (l : StationLine) (x : Station) :
    exitedTimes k { x with line := l } = { exitedTimes k x with line := l } := by
  induction k generalizing x with
  | zero => rfl
  | succ n ih =>
    have once : exitedOnce { x with line := l } = { exitedOnce x with line := l } := by
      unfold exitedOnce
      cases x.queue <;> rfl
    rw [exitedTimes, exitedTimes, once, ih]

theorem exitsTaken_times (full k : Nat) (x : Station) : ∃ t, exitsTaken full k x = { exitedTimes k x with idleTimer := t } := by
  induction k generalizing x with
  | zero => exact ⟨x.idleTimer, rfl⟩
  | succ n ih =>
    obtain ⟨t, e⟩ := ih (exitTaken full x)
    refine ⟨t, e.trans ?_⟩
    rw [exitTaken_once full x, exitedTimes_timer]
    rfl

theorem exitsTaken_timer (k : Nat) (timer : TimerFull full x) : TimerFull full (exitsTaken full k x) := by
  induction k generalizing x with
  | zero => exact timer
  | succ n ih => exact ih (exitTaken_timer timer)

theorem exitsTaken_keeps (full k : Nat) (x : Station) : (exitsTaken full k x).request = x.request ∧
    (exitsTaken full k x).hold = x.hold ∧ (exitsTaken full k x).session.state = x.session.state ∧
    (exitsTaken full k x).line = x.line := by
  induction k generalizing x with
  | zero => exact ⟨rfl, rfl, rfl, rfl⟩
  | succ n ih =>
    obtain ⟨request, hold, -, state, -, line⟩ := exitTaken_keeps full x
    obtain ⟨request', hold', state', line'⟩ := ih (exitTaken full x)
    exact ⟨request'.trans request, hold'.trans hold, state'.trans state, line'.trans line⟩

theorem timerFull_exiting (confirmed : (reportedLine x).confirmed = x.line.confirmed) (right : x.idleTimer.isSome = idleEligible x) :
    TimerFull full (exiting full x) := by
  have same : idleEligible (exiting full x) = idleEligible x := by
    unfold idleEligible
    show (_ && ((reportedLine x).confirmed != _)) = _
    rw [confirmed]
    rfl
  rw [TimerFull, same, ← right]
  show x.idleTimer.map _ = _
  cases x.idleTimer <;> rfl

/-- Exits of a count at a calm station, that close no session and move no hold. -/
theorem exitsCounted (inFrame : s.inFrame i = true) (slot : s.slot = i) (few : k = 1 ∨ k = 2 ∨ k = 3) (spelt : c ≠ .jam 0)
    (calm : Calm (s.st i)) (confirmed : (s.st i).line.confirmed = some c) (idle : (s.st i).request = .idle)
    (stays : (s.st i).hold = .none ∨ (s.st i).hold = .held ∨ k < (s.st i).queue.length)
    (undrained : (s.st i).session.state = .draining → ∃ f ∈ (s.st i).queue.drop k, f.kind = .charged)
    (young : ∀ f ∈ (s.st i).queue.drop 1, (s.st i).recovery.stoppage ≠ none ∨ f.age < f.limit * 2000) :
    let x := s.st i
    let y := exitedTimes k x
    ∃ idle : Option Nat,
      exec (.upstreamHalf i (halfOf c 0 k 0 0 0)) s =
        .next (s.passSlot.upd i fun _ => { y with line := calmLine x, idleTimer := idle }) ∧
      (x.idleTimer.isSome = idleEligible x → idle =
        if x.session.state = .opened ∧ x.hold = .none ∧ y.queue = [] ∧ c ≠ .paperOut then
          some (s.host.timers.idle * 2000)
        else none) := by
  intro x y
  have line : reportedLine x = calmLine x := reportedLine_calm calm
  have plain : ExitsPlain k ((s.exiting i).st i) := by
    rw [exiting_st]
    exact ⟨idle, stays, undrained, young⟩
  obtain ⟨t, taken⟩ := exitsTaken_times s.idleFull k (exiting s.idleFull x)
  have times : exitsTaken s.idleFull k (exiting s.idleFull x) = { y with line := calmLine x, idleTimer := t } := by
    have start : exiting s.idleFull x = { ({ x with line := calmLine x } : Station) with
        idleTimer := (exiting s.idleFull x).idleTimer } := by rw [← line]; rfl
    rw [taken]
    conv_lhs => rw [start]
    rw [exitedTimes_timer, exitedTimes_line]
  refine ⟨t, ?_, fun right => ?_⟩
  · rw [slot_exits_idle inFrame slot spelt (calmBut_of_calm calm confirmed) calm.2.1 (by omega) (by omega), exits_plain k plain,
      State.exiting, upd_upd]
    exact congrArg Host.Outcome.next (upd_congr (s := s.passSlot) times)
  · have full := exitsTaken_timer k (timerFull_exiting (full := s.idleFull) (x := x) (by rw [line]; rfl) right)
    obtain ⟨request, hold, state, line_⟩ := exitsTaken_keeps s.idleFull k (exiting s.idleFull x)
    have timer : t = (exitsTaken s.idleFull k (exiting s.idleFull x)).idleTimer := by rw [times]
    rw [timer, full]
    refine if_congr ?_ rfl rfl
    rw [idleEligible_iff, request, hold, state, line_, times]
    show x.session.state = _ ∧ x.hold = _ ∧ y.queue = [] ∧ x.request = _ ∧ (reportedLine x).confirmed ≠ _ ↔ _
    rw [line]
    show x.session.state = _ ∧ x.hold = _ ∧ y.queue = [] ∧ x.request = _ ∧ x.line.confirmed ≠ _ ↔ _
    rw [show x.line.confirmed = some c from confirmed]
    simp [show x.request = .idle from idle]

/-! ## Exits after a close -/

theorem exitedOnce_empty (empty : x.queue = []) (ended : x.session.state = .none) : exitedOnce x = { x with
    meters := { x.meters with unchargedExits := (x.meters.unchargedExits + 1) % 1000000000 }
    cond := oneAnomaly .unchargedExit x.cond } := by
  unfold exitedOnce
  rw [empty]
  simp only [if_pos ended]

/-- Exits of an emptied queue without a session. -/
theorem exitedTimes_empty (n : Nat) (empty : x.queue = []) (ended : x.session.state = .none) :
    (exitedTimes (n + 1) x).session = x.session ∧ (exitedTimes (n + 1) x).queue = [] ∧
    (exitedTimes (n + 1) x).meters = { x.meters with unchargedExits := (x.meters.unchargedExits + (n + 1)) % 1000000000 } ∧
    (exitedTimes (n + 1) x).cond.anomalies = min 255 (x.cond.anomalies + (n + 1)) ∧
    (exitedTimes (n + 1) x).cond.latestAnomaly = some .unchargedExit := by
  induction n generalizing x with
  | zero =>
    rw [exitedTimes, exitedOnce_empty empty ended]
    exact ⟨rfl, empty, rfl, rfl, rfl⟩
  | succ n ih =>
    have once := exitedOnce_empty empty ended
    obtain ⟨session, queue, meters, anomalies, latest⟩ :=
      ih (x := exitedOnce x) (by rw [once]; exact empty) (by rw [once]; exact ended)
    refine ⟨session.trans (by rw [once]), queue, meters.trans ?_, anomalies.trans ?_, latest⟩
    · rw [once]
      have sum : ((x.meters.unchargedExits + 1) % 1000000000 + (n + 1)) % 1000000000 =
          (x.meters.unchargedExits + (n + 1 + 1)) % 1000000000 := by omega
      simp only [sum]
    · rw [once]
      show min 255 (min 255 (x.cond.anomalies + 1) + (n + 1)) = _
      omega

theorem deliveredOn_uncharged (e : InFlight) (m : Meters) : (deliveredOn e m).unchargedExits = m.unchargedExits := by
  unfold deliveredOn
  cases e.kind <;> rfl

/-- Exits of a count, the first of which closes a DRAINING session. -/
theorem exitsClose {r : CloseReason} {payer : Payer} (inFrame : s.inFrame i = true) (slot : s.slot = i) (few : k = 1 ∨ k = 2 ∨ k = 3)
    (spelt : c ≠ .jam 0) (calm : Calm (s.st i)) (confirmed : (s.st i).line.confirmed = some c) (idle : (s.st i).request = .idle)
    (queue : (s.st i).queue = [e]) (charged : e.kind = .charged) (state : (s.st i).session.state = .draining)
    (reason : (s.st i).session.closeReason = some r) (paid : (s.st i).session.payer = some payer) (hold : (s.st i).hold = .none) :
    let x := s.st i
    ∃ (t : State) (cent : ClosingCent) (spent : Nat),
      exec (.upstreamHalf i (halfOf c 0 k 0 0 0)) s = .next t ∧ FinalSpent s x.session cent spent ∧
      t.journal.records = s.journal.records ++ [closeRecord s i x.session payer r cent spent] ∧
      (t.st i).session = Session.ended x.session.number ∧ (t.st i).queue = [] ∧
      (1 < k → (t.st i).meters = { deliveredOn e x.meters with
          sessionsClosed := (x.meters.sessionsClosed + 1) % 1000000000
          unchargedExits := (x.meters.unchargedExits + (k - 1)) % 1000000000 } ∧
        (t.st i).cond.anomalies = min 255 (x.cond.anomalies + (k - 1)) ∧
        (t.st i).cond.latestAnomaly = some .unchargedExit) := by
  intro x
  have calmBut := calmBut_of_calm calm confirmed
  obtain ⟨first, -, cent, spent, closed, final, records⟩ := exit_closes inFrame slot spelt calmBut queue
    (fun f head => nomatch head) calm.2.1 idle hold state reason paid charged (fun f member => nomatch member)
  have here := delivered_st (s := s) (i := i) e []
  generalize (s.exiting i).upd i (headDelivered s.idleFull e []) = v at *
  generalize closeStep i r .closed v = u at *
  have station := closed.station
  have line : (v.st i).line = calmLine x := by rw [here, ← reportedLine_calm calm]; rfl
  have present : (calmLine x).present = true := calm.1
  have empty : (calmLine x).down = [] := calm.2.2.2.1
  obtain ⟨anomalies, -⟩ := closedAt_anomalies_room (cancel := .closed) (spent := spent) (cent := cent) (x := v.st i)
    (by rw [line]; exact present) (by rw [line, empty]; exact Nat.zero_lt_succ 3)
  rw [← station] at anomalies
  have count : (u.st i).cond.anomalies = x.cond.anomalies := anomalies.trans (by rw [here]; rfl)
  rw [closedAt_rest, here] at station
  have session : (u.st i).session = Session.ended x.session.number := by rw [station]; rfl
  have left : (u.st i).queue = [] := by rw [station]; rfl
  have request : (u.st i).request = .idle := by rw [station]; exact idle
  have holds : (u.st i).hold = .none := by rw [station]; exact hold
  have meters : (u.st i).meters = { deliveredOn e x.meters with sessionsClosed := (x.meters.sessionsClosed + 1) % 1000000000 } := by
    rw [station, ← deliveredOn_closed e x.meters]
    rfl
  clear station anomalies
  obtain ⟨n, rfl⟩ : ∃ n, k = n + 1 := ⟨k - 1, by omega⟩
  have ended : (u.st i).session.state = .none := by rw [session]; rfl
  have plain : ExitsPlain n (u.st i) := ⟨request, .inl holds, fun drains => (by rw [ended] at drains; cases drains),
    fun f member => (by rw [left] at member; cases member)⟩
  have taken : exec (.upstreamHalf i (halfOf c 0 (n + 1) 0 0 0)) s = .next (u.upd i (exitsTaken u.idleFull n)) := by
    rw [slot_exits_idle inFrame slot spelt calmBut calm.2.1 (by omega) (by omega)]
    show Host.Outcome.next (exits i n (judgeHeads (n != 0) i 8 (exitOne i (s.exiting i)))) = _
    rw [first, judgeHeads_keeps _ _ (by rw [left]; exact fun f head => nomatch head), exits_plain n plain]
  obtain ⟨t, times⟩ := exitsTaken_times u.idleFull n (u.st i)
  refine ⟨_, cent, spent, taken, final, records, ?_⟩
  rw [st_upd_self, times]
  cases n with
  | zero => exact ⟨session, left, fun more => absurd more (by omega)⟩
  | succ n =>
    obtain ⟨session', queue', meters', anomalies', latest'⟩ := exitedTimes_empty n left ended
    refine ⟨session'.trans session, queue', fun _ => ⟨meters'.trans ?_, anomalies'.trans (by rw [count]; rfl), latest'⟩⟩
    rw [meters, ← deliveredOn_uncharged e x.meters]
    rfl

end

/-- Settles O54: a sheet leaves as overdue, by one exit, or by an exit count; its credit and what follows it. -/
theorem sheetsLeaveThePath : Obligations.SheetsLeaveThePath := by
  refine ⟨fun i s inFrame => ?overdue, fun i s c inFrame slot => ?open_, fun i s c e rest inFrame slot => ?follows,
    fun i s c k inFrame slot few => ?counted⟩
  case overdue =>
    intro x
    refine ⟨fun stays => exec_overdue_keeps inFrame ?_, fun e rest queue young => exec_overdue_keeps inFrame ?_,
      fun e rest queue clear aged keeps session hold idle room =>
        overdue_takes inFrame queue clear aged keeps session hold idle room,
      fun e rest r payer queue clear aged keeps state reason paid charged none_ hold idle room =>
        overdue_closes inFrame queue clear aged keeps state reason paid charged none_ hold idle room,
      fun e rest n a queue clear aged keeps state hold idle present full charged payer found number =>
        overdue_full inFrame queue clear aged keeps state hold idle present full charged payer found number⟩
    · intro f head
      rcases stays with stopped | empty
      · exact .inl stopped
      · rw [show (s.st i).queue = _ from empty] at head
        cases head
    · intro f head
      rw [show (s.st i).queue = _ from queue] at head
      cases head
      exact .inr young
  case open_ =>
    intro x exit spelt calm confirmed state hold idle
    exact exitAtOpen i s c inFrame slot spelt calm confirmed state hold idle
  case follows =>
    intro x exit spelt calm queue keeps
    obtain ⟨moves, drains⟩ := exitFollowed i s c e rest inFrame slot spelt calm queue keeps
    exact ⟨fun n p cause left w waits latch sides room transit =>
      ⟨fun hold state => exit_grants_service inFrame slot spelt calm queue keeps waits latch sides room transit hold state,
        fun t k base hold state payer tariff priced within covered =>
          exit_grants_standIn inFrame slot spelt calm queue keeps waits latch sides room transit hold state payer tariff priced within
            covered⟩, moves, drains⟩
  case counted =>
    intro x spelt calm confirmed idle
    exact ⟨fun stays undrained young => exitsCounted inFrame slot few spelt calm confirmed idle stays undrained young,
      fun e r payer queue charged state reason paid hold =>
        exitsClose inFrame slot few spelt calm confirmed idle queue charged state reason paid hold⟩

end Sys2Proof.Machine
end

section
/-!
PROOFS. The removal series at its station (section 4.6): what it leaves, and what its credits add up to.
-/

namespace Sys2Proof.Machine

section
variable {i : StationId} {s t u : State} {e : InFlight} {rest q : List InFlight} {x y z : Station} {n : Nat} {a : Account}

/-! ## What a removal leaves of its station -/

/-- Entries have been taken back at a station: its queue, the written off meter, the amounts of its session, its messages, its idle
timer and the anomalies may have changed. -/
structure Removed (x y : Station) : Prop where
  line : y.line = { x.line with down := y.line.down }
  session : y.session = { x.session with
    fineTotal := y.session.fineTotal, spent := y.session.spent, impressions := y.session.impressions
    creditedImpressions := y.session.creditedImpressions, creditedAmount := y.session.creditedAmount
    unreturnedCredit := y.session.unreturnedCredit }
  request : y.request = x.request
  hold : y.hold = x.hold
  recovery : y.recovery = x.recovery
  auth : y.auth = x.auth
  meters : y.meters = { x.meters with writtenOff := y.meters.writtenOff }
  cond : y.cond = { x.cond with anomalies := y.cond.anomalies, latestAnomaly := y.cond.latestAnomaly }

theorem Removed.refl (x : Station) : Removed x x := ⟨rfl, rfl, rfl, rfl, rfl, rfl, rfl, rfl⟩

theorem Removed.trans (h : Removed x y) (k : Removed y z) : Removed x z where
  line := by rw [k.line, h.line]
  session := by rw [k.session, h.session]
  request := k.request.trans h.request
  hold := k.hold.trans h.hold
  recovery := k.recovery.trans h.recovery
  auth := k.auth.trans h.auth
  meters := by rw [k.meters, h.meters]
  cond := by rw [k.cond, h.cond]

theorem Removed.state (h : Removed x y) : y.session.state = x.session.state := by rw [h.session]

theorem Removed.payer (h : Removed x y) : y.session.payer = x.session.payer := by rw [h.session]

theorem removed_takenOut (full : Nat) (e : InFlight) (rest : List InFlight) (x : Station) : Removed x (takenOut full e rest x) :=
  ⟨rfl, rfl, rfl, rfl, rfl, rfl, rfl, rfl⟩

theorem removed_offered (m : DownMsg) (x : Station) : Removed x (offered m x) := by
  have cond : (offered m x).cond = { x.cond with
      anomalies := (offered m x).cond.anomalies, latestAnomaly := (offered m x).cond.latestAnomaly } := by
    rcases offered_cond m x with c | c
    · rw [c]
    · rw [c]
      rfl
  refine ⟨?_, ?_, ?_, ?_, ?_, ?_, ?_, cond⟩
  · rw [offered_rest]
  all_goals simp

/-! ## One entry taken back -/

/-- Removals and credits change the stations and the account records alone. -/
def CreditsOnly (s t : State) : Prop :=
  t = { s with stations := t.stations, accounts := { s.accounts with accounts := t.accounts.accounts } }

theorem CreditsOnly.refl (s : State) : CreditsOnly s s := rfl

theorem CreditsOnly.trans (h : CreditsOnly s t) (k : CreditsOnly t u) : CreditsOnly s u := by
  unfold CreditsOnly at *
  rw [k, h]

theorem CreditsOnly.upd (s : State) (i : StationId) (f : Station → Station) : CreditsOnly s (s.upd i f) := rfl

theorem creditsOnly_world (x : Session) (e : InFlight) (s : State) : CreditsOnly s (creditWorld x e s) := by
  have ranges := creditWorld_ranges x e s
  have world := creditWorld_stations x e s
  generalize creditWorld x e s = w at *
  have accounts : w.accounts = { s.accounts with accounts := w.accounts.accounts } := by
    show _ = AccountUnit.mk s.accounts.ranges _
    rw [← ranges]
  unfold CreditsOnly
  rw [world]
  exact congrArg (fun u => ({ s with accounts := u } : State)) accounts

theorem takeBack_noSession (charged : e.kind = .charged) (ended : (s.st i).session.state = .none) : takeBack i e rest s =
    s.upd i fun x => offered (.showing (s.st i).session.spent (remainingFor (s.st i).session s)) (takenOut s.idleFull e rest x) := by
  have out : ((s.upd i (takenOut s.idleFull e rest)).st i).session = (s.st i).session := by rw [st_upd_self]; rfl
  have idle : creditSheet i e (s.upd i (takenOut s.idleFull e rest)) = s.upd i (takenOut s.idleFull e rest) := by
    unfold creditSheet
    dsimp only
    exact if_neg (by rw [out, sessionLive_iff]; exact not_not.2 ended)
  unfold takeBack
  dsimp only
  rw [takenOut_eq, if_pos (by rw [isCharged, charged]; rfl), idle, offerShow_eq, upd_upd]
  exact upd_congr rfl

/-- One entry taken back: what it leaves, and its impressions written off. -/
theorem takeBack_removed (i : StationId) (e : InFlight) (rest : List InFlight) (s : State) :
    Removed (s.st i) ((takeBack i e rest s).st i) ∧ ((takeBack i e rest s).st i).queue = rest ∧
      ((takeBack i e rest s).st i).meters.writtenOff = ((s.st i).meters.writtenOff + e.impressions) % 1000000000 ∧
      CreditsOnly s (takeBack i e rest s) := by
  have out := removed_takenOut s.idleFull e rest (s.st i)
  cases kind : e.kind with
  | service =>
    rw [takeBack_service kind, st_upd_self]
    exact ⟨out, rfl, rfl, .upd s i _⟩
  | charged =>
    by_cases ended : (s.st i).session.state = .none
    · rw [takeBack_noSession kind ended, st_upd_self]
      refine ⟨out.trans (removed_offered _ _), ?_, ?_, .upd s i _⟩
      · rw [offered_queue]; rfl
      · rw [offered_meters]; rfl
    · have here : (creditWorld (s.st i).session e s).st i = s.st i := by rw [creditWorld_stations]; rfl
      rw [takeBack_charged kind ended, st_upd_self, here]
      refine ⟨?_, ?_, ?_, (creditsOnly_world _ e s).trans (.upd _ i _)⟩
      · refine (⟨rfl, rfl, rfl, rfl, rfl, rfl, rfl, rfl⟩ : Removed _ { takenOut s.idleFull e rest (s.st i) with
          session := creditedSession (s.st i).session e (creditLost s (s.st i).session e) }).trans (removed_offered _ _)
      · rw [takenBack_rest]; rfl
      · rw [takenBack_rest]; rfl

/-- The session after one entry taken back. -/
theorem takeBack_session (live : (s.st i).session.state ≠ .none) : ((takeBack i e rest s).st i).session =
    if e.kind = .charged then creditedSession (s.st i).session e (creditLost s (s.st i).session e) else (s.st i).session := by
  cases kind : e.kind with
  | service =>
    rw [takeBack_service kind, st_upd_self, if_neg nofun]
    rfl
  | charged =>
    have here : (creditWorld (s.st i).session e s).st i = s.st i := by rw [creditWorld_stations]; rfl
    rw [takeBack_charged kind live, st_upd_self, here, if_pos rfl, takenBack_rest]

/-- The accounts after one entry taken back. -/
theorem takeBack_accounts (live : (s.st i).session.state ≠ .none) : (takeBack i e rest s).accounts =
    if e.kind = .charged then (creditWorld (s.st i).session e s).accounts else s.accounts := by
  cases kind : e.kind with
  | service => rw [takeBack_service kind, if_neg nofun, upd_accounts]
  | charged => rw [takeBack_charged kind live, if_pos rfl, upd_accounts]

/-! ## All entries taken back -/

theorem removeAll_removed (q : List InFlight) (s : State) (queue : (s.st i).queue = q) :
    Removed (s.st i) ((removeAll i q s).st i) ∧ ((removeAll i q s).st i).queue = [] ∧
      ((removeAll i q s).st i).meters.writtenOff % 1000000000 =
        ((s.st i).meters.writtenOff + (q.map (·.impressions)).sum) % 1000000000 ∧ CreditsOnly s (removeAll i q s) := by
  induction q generalizing s with
  | nil => exact ⟨.refl _, queue, rfl, .refl s⟩
  | cons e rest ih =>
    obtain ⟨removed, left, written, only⟩ := takeBack_removed i e rest s
    obtain ⟨removed', left', written', only'⟩ := ih (takeBack i e rest s) left
    refine ⟨removed.trans removed', left', ?_, only.trans only'⟩
    rw [removeAll, written', written, List.map_cons, List.sum_cons]
    omega

theorem chargedOf_cons (e : InFlight) (q : List InFlight) :
    chargedOf (e :: q) = if e.kind = .charged then e :: chargedOf q else chargedOf q := by
  cases kind : e.kind <;> simp [chargedOf, kind]

theorem chargedPrices_cons (e : InFlight) (q : List InFlight) :
    chargedPrices (e :: q) = if e.kind = .charged then e.price + chargedPrices q else chargedPrices q := by
  rw [chargedPrices, chargedOf_cons]
  split <;> rfl

theorem chargedImpressions_cons (e : InFlight) (q : List InFlight) :
    chargedImpressions (e :: q) = if e.kind = .charged then e.impressions + chargedImpressions q else chargedImpressions q := by
  rw [chargedImpressions, chargedOf_cons]
  split <;> rfl

/-- The amounts of a session after all entries of its queue have been taken back. -/
structure AmountsCredited (x y : Session) (q : List InFlight) : Prop where
  fineTotal : y.fineTotal = x.fineTotal - chargedPrices q
  impressions : y.impressions = x.impressions - chargedImpressions q
  spent : y.spent = if chargedOf q = [] then x.spent else (x.fineTotal - chargedPrices q) / 100
  creditedImpressions : x.creditedImpressions ≤ 16777215 →
    y.creditedImpressions = min 16777215 (x.creditedImpressions + chargedImpressions q)

theorem removeAll_credited_amounts (q : List InFlight) (s : State) (live : (s.st i).session.state ≠ .none) :
    AmountsCredited (s.st i).session ((removeAll i q s).st i).session q := by
  induction q generalizing s with
  | nil => exact ⟨rfl, rfl, rfl, fun top => (min_eq_right top).symm⟩
  | cons e rest ih =>
    have session := takeBack_session (e := e) (rest := rest) live
    have live' : ((takeBack i e rest s).st i).session.state ≠ .none := by
      rw [(takeBack_removed i e rest s).1.state]
      exact live
    obtain ⟨fineTotal, impressions, spent, credited⟩ := ih (takeBack i e rest s) live'
    have prices := chargedPrices_cons e rest
    have sheets := chargedImpressions_cons e rest
    have cons := chargedOf_cons e rest
    rw [session] at fineTotal impressions spent credited
    rw [removeAll]
    cases kind : e.kind with
    | service =>
      simp only [kind, reduceCtorEq, if_false] at *
      exact ⟨fineTotal.trans (by rw [prices]), impressions.trans (by rw [sheets]), spent.trans (by rw [cons, prices]),
        fun top => (credited top).trans (by rw [sheets])⟩
    | charged =>
      simp only [kind, if_true] at *
      refine ⟨fineTotal.trans ?_, impressions.trans ?_, spent.trans ?_, fun top => (credited ?_).trans ?_⟩
      · rw [prices]
        simp only [creditedSession]
        omega
      · rw [sheets]
        simp only [creditedSession]
        omega
      · rw [cons, prices, if_neg (List.cons_ne_nil _ _)]
        simp only [creditedSession, Nat.sub_sub]
        split
        · next none =>
          rw [chargedPrices, none]
          rfl
        · rfl
      · exact min_le_left _ _
      · rw [sheets]
        simp only [creditedSession]
        omega

end

end Sys2Proof.Machine
end

section
/-!
PROOFS. A removal series taken whole, and the end of a recovery (sections 4.6, 5.3 and 5.4).
-/

namespace Sys2Proof.Machine

section
variable {i : StationId} {s t u : State} {e : InFlight} {rest q : List InFlight} {x y z : Station} {r : Series} {full : Nat}
  {cause : Cause} {credited : Nat}

/-! ## A series with nothing between its credits -/

theorem creditNext_none (q : List InFlight) (s : State) (none : chargedOf q = []) : creditNext i q s = (false, removeAll i q s) := by
  induction q generalizing s with
  | nil => rfl
  | cons e rest ih =>
    rw [chargedOf_cons] at none
    cases kind : e.kind with
    | charged =>
      rw [kind, if_pos rfl] at none
      cases none
    | service =>
      rw [kind, if_neg nofun] at none
      have notCharged : isCharged e = false := by rw [isCharged, kind]; rfl
      rw [creditNext, notCharged]
      exact ih (takeBack i e rest s) none

/-- With nothing on the tape, or nothing to credit, a series is taken whole. -/
theorem workOff_series_whole (quiet : s.meanwhile = [] ∨ chargedOf (s.st r.station).queue = []) :
    workOff [.series r] s = endSeries r (removeAll r.station (s.st r.station).queue s) := by
  have turn : Work.inTurn ⟨[.series r], s⟩ = [.series r] := inTurn_one s rfl
  rcases quiet with tape | none
  · rw [workOff_quiet _ tape, turn]
    rfl
  · unfold workOff
    cases s.meanwhile.length with
    | zero =>
      rw [workOffWithin, turn]
      rfl
    | succ n =>
      have on : workToGap [.series r] s = ⟨[], endSeries r (removeAll r.station (s.st r.station).queue s)⟩ := by
        show seriesOn r [] s = _
        unfold seriesOn
        rw [creditNext_none _ s none]
        dsimp only
        rw [if_neg nofun]
        split <;> rfl
      rw [workOffWithin, turn, on]
      exact if_pos rfl

/-! ## The hold after the queue is empty (R159, R161) -/

/-- A station whose emptied queue has moved its hold on, within a recovery. -/
def holdMoved (full : Nat) (x : Station) : Station :=
  match x.hold with
  | .requested => holdSet full .held x
  | .releasing => holdSet full .none x
  | .none => x
  | .held => x

theorem holdWhenEmpty_recovering (empty : (s.st i).queue = []) (idle : (s.st i).request = .idle) :
    holdWhenEmpty true i s = s.upd i (holdMoved s.idleFull) := by
  have moved : ∀ h, changeHold true i h s = s.upd i (holdSet s.idleFull h) := fun h => by
    rw [changeHold_plain (.inr (.inr rfl)), reevaluate_idle (by rw [st_upd_self]; exact idle)]
  cases hold : (s.st i).hold with
  | none => rw [holdWhenEmpty_stays (.inr (.inl hold))]; exact (upd_id s i (by rw [holdMoved, hold])).symm
  | held => rw [holdWhenEmpty_stays (.inr (.inr hold))]; exact (upd_id s i (by rw [holdMoved, hold])).symm
  | requested =>
    rw [holdWhenEmpty_requested empty hold, moved]
    exact upd_congr (by rw [holdMoved, hold])
  | releasing =>
    rw [holdWhenEmpty_releasing empty hold, moved]
    exact upd_congr (by rw [holdMoved, hold])

theorem holdMoved_rest (full : Nat) (x : Station) : holdMoved full x = { x with
    hold := (match x.hold with | .none => .none | .requested => .held | .held => .held | .releasing => .none)
    idleTimer := (holdMoved full x).idleTimer } := by
  obtain ⟨line, session, idleTimer, request, queue, meters, hold, recovery, auth, cond⟩ := x
  cases hold <;> rfl

/-! ## What a close leaves of the path -/

/-- The path, the hold, the confirmed code and the written off meter stand; a stopped stall timer stays so. -/
structure PathKeeps (x y : Station) : Prop where
  queue : y.queue = x.queue
  request : y.request = x.request
  present : y.line.present = x.line.present
  confirmed : y.line.confirmed = x.line.confirmed
  stoppage : y.recovery.stoppage = x.recovery.stoppage
  stallTimer : x.recovery.stallTimer = none → y.recovery.stallTimer = none
  hold : y.hold = x.hold
  writtenOff : y.meters.writtenOff = x.meters.writtenOff

theorem PathKeeps.refl (x : Station) : PathKeeps x x := ⟨rfl, rfl, rfl, rfl, rfl, id, rfl, rfl⟩

theorem PathKeeps.trans (h : PathKeeps x y) (k : PathKeeps y z) : PathKeeps x z :=
  ⟨k.queue.trans h.queue, k.request.trans h.request, k.present.trans h.present, k.confirmed.trans h.confirmed,
    k.stoppage.trans h.stoppage, fun none => k.stallTimer (h.stallTimer none), k.hold.trans h.hold, k.writtenOff.trans h.writtenOff⟩

theorem closeStep_pathKeeps (i : StationId) (reason : CloseReason) (cancel : CancelCause) (s : State) :
    PathKeeps (s.st i) ((closeStep i reason cancel s).st i) := by
  rw [closeStep_st, closedAt_rest]
  exact ⟨rfl, rfl, rfl, rfl, rfl, fun _ => rfl, rfl, rfl⟩

/-- A drain check with no pick waiting closes the session, or does nothing. -/
theorem drainCheck_cases (idle : (s.st i).request = .idle) : drainCheck i s = s ∨
    ∃ r, (s.st i).session.state = .draining ∧ drainCheck i s = closeStep i r .closed s := by
  by_cases draining : (s.st i).session.state = .draining
  · by_cases charged : ∃ f ∈ (s.st i).queue, f.kind = .charged
    · exact .inl (drainCheck_charged charged)
    · rcases reason : (s.st i).session.closeReason with _ | r
      · left
        unfold drainCheck
        dsimp only
        rw [reason]
        split <;> rfl
      · exact .inr ⟨r, draining, drainCheck_closes draining reason (fun f member kind => charged ⟨f, member, kind⟩) idle⟩
  · exact .inl (drainCheck_notDraining draining)

theorem drainCheck_pathKeeps (idle : (s.st i).request = .idle) : PathKeeps (s.st i) ((drainCheck i s).st i) := by
  rcases drainCheck_cases idle with same | ⟨r, -, closes⟩
  · rw [same]
    exact .refl _
  · rw [closes]
    exact closeStep_pathKeeps i r .closed s

/-! ## The end of a recovery (R88, R89) -/

/-- A station whose session is OPEN again. -/
def reopened (full : Nat) (x : Station) : Station :=
  judged full { x with session := { x.session with state := .opened }, cond := { x.cond with session := true } }

theorem reopenSession_other (other : (s.st i).session.state ≠ .stalled) : reopenSession i s = s := if_neg other

theorem reopenSession_opens (state : (s.st i).session.state = .stalled) (pending : (s.st i).session.closePending = none)
    (idle : (s.st i).request = .idle) : reopenSession i s = s.upd i (reopened s.idleFull) := by
  have entered : setSession i (fun y => { y with state := .opened }) s = s.upd i (reopened s.idleFull) := by
    rw [setSession_eq, syncIdle_eq, upd_upd]
    rfl
  unfold reopenSession
  dsimp only
  rw [if_pos state, pending]
  dsimp only
  rw [entered, reevaluate_idle (by rw [st_upd_self]; exact idle)]

theorem reopenSession_closes {reason : CloseReason} (state : (s.st i).session.state = .stalled)
    (pending : (s.st i).session.closePending = some reason) : reopenSession i s = goDraining i reason s := by
  unfold reopenSession
  dsimp only
  rw [if_pos state, pending]

theorem reopenSession_pathKeeps (empty : (s.st i).queue = []) (idle : (s.st i).request = .idle) :
    PathKeeps (s.st i) ((reopenSession i s).st i) := by
  by_cases state : (s.st i).session.state = .stalled
  · rcases pending : (s.st i).session.closePending with _ | reason
    · rw [reopenSession_opens state pending idle, st_upd_self]
      exact ⟨rfl, rfl, rfl, rfl, rfl, id, rfl, rfl⟩
    · rw [reopenSession_closes state pending, goDraining_closes reason (by rw [empty]; exact fun f member => nomatch member)]
      have enters : PathKeeps (s.st i) ((s.upd i (drained s.idleFull reason)).st i) := by
        rw [st_upd_self, drained_idle idle]
        exact ⟨rfl, rfl, rfl, rfl, rfl, id, rfl, rfl⟩
      exact enters.trans (closeStep_pathKeeps i reason .closed _)
  · rw [reopenSession_other state]
    exact .refl _

/-- A station whose recovery is over: the condition is clear, and the report is raised. -/
def recoveryCleared (cause : Cause) (credited : Nat) (x : Station) : Station := { x with
  recovery := { x.recovery with stoppage := none }, cond := { x.cond with jam := some ⟨.recovery, cause, credited⟩ } }

/-- The same, with the code that is the recovery reported to the idle timer and to the STATION condition. -/
def recovered (full : Nat) (cause : Cause) (credited : Nat) (x : Station) : Station :=
  stationRaised (judged full (recoveryCleared cause credited x))

theorem endSeries_recovery (i : StationId) (cause : Cause) (credited : Nat) (s : State) :
    let t := reopenSession i (afterRemoval true (credited != 0) i s)
    endSeries ⟨i, .recovery cause credited⟩ s = t.upd i (recovered t.idleFull cause credited) := by
  intro t
  show codeReported i (recoveryEnds i cause credited s) = _
  unfold codeReported recoveryEnds
  dsimp only
  rw [raiseStation_eq, syncIdle_eq, raiseJam, State.updCond, State.updRecovery, upd_upd, upd_upd, upd_upd]
  rfl

/-- What follows the removals of a recovery, before the session is judged. -/
theorem afterRemoval_recovering {b : Bool} (empty : (s.st i).queue = []) (idle : (s.st i).request = .idle) :
    let v := if b then drainCheck i s else s
    afterRemoval true b i s = v.upd i (holdMoved v.idleFull) ∧ PathKeeps (s.st i) (v.st i) := by
  intro v
  have keeps : PathKeeps (s.st i) (v.st i) := by
    show PathKeeps _ ((if b then drainCheck i s else s).st i)
    split
    · exact drainCheck_pathKeeps idle
    · exact .refl _
  have idle' : (v.st i).request = .idle := keeps.request.trans idle
  refine ⟨?_, keeps⟩
  show reevaluate i (holdWhenEmpty true i v) = _
  rw [holdWhenEmpty_recovering (keeps.queue.trans empty) idle', reevaluate_idle]
  rw [st_upd_self, holdMoved_rest]
  exact idle'

theorem lineState_congr {l m : StationLine} (present : l.present = m.present) (confirmed : l.confirmed = m.confirmed) :
    lineState l = lineState m := by
  unfold lineState
  rw [present, confirmed]

/-- What the end of a recovery leaves of the path. -/
theorem recovery_path (empty : (s.st i).queue = []) (idle : (s.st i).request = .idle) (stopped : (s.st i).recovery.stallTimer = none)
    (t : State) (ends : endSeries ⟨i, .recovery cause credited⟩ s = t) :
    let x := s.st i
    let y := t.st i
    y.queue = [] ∧ y.line.confirmed = x.line.confirmed ∧ y.request = .idle ∧ y.recovery.stoppage = none ∧
      y.recovery.stallTimer = none ∧ y.cond.jam = some ⟨.recovery, cause, credited⟩ ∧
      y.cond.lineLatest = some (lineState x.line) ∧ y.meters.writtenOff = x.meters.writtenOff ∧
      y.hold = (match x.hold with | .none => .none | .requested => .held | .held => .held | .releasing => .none) := by
  intro x y
  obtain ⟨follows, path⟩ := afterRemoval_recovering (b := credited != 0) empty idle
  generalize (if (credited != 0) = true then drainCheck i s else s) = v at *
  have moved : ((v.upd i (holdMoved v.idleFull)).st i) = _ := (st_upd_self v i _).trans (holdMoved_rest ..)
  have form := endSeries_recovery i cause credited s
  dsimp only at form
  rw [follows] at form
  have reopens := reopenSession_pathKeeps (i := i) (s := v.upd i (holdMoved v.idleFull))
    (by rw [moved]; exact path.queue.trans empty) (by rw [moved]; exact path.request.trans idle)
  generalize reopenSession i (v.upd i (holdMoved v.idleFull)) = w at *
  rw [moved] at reopens
  have here : y = recovered w.idleFull cause credited (w.st i) := by
    show t.st i = _
    rw [← ends, form, st_upd_self]
  have line : lineState (w.st i).line = lineState x.line :=
    (lineState_congr reopens.present reopens.confirmed).trans (lineState_congr path.present path.confirmed)
  have hold : (w.st i).hold = _ := reopens.hold
  rw [path.hold] at hold
  rw [here]
  exact ⟨reopens.queue.trans (path.queue.trans empty), reopens.confirmed.trans path.confirmed,
    reopens.request.trans (path.request.trans idle), rfl, reopens.stallTimer (path.stallTimer stopped), rfl, congrArg some line,
    reopens.writtenOff.trans path.writtenOff, hold⟩

end

end Sys2Proof.Machine
end

section
/-!
PROOFS. A slot that confirms a code (sections 1.3, 5.1 and 5.2): the stoppage.
-/

namespace Sys2Proof.Machine

section
variable {i : StationId} {s t u : State} {x y z : Station} {code : Code} {cause : Cause} {full : Nat} {h : UpHalf}

/-! ## The slot -/

/-- A slot of a present station whose half carries the mark. -/
theorem slot_full {a : Arrival} {l : StationLine} {events : List LineEvent} (inFrame : s.inFrame i = true) (slot : s.slot = i)
    (half : decodeHalf h = a) (marked : a.present = true) (present : (s.st i).line.present = true)
    (full : fullArrival a (agreedLine (s.st i)) = (l, events)) :
    exec (.upstreamHalf i h) s = .next (takeEvents i events (s.passSlot.upd i fun y => { y with line := l })) := by
  have sent : (sendHalf i s.passSlot).st i = { s.st i with line := afterDownHalf (s.st i) } := st_upd_self ..
  have agrees : presenceArrival i true (sendHalf i s.passSlot) = s.passSlot.upd i fun y => { y with line := agreedLine y } := by
    unfold presenceArrival
    dsimp only
    rw [if_pos (by rw [sent]; exact (afterDownHalf_present _).trans present)]
    exact upd_upd ..
  have here : ((s.passSlot.upd i fun y => { y with line := agreedLine y }).st i).line = agreedLine (s.st i) :=
    congrArg Station.line (st_upd_self ..)
  rw [exec_slot inFrame slot, half]
  unfold takeArrival
  dsimp only
  rw [marked, agrees, here, if_pos (by rw [Bool.true_and]; exact (afterDownHalf_present _).trans present)]
  unfold applyLine
  dsimp only
  rw [here, full, State.updLine, upd_upd]

/-- The line state of a calm station after a slot that confirms a code. -/
def confirmedLine (code : Code) (x : Station) : StationLine := { calmLine x with confirmed := some code }

/-- The state in which a code confirmed in the slot of station `i` is taken. -/
def State.confirming (s : State) (i : StationId) (code : Code) : State :=
  s.passSlot.upd i fun y => { y with line := confirmedLine code (s.st i) }

theorem confirming_st : (s.confirming i code).st i = { s.st i with line := confirmedLine code (s.st i) } := st_upd_self ..

theorem agreedLine_confirmed (x : Station) : (agreedLine x).confirmed = x.line.confirmed := afterDownHalf_confirmed x

theorem agreedLine_candidate (x : Station) : (agreedLine x).candidate = x.line.candidate := by
  show (afterDownHalf x).candidate = _
  unfold afterDownHalf
  dsimp only
  split <;> rfl

/-- A slot that confirms a code, at a calm station. -/
theorem slot_confirms (inFrame : s.inFrame i = true) (slot : s.slot = i) (spelt : code ≠ .jam 0) (calm : Calm (s.st i))
    (candidate : (s.st i).line.candidate = some code) (other : (s.st i).line.confirmed ≠ some code) :
    exec (.upstreamHalf i (halfOf code 0 0 0 0 0)) s = .next (takeEvents i [.codeConfirmed code] (s.confirming i code)) := by
  have line : reportedLine (s.st i) = calmLine (s.st i) := reportedLine_calm calm
  have agreed : ({ agreedLine (s.st i) with confirmed := some code, candidate := none } : StationLine) = confirmedLine code (s.st i) := by
    rw [confirmedLine, ← line]
    rfl
  have coded : codeArrival (some code) (agreedLine (s.st i)) = (confirmedLine code (s.st i), [.codeConfirmed code]) := by
    rw [codeArrival, if_neg (by rw [agreedLine_confirmed]; exact other), if_pos ((agreedLine_candidate _).trans candidate), agreed]
  obtain ⟨present, latch, up, -, free, -⟩ := calm
  have parts : messageParts ⟨true, some code, none, 0, .idle, decodeAck 0, 0⟩ (confirmedLine code (s.st i)) =
      (confirmedLine code (s.st i), []) :=
    (messageParts_quiet (l := confirmedLine code (s.st i)) latch up rfl rfl rfl).trans (ackArrival_none _ free)
  have full : fullArrival ⟨true, some code, none, 0, .idle, decodeAck 0, 0⟩ (agreedLine (s.st i)) =
      (confirmedLine code (s.st i), [.codeConfirmed code]) := by
    unfold fullArrival
    dsimp only
    rw [coded]
    exact congrArg (fun m : LineStep => (m.1, [LineEvent.codeConfirmed code] ++ m.2)) parts
  exact slot_full inFrame slot (halfOf_quiet (ack := 0) spelt (by omega)) rfl present full

/-! ## The stoppage (R82, R83) -/

/-- A code that stops the station with a cause. -/
def Stops (code : Code) (cause : Cause) : Prop :=
  (code, cause) ∈ [(Code.doorOpen, Cause.door), (.fault, .fault)] ∨ (∃ l : Fin 16, l ≠ 0 ∧ code = .jam l ∧ cause = .jam l)

theorem Stops.spelt (stops : Stops code cause) : code ≠ .jam 0 := by
  rcases stops with member | ⟨l, nonzero, rfl, rfl⟩
  · simp only [List.mem_cons, Prod.mk.injEq, List.not_mem_nil, or_false] at member
    rcases member with ⟨rfl, -⟩ | ⟨rfl, -⟩ <;> nofun
  · exact fun e => nonzero (Code.jam.inj e)

theorem codeConfirmed_stops (stops : Stops code cause) (s : State) :
    codeConfirmed i code s = (none, codeReported i (stoppage i cause s)) := by
  rcases stops with member | ⟨l, -, rfl, rfl⟩
  · simp only [List.mem_cons, Prod.mk.injEq, List.not_mem_nil, or_false] at member
    rcases member with ⟨rfl, rfl⟩ | ⟨rfl, rfl⟩ <;> rfl
  · rfl

theorem codeReported_eq (i : StationId) (s : State) : codeReported i s = s.upd i fun x => stationRaised (judged s.idleFull x) := by
  rw [codeReported, syncIdle_eq, raiseStation_eq, upd_upd]
  rfl

/-- The report of a stoppage code with the line state that it leaves. -/
theorem slot_stops (inFrame : s.inFrame i = true) (slot : s.slot = i) (stops : Stops code cause) (calm : Calm (s.st i))
    (candidate : (s.st i).line.candidate = some code) (other : (s.st i).line.confirmed ≠ some code) :
    exec (.upstreamHalf i (halfOf code 0 0 0 0 0)) s =
      .next (codeReported i (stoppage i cause (s.confirming i code))) := by
  rw [slot_confirms inFrame slot stops.spelt calm candidate other, takeEvents_one (e := .codeConfirmed code) (codeConfirmed_stops stops _)]

/-- A stoppage from clear at an OPEN or DRAINING session. -/
theorem slot_stalls (inFrame : s.inFrame i = true) (slot : s.slot = i) (stops : Stops code cause) (calm : Calm (s.st i))
    (idle : (s.st i).request = .idle) (candidate : (s.st i).line.candidate = some code)
    (other : (s.st i).line.confirmed ≠ some code) (clear : (s.st i).recovery.stoppage = none)
    (session : (s.st i).session.state = .opened ∨ (s.st i).session.state = .draining)
    (hold : (s.st i).hold = .none ∨ (s.st i).hold = .requested) :
    exec (.upstreamHalf i (halfOf code 0 0 0 0 0)) s = .next (s.passSlot.upd i fun _ =>
      stationRaised (stallEntered (s.host.timers.stall * 60 * 2000)
        (stopSet cause { s.st i with line := confirmedLine code (s.st i) }))) := by
  have here := confirming_st (s := s) (i := i) (code := code)
  have stalls : stallsAt ((s.confirming i code).st i) = true := by
    rw [here]
    exact (stallsAt_iff _).2 ⟨session, hold⟩
  rw [slot_stops inFrame slot stops calm candidate other, stoppage_stalls (by rw [here]; exact clear) stalls, codeReported_eq, upd_upd,
    State.confirming, upd_upd]
  refine congrArg Host.Outcome.next (upd_congr (s := s.passSlot) ?_)
  rw [stalledAt_idle (by exact idle), judged_notOpen (by simp [stallEntered, stalledRecord])]
  rfl

/-- A stoppage that stalls no session. -/
theorem slot_stops_plain (inFrame : s.inFrame i = true) (slot : s.slot = i) (stops : Stops code cause) (calm : Calm (s.st i))
    (candidate : (s.st i).line.candidate = some code) (other : (s.st i).line.confirmed ≠ some code)
    (plain : (s.st i).recovery.stoppage ≠ none ∨ stallsAt (s.st i) = false) :
    exec (.upstreamHalf i (halfOf code 0 0 0 0 0)) s = .next (s.passSlot.upd i fun _ =>
      stationRaised (judged s.idleFull (stopSet cause { s.st i with line := confirmedLine code (s.st i) }))) := by
  have here := confirming_st (s := s) (i := i) (code := code)
  rw [slot_stops inFrame slot stops calm candidate other, stoppage_plain (by rw [here]; exact plain), codeReported_eq, upd_upd,
    State.confirming, upd_upd]
  rfl

end

end Sys2Proof.Machine
end

section
/-!
PROOFS. READY and RUNNING recover a station, with nothing between the credits of the series (sections 4.6, 5.3 and 5.4).
-/

namespace Sys2Proof.Machine

section
variable {i : StationId} {s t u : State} {x y z : Station} {q : List InFlight} {code : Code} {cause : Cause} {full : Nat}

/-- Entries taken back of which none is CHARGED. -/
theorem removeAll_uncharged (q : List InFlight) (s : State) (none : chargedOf q = []) : ∃ f : Station → Station,
    removeAll i q s = s.upd i f ∧ (f (s.st i)).session = (s.st i).session ∧ (f (s.st i)).line = (s.st i).line := by
  induction q generalizing s with
  | nil => exact ⟨id, (upd_id s i rfl).symm, rfl, rfl⟩
  | cons e rest ih =>
    rw [chargedOf_cons] at none
    cases kind : e.kind with
    | charged =>
      rw [kind, if_pos rfl] at none
      cases none
    | service =>
      rw [kind, if_neg nofun] at none
      obtain ⟨f, taken, session, line⟩ := ih (takeBack i e rest s) none
      rw [takeBack_service kind, st_upd_self] at session line
      refine ⟨fun x => f (takenOut s.idleFull e rest x), ?_, session, line⟩
      rw [removeAll, taken, takeBack_service kind, upd_upd]

/-! ## The slot -/

/-- A code that recovers. -/
def Recovers (code : Code) : Prop := code = .ready ∨ code = .running

theorem Recovers.spelt (recovers : Recovers code) : code ≠ .jam 0 := by rcases recovers with rfl | rfl <;> nofun

/-- A calm station whose slot has confirmed a code that recovers, as its removal series begins. -/
def recoveringAt (code : Code) (x : Station) : Station :=
  { x with line := confirmedLine code x, recovery := { x.recovery with stallTimer := none } }

/-- The state in which the removal series of a recovery begins. -/
def State.recovering (s : State) (i : StationId) (code : Code) : State :=
  s.passSlot.upd i fun _ => recoveringAt code (s.st i)

theorem recovering_st : (s.recovering i code).st i = recoveringAt code (s.st i) := st_upd_self ..

/-- The series of a recovery. -/
def recoverySeries (i : StationId) (cause : Cause) (x : Station) : Series := ⟨i, .recovery cause (chargedOf x.queue).length⟩

theorem slot_recovers (inFrame : s.inFrame i = true) (slot : s.slot = i) (recovers : Recovers code) (calm : Calm (s.st i))
    (candidate : (s.st i).line.candidate = some code) (other : (s.st i).line.confirmed ≠ some code)
    (stopped : (s.st i).recovery.stoppage = some cause) : exec (.upstreamHalf i (halfOf code 0 0 0 0 0)) s =
      .next (workOff [.series (recoverySeries i cause (s.st i))] (s.recovering i code)) := by
  have here := confirming_st (s := s) (i := i) (code := code)
  have cleared : clearedCause code ((s.confirming i code).st i).recovery = some cause := by
    rw [here]
    rcases recovers with rfl | rfl <;> exact stopped
  have stopsTimer : stopStallTimer i (s.confirming i code) = s.recovering i code := by
    rw [stopStallTimer, State.updRecovery, State.confirming, upd_upd]
    exact upd_congr (s := s.passSlot) rfl
  have begun : startJob (.event i (.codeConfirmed code)) (s.confirming i code) =
      (some (recoverySeries i cause (s.st i)), s.recovering i code) := by
    show codeConfirmed i code (s.confirming i code) = _
    unfold codeConfirmed
    rw [cleared, ← stopsTimer, here]
    rfl
  rw [slot_confirms inFrame slot recovers.spelt calm candidate other]
  refine congrArg Host.Outcome.next ?_
  show workOff [.event i (.codeConfirmed code)] (s.confirming i code) = _
  exact workOff_series rfl begun rfl

/-- The state of a recovery as its queue has been emptied. -/
def State.emptied (s : State) (i : StationId) (code : Code) : State := removeAll i (s.st i).queue (s.recovering i code)

/-! ## What the recovery leaves -/

theorem emptied_st : Removed (recoveringAt code (s.st i)) ((s.emptied i code).st i) ∧ ((s.emptied i code).st i).queue = [] ∧
    ((s.emptied i code).st i).meters.writtenOff % 1000000000 =
      ((s.st i).meters.writtenOff + ((s.st i).queue.map (·.impressions)).sum) % 1000000000 ∧
    CreditsOnly s.passSlot (s.emptied i code) := by
  have here := recovering_st (s := s) (i := i) (code := code)
  obtain ⟨removed, left, written, only⟩ := removeAll_removed (i := i) (s.st i).queue (s.recovering i code) (by rw [here]; rfl)
  rw [here] at removed written
  exact ⟨removed, left, written, (CreditsOnly.upd s.passSlot i _).trans only⟩

theorem emptied_local : LocalTo i s.passSlot (s.emptied i code) :=
  (upd_local i _ s.passSlot).trans (removeAll_local i _ _)

/-- The first clause on a recovery. -/
theorem recovery_leaves (recovers : Recovers code) (present : (s.st i).line.present = true) (idle : (s.st i).request = .idle) (t : State)
    (ends : endSeries (recoverySeries i cause (s.st i)) (s.emptied i code) = t) :
    let x := s.st i
    LocalTo i s.passSlot t ∧
      (t.st i).queue = [] ∧ (t.st i).line.confirmed = some code ∧ (t.st i).request = .idle ∧
      (t.st i).recovery.stoppage = none ∧ (t.st i).recovery.stallTimer = none ∧
      (t.st i).cond.jam = some ⟨.recovery, cause, (chargedOf x.queue).length⟩ ∧
      (t.st i).cond.lineLatest = some (if code = .ready then .ready else .running) ∧
      (t.st i).meters.writtenOff % 1000000000 =
        (x.meters.writtenOff + (x.queue.map (·.impressions)).sum) % 1000000000 ∧
      (t.st i).hold = (match x.hold with
        | .none => .none | .requested => .held | .held => .held | .releasing => .none) := by
  intro x
  obtain ⟨removed, left, written, -⟩ := emptied_st (s := s) (i := i) (code := code)
  have line := removed.line
  obtain ⟨queue, confirmed, request, stoppage, stallTimer, jam, latest, off, hold⟩ := recovery_path left (removed.request.trans idle)
    (by rw [removed.recovery]; rfl) t ends
  rw [line] at confirmed latest
  refine ⟨?_, queue, confirmed, request, stoppage, stallTimer, jam, latest.trans (congrArg some ?_), ?_, ?_⟩
  · have whole := endSeries_local (recoverySeries i cause (s.st i)) (s.emptied i code)
    rw [ends] at whole
    exact emptied_local.trans whole
  · have here : lineState { (recoveringAt code (s.st i)).line with down := ((s.emptied i code).st i).line.down } =
        codeLineState code := by
      unfold lineState
      exact if_pos present
    rw [here]
    rcases recovers with rfl | rfl <;> rfl
  · rw [off]
    exact written
  · rw [hold, removed.hold]
    rfl

/-- A recovery as an update of its station, where no session drains or closes. -/
theorem endSeries_opened (idle : (s.st i).request = .idle) (empty : (s.st i).queue = [])
    (state : (s.st i).session.state ≠ .draining) {n : Nat} : endSeries ⟨i, .recovery cause n⟩ s =
      let t := reopenSession i (s.upd i (holdMoved s.idleFull))
      t.upd i (recovered t.idleFull cause n) := by
  have follows := (afterRemoval_recovering (b := n != 0) empty idle).1
  have kept : (if (n != 0) = true then drainCheck i s else s) = s := by
    split
    · exact drainCheck_notDraining state
    · rfl
  rw [kept] at follows
  have form := endSeries_recovery i cause n s
  dsimp only at form
  rw [follows] at form
  exact form

/-- The second clause: nothing to credit, and no session to reopen. -/
theorem recovery_uncharged (idle : (s.st i).request = .idle) (none_ : chargedOf (s.st i).queue = [])
    (state : (s.st i).session.state = .none ∨ (s.st i).session.state = .authorizing ∨ (s.st i).session.state = .opened) (t : State)
    (ends : endSeries (recoverySeries i cause (s.st i)) (s.emptied i code) = t) :
    let x := s.st i
    t.journal = s.journal ∧ t.accounts = s.accounts ∧ t.cards = s.cards ∧
      (t.st i).session = x.session ∧ (t.st i).line = confirmedLine code x ∧
      (t.st i).recovery = { x.recovery with stoppage := none, stallTimer := none } := by
  intro x
  have here := recovering_st (s := s) (i := i) (code := code)
  obtain ⟨removed, left, -, -⟩ := emptied_st (s := s) (i := i) (code := code)
  obtain ⟨f, taken, session, line⟩ := removeAll_uncharged (i := i) (s.st i).queue (s.recovering i code) none_
  have notStalled : ((s.emptied i code).st i).session.state ≠ .stalled ∧ ((s.emptied i code).st i).session.state ≠ .draining := by
    rw [removed.state]
    show (s.st i).session.state ≠ _ ∧ (s.st i).session.state ≠ _
    rcases state with h | h | h <;> rw [h] <;> exact ⟨nofun, nofun⟩
  have form := endSeries_opened (cause := cause) (n := (chargedOf (s.st i).queue).length) (removed.request.trans idle) left notStalled.2
  dsimp only at form
  rw [reopenSession_other (by rw [st_upd_self, holdMoved_rest]; exact notStalled.1), upd_upd] at form
  have recovery := removed.recovery
  rw [here] at session line
  change removeAll i _ _ = _ at taken
  have st : (s.emptied i code).st i = f (recoveringAt code (s.st i)) := by
    show (removeAll i _ _).st i = _
    rw [taken, st_upd_self, here]
  have world : s.emptied i code = (s.recovering i code).upd i f := taken
  refine ends ▸ form ▸ ⟨?_, ?_, ?_, ?_, ?_, ?_⟩
  · rw [world]; rfl
  · rw [world]; rfl
  · rw [world]; rfl
  all_goals
    rw [st_upd_self, holdMoved_rest]
  · show ((s.emptied i code).st i).session = _
    rw [st, session]
    rfl
  · show ((s.emptied i code).st i).line = _
    rw [st, line]
    rfl
  · show ({ ((s.emptied i code).st i).recovery with stoppage := none } : Recovery) = _
    rw [recovery]
    rfl

end

end Sys2Proof.Machine
end

section
/-!
PROOFS. The recovery of a STALLED session, with nothing between its credits (sections 3.6 and 5.4).
-/

namespace Sys2Proof.Machine

section
variable {i : StationId} {s t u : State} {x y z : Station} {q : List InFlight} {code : Code} {cause : Cause} {full n : Nat}

/-- A STALLED session that holds no reason is OPEN again. -/
theorem endSeries_reopens (idle : (s.st i).request = .idle) (empty : (s.st i).queue = []) (state : (s.st i).session.state = .stalled)
    (pending : (s.st i).session.closePending = none) : endSeries ⟨i, .recovery cause n⟩ s =
      s.upd i fun x => recovered s.idleFull cause n (reopened s.idleFull (holdMoved s.idleFull x)) := by
  have form := endSeries_opened (cause := cause) (n := n) idle empty (by rw [state]; nofun)
  dsimp only at form
  rw [reopenSession_opens (by rw [st_upd_self, holdMoved_rest]; exact state) (by rw [st_upd_self, holdMoved_rest]; exact pending)
    (by rw [st_upd_self, holdMoved_rest]; exact idle), upd_upd, upd_upd] at form
  exact form

/-- A STALLED session that holds a reason closes with it. -/
theorem endSeries_closes {r : CloseReason} (idle : (s.st i).request = .idle) (empty : (s.st i).queue = [])
    (state : (s.st i).session.state = .stalled) (pending : (s.st i).session.closePending = some r) :
    endSeries ⟨i, .recovery cause n⟩ s =
      (closeStep i r .closed (s.upd i fun x => drainEntered r (holdMoved s.idleFull x))).upd i (recovered s.idleFull cause n) := by
  have moved : ∀ x, (holdMoved s.idleFull x).request = x.request := fun x => by rw [holdMoved_rest]
  have form := endSeries_opened (cause := cause) (n := n) idle empty (by rw [state]; nofun)
  have here : ((s.upd i (holdMoved s.idleFull)).st i).queue = [] := by rw [st_upd_self, holdMoved_rest]; exact empty
  have drains : (s.upd i (holdMoved s.idleFull)).upd i (drained s.idleFull r) = s.upd i fun x => drainEntered r (holdMoved s.idleFull x) := by
    rw [upd_upd]
    exact upd_congr (drained_idle ((moved _).trans idle))
  dsimp only at form
  rw [reopenSession_closes (by rw [st_upd_self, holdMoved_rest]; exact state) (by rw [st_upd_self, holdMoved_rest]; exact pending),
    goDraining_closes r (by rw [here]; exact fun f member => nomatch member), idleFull_upd, drains] at form
  refine form.trans ?_
  have full : (closeStep i r .closed (s.upd i fun x => drainEntered r (holdMoved s.idleFull x))).idleFull = s.idleFull := by
    unfold State.idleFull
    rw [closeStep_host]
    rfl
  rw [full]

/-- The third clause on a recovery: the session is OPEN again. -/
theorem recovery_reopens (idle : (s.st i).request = .idle) (state : (s.st i).session.state = .stalled)
    (pending : (s.st i).session.closePending = none) (t : State)
    (ends : endSeries (recoverySeries i cause (s.st i)) (s.emptied i code) = t) :
    let x := s.st i
    t.journal = s.journal ∧ t.cards = s.cards ∧ (t.st i).session.state = .opened ∧
      (t.st i).session.number = x.session.number ∧ (t.st i).session.payer = x.session.payer ∧
      (t.st i).session.fineTotal = x.session.fineTotal - chargedPrices x.queue ∧
      (t.st i).session.impressions = x.session.impressions - chargedImpressions x.queue ∧
      (t.st i).recovery = { x.recovery with stoppage := none, stallTimer := none } := by
  intro x
  have here := recovering_st (s := s) (i := i) (code := code)
  obtain ⟨removed, left, -, only⟩ := emptied_st (s := s) (i := i) (code := code)
  have amounts := removeAll_credited_amounts (i := i) (s.st i).queue (s.recovering i code) (by
    rw [here]
    show (s.st i).session.state ≠ _
    rw [state]
    nofun)
  rw [here] at amounts
  have session := removed.session
  have result := endSeries_reopens (cause := cause) (n := (chargedOf (s.st i).queue).length) (removed.request.trans idle) left
    (removed.state.trans state) (by rw [session]; exact pending)
  obtain rfl := ends.symm.trans result
  refine ⟨?_, ?_, ?_, ?_, ?_, ?_, ?_, ?_⟩
  · rw [only]; rfl
  · rw [only]; rfl
  all_goals
    rw [st_upd_self, holdMoved_rest]
  · rfl
  · show ((s.emptied i code).st i).session.number = _
    rw [session]
    rfl
  · show ((s.emptied i code).st i).session.payer = _
    rw [session]
    rfl
  · exact amounts.fineTotal
  · exact amounts.impressions
  · show ({ ((s.emptied i code).st i).recovery with stoppage := none } : Recovery) = _
    rw [removed.recovery]
    rfl

/-- The closing cent of a session whose spent is its fine total in whole units. -/
theorem finalSpent_even {y : Session} {cent : ClosingCent} {spent total : Nat} (final : FinalSpent u y cent spent)
    (fine : y.fineTotal = total) (spends : y.spent = total / 100) :
    (total % 100 < 50 → cent = .none ∧ spent = total / 100) ∧
    (50 ≤ total % 100 → (cent = .posted ∧ spent = total / 100 + 1) ∨ (cent = .waived ∧ spent = total / 100)) := by
  obtain ⟨small, posts, waives⟩ := final
  rw [fine, spends] at *
  refine ⟨small, fun owes => ?_⟩
  by_cases fits : CentFits u y
  · exact .inl (posts owes fits)
  · exact .inr (waives owes fits)

theorem drainingSession_number (r : CloseReason) (y : Session) : (drainingSession r y).number = y.number := rfl
theorem drainingSession_stallCount (r : CloseReason) (y : Session) : (drainingSession r y).stallCount = y.stallCount := rfl

/-- What a close leaves of a station whose stoppage condition then clears. -/
theorem closedAt_recovered {spent : Nat} {cent : ClosingCent} (full : Nat) (cause : Cause) (n : Nat) (x : Station) :
    let y := recovered full cause n (closedAt .closed spent cent x)
    y.session = Session.ended x.session.number ∧ y.meters.sessionsClosed = (x.meters.sessionsClosed + 1) % 1000000000 ∧
      y.recovery = ⟨none, none, if x.recovery.disablePending then .outOfService else x.recovery.availability, false⟩ := by
  intro y
  rw [show y = recovered full cause n _ from rfl, closedAt_rest]
  exact ⟨rfl, rfl, rfl⟩

/-- The fourth clause on a recovery: the session closes with its reason. -/
theorem recovery_closes {r : CloseReason} {payer : Payer} (idle : (s.st i).request = .idle) (state : (s.st i).session.state = .stalled)
    (pending : (s.st i).session.closePending = some r) (paid : (s.st i).session.payer = some payer)
    (even : (s.st i).session.spent = (s.st i).session.fineTotal / 100) (t : State)
    (ends : endSeries (recoverySeries i cause (s.st i)) (s.emptied i code) = t) :
    let x := s.st i
    let total := x.session.fineTotal - chargedPrices x.queue
    (t.st i).session = Session.ended x.session.number ∧
    (t.st i).meters.sessionsClosed = (x.meters.sessionsClosed + 1) % 1000000000 ∧
    (t.st i).recovery = ⟨none, none, if x.recovery.disablePending then .outOfService else x.recovery.availability,
      false⟩ ∧
    ∃ k, t.journal.records = s.journal.records ++ [k] ∧ k.journalNumber = s.journal.nextNumber ∧
      k.sessionNumber = x.session.number ∧ k.station = i ∧ k.payer = payer ∧ k.reason = r ∧
      k.stallCount = x.session.stallCount ∧ k.closeTime = s.journal.clock ∧
      (total % 100 < 50 → k.cent = .none ∧ k.spent = total / 100) ∧
      (50 ≤ total % 100 → (k.cent = .posted ∧ k.spent = total / 100 + 1) ∨
        (k.cent = .waived ∧ k.spent = total / 100)) := by
  intro x total
  have here := recovering_st (s := s) (i := i) (code := code)
  obtain ⟨removed, left, -, only⟩ := emptied_st (s := s) (i := i) (code := code)
  have amounts := removeAll_credited_amounts (i := i) (s.st i).queue (s.recovering i code) (by
    rw [here]
    show (s.st i).session.state ≠ _
    rw [state]
    nofun)
  rw [here] at amounts
  change AmountsCredited _ ((s.emptied i code).st i).session _ at amounts
  have session := removed.session
  have result := endSeries_closes (cause := cause) (n := (chargedOf (s.st i).queue).length) (removed.request.trans idle) left
    (removed.state.trans state) (by rw [session]; exact pending)
  have journal : (s.emptied i code).journal = s.journal := by rw [only]; rfl
  have meters := removed.meters
  have recovery := removed.recovery
  generalize s.emptied i code = v at *
  have fine : (v.st i).session.fineTotal = total := amounts.fineTotal
  have spends : (v.st i).session.spent = total / 100 := by
    rw [amounts.spent]
    split
    · next none =>
      have free : chargedPrices x.queue = 0 := by rw [chargedPrices, none]; rfl
      show (s.st i).session.spent = _
      rw [even, ← Nat.sub_zero (s.st i).session.fineTotal, ← free]
    · rfl
  obtain ⟨session', meters', recovery'⟩ : ((v.upd i fun x => drainEntered r (holdMoved v.idleFull x)).st i).session =
        drainingSession r (v.st i).session ∧
      ((v.upd i fun x => drainEntered r (holdMoved v.idleFull x)).st i).meters = (v.st i).meters ∧
      ((v.upd i fun x => drainEntered r (holdMoved v.idleFull x)).st i).recovery = (v.st i).recovery := by
    rw [st_upd_self, holdMoved_rest]
    exact ⟨rfl, rfl, rfl⟩
  have journal' : (v.upd i fun x => drainEntered r (holdMoved v.idleFull x)).journal = s.journal := journal
  generalize (v.upd i fun x => drainEntered r (holdMoved v.idleFull x)) = u at *
  have payer' : (u.st i).session.payer = some payer := by
    rw [session']
    exact removed.payer.trans paid
  have closed := closeStep_closedWith (i := i) (r := r) payer'
  generalize (closingCent i u).1 = cent at closed
  generalize (closingCent i u).2.1 = spent at closed
  generalize closeStep i r .closed u = c at closed result
  obtain ⟨final, station, records, -, -⟩ := closed
  rw [closeRecord_congr journal', journal'] at records
  obtain ⟨small, owes⟩ := finalSpent_even final (total := total) (by rw [session']; exact fine) (by rw [session']; exact spends)
  have number : (u.st i).session.number = x.session.number := by
    rw [session', drainingSession_number]
    exact (congrArg Session.number session).trans rfl
  have stalls : (u.st i).session.stallCount = x.session.stallCount := by
    rw [session', drainingSession_stallCount]
    exact (congrArg Session.stallCount session).trans rfl
  obtain ⟨session'', meters'', recovery''⟩ := closedAt_recovered (spent := spent) (cent := cent) v.idleFull cause
    (chargedOf (s.st i).queue).length (u.st i)
  rw [← station] at session'' meters'' recovery''
  have journalled : t.journal = c.journal := (congrArg State.journal (ends.symm.trans result)).trans rfl
  have here' : t.st i = recovered v.idleFull cause (chargedOf (s.st i).queue).length (c.st i) := by
    exact (congrArg (State.st · i) (ends.symm.trans result)).trans (st_upd_self ..)
  rw [here', journalled, session'', meters'', recovery'', number]
  exact ⟨rfl, by rw [meters', meters]; rfl, by rw [recovery', recovery]; rfl, _, records, rfl, number, rfl, rfl, rfl, stalls, rfl, small, owes⟩

end

end Sys2Proof.Machine
end

section
/-!
PROOFS. A removal series with events in its gaps (log entry 20): one credit at a time, and what a request that comes there does.
-/

namespace Sys2Proof.Machine

section
variable {i : StationId} {s t u v : State} {n : Nat} {e f : InFlight} {q : List InFlight} {r : Series} {jobs : List Job}
  {more : List (List Meanwhile)} {events : List Meanwhile} {w : Work}

/-- The state with the tape of the gaps given. -/
def State.taped (s : State) (tape : List (List Meanwhile)) : State := { s with meanwhile := tape }

theorem takeBack_meanwhile (i : StationId) (e : InFlight) (q : List InFlight) (s : State) :
    (takeBack i e q s).meanwhile = s.meanwhile := by
  rw [(takeBack_removed i e q s).2.2.2]

/-- A series goes on by its credit, and the gap after it is taken. -/
theorem workOffWithin_credit (running : halting jobs = false) (queue : (s.st r.station).queue = e :: q) (charged : e.kind = .charged)
    (tape : s.meanwhile = events :: more) : workOffWithin (n + 1) ⟨.series r :: jobs, s⟩ =
      workOffWithin n (events.foldl takeInGap ⟨.series r :: jobs, (takeBack r.station e q s).taped more⟩) := by
  have turn : Work.inTurn ⟨.series r :: jobs, s⟩ = .series r :: jobs := inTurn_of_not_halting running
  have next : creditNext r.station (s.st r.station).queue s = (true, takeBack r.station e q s) := by
    rw [queue, creditNext, if_pos (by rw [isCharged, charged]; rfl)]
  have gap : workToGap (.series r :: jobs) s = ⟨.series r :: jobs, takeBack r.station e q s⟩ := by
    show seriesOn r jobs s = _
    rw [seriesOn, next]
    rfl
  rw [workOffWithin, turn, gap, if_neg (List.cons_ne_nil _ _), workGap, popMeanwhile_cons ((takeBack_meanwhile ..).trans tape)]
  rfl

/-- A series alone whose queue is empty ends. -/
theorem workOffWithin_ends (queue : (s.st r.station).queue = []) (n : Nat) : workOffWithin n ⟨[.series r], s⟩ = endSeries r s := by
  have turn : Work.inTurn ⟨[.series r], s⟩ = [.series r] := inTurn_one s rfl
  cases n with
  | zero =>
    show (Work.inTurn ⟨[.series r], s⟩).foldl _ s = _
    rw [turn]
    show endSeries r (removeAll r.station (s.st r.station).queue s) = _
    rw [queue]
    rfl
  | succ n =>
    have gap : workToGap [.series r] s = ⟨[], endSeries r s⟩ := by
      show seriesOn r [] s = _
      rw [seriesOn, queue]
      exact congrArg (Work.mk · (endSeries r s)) (ite_self _)
    rw [workOffWithin, turn, gap]
    exact if_pos rfl

/-- A series of two credits, with a gap after the first that leaves it as it is and an empty one after the second. -/
theorem workOff_two (queue : (s.st r.station).queue = [e, f]) (first : e.kind = .charged) (second : f.kind = .charged)
    (tape : s.meanwhile = events :: [] :: more)
    (gap : events.foldl takeInGap ⟨[.series r], (takeBack r.station e [f] s).taped ([] :: more)⟩ = ⟨[.series r], v⟩)
    (left : (v.st r.station).queue = [f]) (tape' : v.meanwhile = [] :: more) :
    workOff [.series r] s = endSeries r ((takeBack r.station f [] v).taped more) := by
  rw [workOff, tape]
  show workOffWithin (more.length + 1 + 1) _ = _
  rw [workOffWithin_credit rfl queue first tape, gap, workOffWithin_credit rfl left second tape']
  have empty : (((takeBack r.station f [] v).taped more).st r.station).queue = [] := (takeBack_removed r.station f [] v).2.1
  exact workOffWithin_ends empty _

/-- Without HALT among the jobs, a gap takes what it admits. -/
theorem takeInGap_admitted {m : Meanwhile} (running : halting w.jobs = false) (may : admitted w m = true) :
    takeInGap w m = takeMeanwhile m w := by
  have recorded : haltRecorded w.jobs = false := by
    rw [haltRecorded, List.any_eq_false]
    intro j mem
    have other := List.any_eq_false.1 running j mem
    cases j <;> simp_all [Job.isHalted]
  rw [takeInGap, if_pos may]
  dsimp only
  rw [recordsRun, recorded, Bool.false_and, Bool.false_and, if_neg nofun]

/-- A request that concerns no station comes into a gap whose host line is idle: its owner takes it and its reply waits. -/
theorem takeInGap_request {q : Request} {a : Answered} (idle : lineIdle s) (at_ : requestStation q s = none)
    (owner : ownerAnswer q s = some a) :
    takeInGap ⟨[.series r], s⟩ (.request q) = ⟨[.series r], bufferReply (requestKind q) a⟩ := by
  have may : admitted ⟨[.series r], s⟩ (.request q) = true := by
    show (!false && !concernsHeld ⟨[.series r], s⟩ q) = true
    rw [concernsHeld, at_]
    rfl
  rw [takeInGap_admitted rfl may]
  show submitOn q ⟨[.series r], s⟩ = _
  refine (if_pos idle).trans ?_
  rw [requestOn, owner]

/-- A CHARGED entry of a session that account `n` pays for has been taken back, and its minor units returned. -/
structure CreditTaken (i : StationId) (n : Nat) (e : InFlight) (q : List InFlight) (a : Account) (s t : State) : Prop where
  removed : Removed (s.st i) (t.st i)
  queue : (t.st i).queue = q
  session : ∃ lost, (t.st i).session = creditedSession (s.st i).session e lost
  account : findAccount t.accounts n = some { a with balance := min 9999999 (a.balance + unitsReturned (s.st i).session e.price) }
  accounts : ∀ m, m ≠ n → findAccount t.accounts m = findAccount s.accounts m
  ranges : t.accounts.ranges = s.accounts.ranges
  only : CreditsOnly s t
  others : ∀ j, j ≠ i → t.st j = s.st j

theorem takeBack_creditTaken {a : Account} (charged : e.kind = .charged) (live : (s.st i).session.state ≠ .none)
    (paid : (s.st i).session.payer = some (.account n)) (found : findAccount s.accounts n = some a) :
    CreditTaken i n e q a s (takeBack i e q s) := by
  obtain ⟨removed, queue, -, only⟩ := takeBack_removed i e q s
  have session := takeBack_session (e := e) (rest := q) live
  have accounts := takeBack_accounts (e := e) (rest := q) live
  rw [if_pos charged] at session accounts
  have ranges := congrArg AccountUnit.ranges accounts
  rw [creditWorld_ranges] at ranges
  rw [creditWorld_account paid found] at accounts
  obtain ⟨stored, others⟩ := findAccount_put
    (a := { a with balance := min 9999999 (a.balance + unitsReturned (s.st i).session e.price) })
    (show a.number = n from findAccount_number found) s
  exact ⟨removed, queue, ⟨_, session⟩, by rw [accounts]; exact stored, fun m other => by rw [accounts]; exact others m other, ranges, only,
    (takeBack_local i e q s).others⟩

/-- A series of two credits to account `n`: what the gap after the first finds, and what the second leaves. -/
theorem workOff_credits {b : Account} (queue : (s.st r.station).queue = [e, f]) (first : e.kind = .charged)
    (second : f.kind = .charged) (tape : s.meanwhile = events :: [] :: more)
    (gap : events.foldl takeInGap ⟨[.series r], (takeBack r.station e [f] s).taped ([] :: more)⟩ = ⟨[.series r], v⟩)
    (left : (v.st r.station).queue = [f]) (live : (v.st r.station).session.state ≠ .none)
    (paid : (v.st r.station).session.payer = some (.account n)) (found : findAccount v.accounts n = some b)
    (tape' : v.meanwhile = [] :: more) :
    ∃ u, workOff [.series r] s = endSeries r u ∧ CreditTaken r.station n f [] b (v.taped more) u ∧ u.meanwhile = more := by
  have credit := takeBack_creditTaken (q := []) second live paid found
  refine ⟨_, workOff_two queue first second tape gap left tape', ?_, rfl⟩
  generalize takeBack r.station f [] v = c at credit
  obtain ⟨removed, queue, session, account, accounts, ranges, only, others⟩ := credit
  exact ⟨removed, queue, session, account, accounts, ranges, congrArg (State.taped · more) only, others⟩

end

end Sys2Proof.Machine
end

section
/-!
PROOFS. The recovery of a STALLED session with a request on its account between two credits (sections 3.6, 5.4, 6.3 and 6.4).
-/

namespace Sys2Proof.Machine

section
variable {i : StationId} {s t u v : State} {n : Nat} {e f : InFlight} {a : Account} {r : Series} {cause : Cause} {code : Code}
  {more : List (List Meanwhile)} {number : BitVec 24} {amount : BitVec 32}

/-- What an ACCOUNT ADJUST leaves that takes a balance to `b`, and whether it does. -/
theorem takeAccountAdjust_answers (nonzero : number.toNat ≠ 0) (found : findAccount s.accounts number.toNat = some a) :
    let fits := floorOf s.accounts.ranges number.toNat ≤ a.balance + amount.toInt ∧ a.balance + amount.toInt ≤ 9999999
    ∃ status body accounts, takeAccountAdjust number amount s = ⟨status, body, { s with accounts := accounts }⟩ ∧
      findAccount accounts number.toNat = some { a with balance := if fits then a.balance + amount.toInt else a.balance } ∧
      accounts.ranges = s.accounts.ranges ∧ (status = .ok ↔ fits) := by
  intro fits
  have stored : a.number = number.toNat := findAccount_number found
  have taken : takeAccountAdjust number amount s = if fits
      then answerAccount a.number (putAccount { a with balance := a.balance + amount.toInt } s) else answerRefused .range s := by
    rw [takeAccountAdjust, onStored_found nonzero found]
    dsimp only
    rw [stored]
    by_cases good : fits
    · rw [if_pos good, if_neg]
      unfold Config.balanceTop
      obtain ⟨low, high⟩ := good
      omega
    · rw [if_neg good, if_pos]
      unfold Config.balanceTop
      by_contra neither
      exact good ⟨by omega, by omega⟩
  rw [taken]
  by_cases good : fits
  · rw [if_pos good, if_pos good, answerAccount_put (b := { a with balance := a.balance + amount.toInt }) rfl]
    exact ⟨_, _, _, rfl, (findAccount_put (a := { a with balance := a.balance + amount.toInt }) stored s).1, rfl, iff_of_true rfl good⟩
  · rw [if_neg good, if_neg good]
    exact ⟨_, _, _, rfl, found, rfl, iff_of_false nofun good⟩

/-- What the gap after the first credit of a recovery finds. -/
structure FirstCredited (i : StationId) (code : Code) (n : Nat) (e f : InFlight) (a : Account) (more : List (List Meanwhile))
    (s c : State) : Prop where
  removed : Removed (recoveringAt code (s.st i)) (c.st i)
  queue : (c.st i).queue = [f]
  session : ∃ lost, (c.st i).session = creditedSession (s.st i).session e lost
  account : findAccount c.accounts n = some { a with balance := min 9999999 (a.balance + unitsReturned (s.st i).session e.price) }
  ranges : c.accounts.ranges = s.accounts.ranges
  others : ∀ j, j ≠ i → c.st j = s.st j
  journal : c.journal = s.journal
  host : c.host = s.host
  meanwhile : c.meanwhile = [] :: more

theorem recovery_firstCredited (state : (s.st i).session.state = .stalled) (one : e.kind = .charged)
    (paid : (s.st i).session.payer = some (.account n)) (found : findAccount s.accounts n = some a) :
    FirstCredited i code n e f a more s ((takeBack i e [f] (s.recovering i code)).taped ([] :: more)) := by
  have here := recovering_st (s := s) (i := i) (code := code)
  have credit := takeBack_creditTaken (s := s.recovering i code) (q := [f]) (a := a) one
    (by rw [here]; show (s.st i).session.state ≠ _; rw [state]; nofun) (by rw [here]; exact paid) found
  obtain ⟨removed, left, session, account, -, ranges, only, local_⟩ := credit
  have others : ∀ j, j ≠ i → (takeBack i e [f] (s.recovering i code)).st j = s.st j := fun j other =>
    (local_ j other).trans ((st_upd_ne _ _ other).trans (st_passSlot s j))
  rw [here] at removed session account
  generalize takeBack i e [f] (s.recovering i code) = c at *
  have journal : c.journal = s.journal := by rw [only]; rfl
  have host : c.host = s.host := by rw [only]; rfl
  exact ⟨removed, left, session, account, ranges, others, journal, host, rfl⟩

/-- The first clause on the tape of the gaps: an ACCOUNT ADJUST on the session's account between the two credits. -/
theorem recovery_adjusted (idle : (s.st i).request = .idle) (state : (s.st i).session.state = .stalled)
    (pending : (s.st i).session.closePending = none) (queue : (s.st i).queue = [e, f]) (one : e.kind = .charged)
    (two : f.kind = .charged) (nonzero : number.toNat ≠ 0) (paid : (s.st i).session.payer = some (.account number.toNat))
    (found : findAccount s.accounts number.toNat = some a) (free : lineIdle s)
    (tape : s.meanwhile = [.request (.accountAdjust number amount)] :: [] :: more) (t : State)
    (ends : workOff [.series (recoverySeries i cause (s.st i))] (s.recovering i code) = t) :
    let x := s.st i
    let first := min 9999999 (a.balance + unitsReturned x.session e.price)
    let back := unitsReturned (creditedSession x.session e 0) f.price
    let between := if floorOf s.accounts.ranges number.toNat ≤ first + amount.toInt ∧
      first + amount.toInt ≤ 9999999 then first + amount.toInt else first
    findAccount t.accounts number.toNat = some { a with balance := min 9999999 (between + back) } ∧
    (t.st i).session.state = .opened ∧ t.meanwhile = more ∧
    ∃ status body, t.host.reply = .waiting ⟨0x12, status, body⟩ ∧
      (status = .ok ↔ floorOf s.accounts.ranges number.toNat ≤ first + amount.toInt ∧ first + amount.toInt ≤ 9999999) := by
  intro x first back between
  have leaves := recovery_firstCredited (code := code) (f := f) (more := more) state one paid found
  have off := fun v b => workOff_credits (v := v) (b := b) (r := recoverySeries i cause (s.st i)) (s := s.recovering i code) (n := number.toNat)
    (by show ((s.recovering i code).st i).queue = _; rw [recovering_st]; exact queue) one two tape
  rw [show (recoverySeries i cause (s.st i)).station = i from rfl] at off
  generalize (takeBack i e [f] (s.recovering i code)).taped ([] :: more) = c at leaves off
  obtain ⟨removed, left, ⟨lost, session⟩, account, ranges, -, -, host, tape'⟩ := leaves
  obtain ⟨status, body, units, answer, stored, -, judged⟩ := takeAccountAdjust_answers (s := c) (amount := amount) nonzero account
  rw [ranges] at stored judged
  obtain ⟨u, whole, second, taped⟩ := off _ _ (takeInGap_request (q := .accountAdjust number amount) (a := ⟨status, body, { c with accounts := units }⟩)
    (by show c.host.reply = _ ∧ c.host.received = _; rw [host]; exact free) rfl (congrArg some answer)) left
    (by show (c.st i).session.state ≠ _; rw [removed.state]; show (s.st i).session.state ≠ _; rw [state]; nofun)
    (removed.payer.trans paid) stored tape'
  obtain ⟨removed', left', ⟨lost', session'⟩, account', -, -, only, -⟩ := second
  have state' : (u.st i).session.state = .stalled := removed'.state.trans (removed.state.trans state)
  have ended := ends.symm.trans (whole.trans (endSeries_reopens (removed'.request.trans (removed.request.trans idle)) left' state'
    (by rw [session']; show (c.st i).session.closePending = _; rw [session]; exact pending)))
  refine ⟨?_, ?_, ?_, status, body, ?_, judged⟩
  · rw [ended]
    refine account'.trans ?_
    show some { a with balance := min 9999999 (_ + ((unitsReturned (c.st i).session f.price : Nat) : Int)) } = _
    rw [session]
    rfl
  · rw [ended, st_upd_self, holdMoved_rest]
    rfl
  · rw [ended]
    exact taped
  · rw [ended]
    exact (congrArg (fun v : State => v.host.reply) only).trans rfl

/-- The only session that an account pays for, STALLED without a reason, keeps FROZEN as close pending. -/
theorem freezeSessions_pends (state : (s.st i).session.state = .stalled) (pending : (s.st i).session.closePending = none)
    (pays : (s.st i).session.payer = some (.account n)) (alone : ∀ j, j ≠ i → (s.st j).session.payer ≠ some (.account n)) :
    ∃ w : State, w = { s with choiceTape := w.choiceTape, choiceCount := w.choiceCount } ∧
      freezeSessions n s = w.updSession i fun y => { y with closePending := some .frozen } := by
  have live : (s.st i).session.state ≠ .none := by rw [state]; nofun
  have same := inOpenOrder_state (payingStations s n) s
  have at_ := inOpenOrder_st (payingStations s n) s i
  have freezes : freezeSessions n s = takeFrozen i (inOpenOrder (payingStations s n) s).2 := by
    rw [freezeSessions_eq, freezeOrder_one live pays alone]
    rfl
  refine ⟨_, same, freezes.trans ?_⟩
  rw [takeFrozen_stalled (by rw [at_]; exact state), keepReason, State.updSession]
  refine upd_congr ?_
  rw [at_, pending]
  rfl

/-- What a FREEZE leaves that comes between the credits of the only session that the account pays for. -/
theorem takeAccountFreeze_pends (nonzero : number.toNat ≠ 0) (found : findAccount s.accounts number.toNat = some a)
    (active : a.frozen = false) (state : (s.st i).session.state = .stalled) (pending : (s.st i).session.closePending = none)
    (pays : (s.st i).session.payer = some (.account number.toNat))
    (alone : ∀ j, j ≠ i → (s.st j).session.payer ≠ some (.account number.toNat)) :
    ∃ body w, takeAccountFreeze number s = ⟨.ok, body, w⟩ ∧
      w.st i = { s.st i with session := { (s.st i).session with closePending := some .frozen } } ∧
      w.accounts = (putAccount { a with frozen := true } s).accounts ∧ w.journal = s.journal ∧ w.meanwhile = s.meanwhile := by
  have stored : a.number = number.toNat := findAccount_number found
  have turned : takeAccountFreeze number s =
      answerAccount number.toNat (freezeSessions number.toNat (putAccount { a with frozen := true } s)) := by
    rw [takeAccountFreeze, onStored_found nonzero found, active, if_neg nofun, putFreezing_turns rfl rfl, stored]
  obtain ⟨w, same, sent⟩ := freezeSessions_pends (s := putAccount { a with frozen := true } s) state pending pays alone
  refine ⟨_, _, turned, ?_⟩
  have at_ : w.st i = s.st i := by rw [same]; rfl
  have units : w.accounts = (putAccount { a with frozen := true } s).accounts := by rw [same]
  have journal : w.journal = s.journal := by rw [same]; rfl
  have tape : w.meanwhile = s.meanwhile := by rw [same]; rfl
  rw [sent, State.updSession, st_upd_self, at_]
  exact ⟨rfl, units, journal, tape⟩

/-- The minor unit that the closing cent takes from an account. -/
theorem postedUnit_eq {mark : ClosingCent} {total : Nat} {floor balance : Int} (cents : mark =
    if decide (50 ≤ total % 100) then (if decide (floor ≤ balance) then .posted else .waived) else .none) :
    (if mark = .posted then (1 : Int) else 0) = if 50 ≤ total % 100 ∧ floor ≤ balance then 1 else 0 := by
  subst cents
  by_cases owes : 50 ≤ total % 100
  · by_cases fits : floor ≤ balance <;> simp [owes, fits]
  · simp [owes]

/-- A recovery that closes a session of account `n` with the reason it holds. -/
theorem endSeries_closes_account {r : CloseReason} {k : Nat} (idle : (u.st i).request = .idle) (empty : (u.st i).queue = [])
    (state : (u.st i).session.state = .stalled) (pending : (u.st i).session.closePending = some r)
    (paid : (u.st i).session.payer = some (.account n)) (found : findAccount u.accounts n = some a) (t : State)
    (ends : endSeries ⟨i, .recovery cause k⟩ u = t) :
    let x := u.st i
    let cent : Int := if 50 ≤ x.session.fineTotal % 100 ∧ floorOf u.accounts.ranges n ≤ a.balance - 1 then 1 else 0
    (t.st i).session = Session.ended x.session.number ∧ t.meanwhile = u.meanwhile ∧ t.host.reply = u.host.reply ∧
      (∃ b, findAccount t.accounts n = some b ∧ b.frozen = a.frozen ∧ b.balance = a.balance - cent) ∧
      ∃ k, t.journal.records = u.journal.records ++ [k] ∧ k.reason = r ∧ k.sessionNumber = x.session.number := by
  intro x cent
  have result := ends.symm.trans (endSeries_closes (cause := cause) (n := k) idle empty state pending)
  have session : ((u.upd i fun y => drainEntered r (holdMoved u.idleFull y)).st i).session = drainingSession r x.session := by
    rw [st_upd_self, holdMoved_rest]
    rfl
  have accounts : (u.upd i fun y => drainEntered r (holdMoved u.idleFull y)).accounts = u.accounts := rfl
  have journal : (u.upd i fun y => drainEntered r (holdMoved u.idleFull y)).journal = u.journal := rfl
  have tape : (u.upd i fun y => drainEntered r (holdMoved u.idleFull y)).meanwhile = u.meanwhile := rfl
  have host : (u.upd i fun y => drainEntered r (holdMoved u.idleFull y)).host = u.host := rfl
  generalize (u.upd i fun y => drainEntered r (holdMoved u.idleFull y)) = w at *
  have closed := closeStep_closedWith (i := i) (r := r) (u := w) (payer := .account n) (by rw [session]; exact paid)
  have tape' := closeStep_meanwhile i r .closed w
  have host' := congrArg HostLine.reply (closeStep_host i r .closed w)
  have units := congrArg State.accounts result
  have records := congrArg State.journal result
  have tapes := congrArg State.meanwhile result
  have hosts := congrArg State.host result
  have here := (congrArg (State.st · i) result).trans (st_upd_self ..)
  generalize closeStep i r .closed w = c at *
  generalize (closingCent i w).1 = mark at closed
  generalize (closingCent i w).2.1 = spent at closed
  obtain ⟨final, station, appended, settled, -⟩ := closed
  rw [session] at final
  obtain ⟨cents, -⟩ := finalSpent_account (t := w) (b := a) (n := n) paid (by rw [accounts]; exact found) final
  obtain ⟨updated, -⟩ := settled n a rfl (by rw [accounts]; exact found)
  rw [accounts] at cents
  have posts := postedUnit_eq (total := (u.st i).session.fineTotal) cents
  refine ⟨?_, tapes.trans (tape'.trans tape), ?_, ⟨_, (congrArg (findAccount · n) units).trans updated, rfl, ?_⟩, _,
    (congrArg JournalUnit.records records).trans (appended.trans (by rw [journal])), rfl, ?_⟩
  · rw [here, station]
    refine (closedAt_recovered (spent := spent) (cent := mark) _ cause k (w.st i)).1.trans ?_
    rw [session]
    rfl
  · rw [hosts]
    exact host'.trans (by rw [host])
  · rw [posts]
  · show (w.st i).session.number = _
    rw [session]
    rfl

/-- The second clause on the tape of the gaps: an ACCOUNT FREEZE of the session's account between the two credits. -/
theorem recovery_frozen (idle : (s.st i).request = .idle) (state : (s.st i).session.state = .stalled)
    (pending : (s.st i).session.closePending = none) (queue : (s.st i).queue = [e, f]) (one : e.kind = .charged)
    (two : f.kind = .charged) (nonzero : number.toNat ≠ 0) (paid : (s.st i).session.payer = some (.account number.toNat))
    (found : findAccount s.accounts number.toNat = some a) (free : lineIdle s) (active : a.frozen = false)
    (alone : ∀ j, j ≠ i → (s.st j).session.payer ≠ some (.account number.toNat))
    (tape : s.meanwhile = [.request (.accountFreeze number)] :: [] :: more) (t : State)
    (ends : workOff [.series (recoverySeries i cause (s.st i))] (s.recovering i code) = t) :
    let x := s.st i
    let first := min 9999999 (a.balance + unitsReturned x.session e.price)
    let back := unitsReturned (creditedSession x.session e 0) f.price
    (t.st i).session = Session.ended x.session.number ∧ t.meanwhile = more ∧
    (let carry := (x.session.fineTotal - e.price - f.price) % 100
     let second := min 9999999 (first + back)
     let cent := if 50 ≤ carry ∧ floorOf s.accounts.ranges number.toNat ≤ second - 1 then 1 else 0
     ∃ b, findAccount t.accounts number.toNat = some b ∧ b.frozen = true ∧ b.balance = second - cent) ∧
    (∃ k, t.journal.records = s.journal.records ++ [k] ∧ k.reason = .frozen ∧ k.sessionNumber = x.session.number) ∧
    ∃ body, t.host.reply = .waiting ⟨0x13, .ok, body⟩ := by
  intro x first back
  have leaves := recovery_firstCredited (code := code) (f := f) (more := more) state one paid found
  have off := fun v b => workOff_credits (v := v) (b := b) (r := recoverySeries i cause (s.st i)) (s := s.recovering i code)
    (n := number.toNat) (by show ((s.recovering i code).st i).queue = _; rw [recovering_st]; exact queue) one two tape
  rw [show (recoverySeries i cause (s.st i)).station = i from rfl] at off
  generalize (takeBack i e [f] (s.recovering i code)).taped ([] :: more) = c at leaves off
  obtain ⟨removed, left, ⟨lost, session⟩, account, ranges, others, journal, host, tape'⟩ := leaves
  have stalled : (c.st i).session.state = .stalled := removed.state.trans state
  have payer : (c.st i).session.payer = some (.account number.toNat) := removed.payer.trans paid
  obtain ⟨body, w, answer, at_, units, records, tape''⟩ := takeAccountFreeze_pends nonzero account active stalled
    (by rw [session]; exact pending) payer (fun j other => by rw [others j other]; exact alone j other)
  have stored := (findAccount_put (n := number.toNat)
    (a := { a with balance := min 9999999 (a.balance + unitsReturned (s.st i).session e.price), frozen := true })
    (show a.number = number.toNat from findAccount_number found) c).1
  obtain ⟨u, whole, second, taped⟩ := off _ _ (takeInGap_request (q := .accountFreeze number) (a := ⟨.ok, body, w⟩)
    (by show c.host.reply = _ ∧ c.host.received = _; rw [host]; exact free) rfl (congrArg some answer))
    (by show (w.st i).queue = _; rw [at_]; exact left) (by show (w.st i).session.state ≠ _; rw [at_]; show (c.st i).session.state ≠ _; rw [stalled]; nofun)
    (by show (w.st i).session.payer = _; rw [at_]; exact payer)
    (by show findAccount w.accounts _ = _; rw [units]; exact stored) (tape''.trans tape')
  obtain ⟨removed', left', ⟨lost', session'⟩, account', -, ranges', only, -⟩ := second
  have here : ((bufferReply (requestKind (.accountFreeze number)) ⟨.ok, body, w⟩).taped more).st i =
      { c.st i with session := { (c.st i).session with closePending := some .frozen } } := at_
  have records' : u.journal = s.journal := (congrArg State.journal only).trans (records.trans journal)
  have reply : u.host.reply = .waiting ⟨0x13, .ok, body⟩ := (congrArg (fun v : State => v.host.reply) only).trans rfl
  have floors : u.accounts.ranges = s.accounts.ranges := ranges'.trans ((congrArg AccountUnit.ranges units).trans ranges)
  rw [here] at removed' session' account'
  obtain ⟨ended, tapes, host', ⟨b, stored', frozen, balance⟩, k, appended, reason, of⟩ := endSeries_closes_account (r := .frozen)
    (removed'.request.trans (removed.request.trans idle)) left' (removed'.state.trans stalled) (by rw [session']; rfl)
    (removed'.payer.trans payer) account' t (whole.symm.trans ends)
  have number_ : (u.st i).session.number = x.session.number := by rw [session', session]; rfl
  have carry : (u.st i).session.fineTotal = x.session.fineTotal - e.price - f.price := by rw [session', session]; rfl
  rw [number_] at ended of
  rw [carry, floors] at balance
  refine ⟨ended, tapes.trans taped, ⟨b, stored', frozen, balance.trans ?_⟩, ⟨k, by rw [appended, records'], reason, of⟩, body, host'.trans reply⟩
  rw [session]
  rfl

end

end Sys2Proof.Machine
end

section
/-!
PROOFS. Stoppage codes and recoveries confirmed in a slot (sections 1.3 and 5.1 to 5.4).
-/

namespace Sys2Proof.Machine

section
variable {i : StationId} {s : State} {code : Code} {cause : Cause}

theorem recovering_ends (quiet : s.meanwhile = [] ∨ chargedOf (s.st i).queue = []) :
    endSeries (recoverySeries i cause (s.st i)) (s.emptied i code) =
      workOff [.series (recoverySeries i cause (s.st i))] (s.recovering i code) := by
  have here : ((s.recovering i code).st i).queue = (s.st i).queue := by rw [recovering_st]; rfl
  have whole := workOff_series_whole (r := recoverySeries i cause (s.st i)) (s := s.recovering i code)
    (quiet.imp id fun uncharged => by rw [show (recoverySeries i cause (s.st i)).station = i from rfl, here]; exact uncharged)
  rw [whole, show (recoverySeries i cause (s.st i)).station = i from rfl, here]
  rfl

end

/-- Settles O55: a stoppage code stalls the station or takes the place of its cause; a recovery is its series worked off, with an
empty tape to the states of `recovery_leaves`, `recovery_uncharged`, `recovery_reopens` and `recovery_closes`, and with a request
on the account in its first gap to those of `recovery_adjusted` and `recovery_frozen`. -/
theorem stoppageCodesStallAndReadyRecovers : Obligations.StoppageCodesStallAndReadyRecovers := by
  intro i s code cause inFrame slot x calm idle candidate other half report stops
  refine ⟨fun code_ clear session hold => ?stalls, fun code_ plain => ?plain, fun recovers stopped => ?recovers⟩
  case stalls => exact slot_stalls inFrame slot code_ calm idle candidate other clear session hold
  case plain =>
    have plain' : (s.st i).recovery.stoppage ≠ none ∨ stallsAt (s.st i) = false := by
      by_cases clear : (s.st i).recovery.stoppage = none
      · refine .inr (Bool.eq_false_iff.2 fun stalls => ?_)
        obtain ⟨session, hold⟩ := (stallsAt_iff x).1 stalls
        have other_ : ∀ {α : Type} {a b c d : α}, a = b → a = c ∨ a = d → b ≠ c → b ≠ d → False := fun e o no no' =>
          o.elim (fun f => no (e.symm.trans f)) fun f => no' (e.symm.trans f)
        rcases plain with no | no | no | no | no
        · exact no clear
        · exact other_ no session nofun nofun
        · exact other_ no session nofun nofun
        · exact other_ no hold nofun nofun
        · exact other_ no hold nofun nofun
      · exact .inl clear
    have slot_ := slot_stops_plain inFrame slot code_ calm candidate other plain'
    exact ⟨_, slot_⟩
  case recovers =>
    refine ⟨_, slot_recovers inFrame slot recovers calm candidate other stopped, fun quiet => ?leaves, fun session none_ => ?uncharged,
      fun session pending quiet => ?reopens, fun r payer session pending paid even quiet => ?closes,
      fun e f a number session pending queue one two nonzero paid found free => ⟨fun amount more tape => ?adjusted,
        fun more active alone tape => ?frozen⟩⟩
    case leaves => exact recovery_leaves recovers calm.1 idle _ (recovering_ends quiet)
    case uncharged => exact ⟨(recovery_leaves recovers calm.1 idle _ (recovering_ends (.inr none_))).1, recovery_uncharged idle none_ session _ (recovering_ends (.inr none_))⟩
    case reopens => exact recovery_reopens idle session pending _ (recovering_ends (.inl quiet))
    case closes => exact recovery_closes idle session pending paid even _ (recovering_ends (.inl quiet))
    case adjusted => exact recovery_adjusted idle session pending queue one two nonzero paid found free tape _ rfl
    case frozen => exact recovery_frozen idle session pending queue one two nonzero paid found free active alone tape _ rfl

end Sys2Proof.Machine
end

section
/-!
PROOFS. The stall timer's expiry: what its end leaves, with nothing between its credits (section 5.5).
-/

namespace Sys2Proof.Machine

section
variable {i : StationId} {s t u : State} {x : Station} {full n spent : Nat} {cause : Option Cause} {cent : ClosingCent}

/-! ## The path after the series -/

/-- A STALLED station whose queue is empty: its hold moves on, and a waiting pick is stopped. -/
def pathCleared (full : Nat) (x : Station) : Station := pickStopped full .stalled (holdMoved full x)

theorem pathCleared_rest (full : Nat) (x : Station) : pathCleared full x = { x with
    hold := (pathCleared full x).hold, request := .idle, idleTimer := (pathCleared full x).idleTimer
    line := { x.line with latch := (pathCleared full x).line.latch } } := by
  rw [pathCleared, pickStopped_rest, holdMoved_rest]

theorem pickStopped_again (r : StopReason) (x : Station) : pickStopped full r (pickStopped full r x) = pickStopped full r x :=
  pickStopped_idle (by rw [pickStopped_rest])

theorem reevaluate_stalled (state : (s.st i).session.state = .stalled) :
    reevaluate i s = s.upd i (pickStopped s.idleFull .stalled) := reevaluate_stopped fun _ => evaluate_stalled state

theorem changeHold_stalled {h : HoldState} (state : (s.st i).session.state = .stalled) :
    changeHold true i h s = s.upd i fun x => pickStopped s.idleFull .stalled (holdSet s.idleFull h x) := by
  rw [changeHold_plain (.inr (.inr rfl)), reevaluate_stalled (by rw [st_upd_self]; exact state), upd_upd]
  rfl

theorem afterRemoval_stalled {b : Bool} (state : (s.st i).session.state = .stalled) (empty : (s.st i).queue = []) :
    afterRemoval true b i s = s.upd i (pathCleared s.idleFull) := by
  have undrained : drainCheck i s = s := if_neg fun h => nomatch h.1.symm.trans state
  have path : (if b then drainCheck i s else s) = s := by rw [undrained]; exact ite_self s
  have stops := reevaluate_stalled state
  have moves : ∀ h, reevaluate i (changeHold true i h s) =
      s.upd i fun x => pickStopped s.idleFull .stalled (holdSet s.idleFull h x) := fun h => by
    rw [changeHold_stalled state, reevaluate_stalled (by rw [st_upd_self, pickStopped_rest]; exact state), upd_upd]
    exact upd_congr (pickStopped_again ..)
  rw [afterRemoval, path]
  unfold holdWhenEmpty
  dsimp only
  rw [if_pos (by rw [empty]; rfl)]
  split
  · next hold => exact (moves .held).trans (upd_congr (by rw [pathCleared, holdMoved, hold]))
  · next hold => exact (moves .none).trans (upd_congr (by rw [pathCleared, holdMoved, hold]))
  · next hold => exact stops.trans (upd_congr (by rw [pathCleared, holdMoved, hold]))
  · next hold => exact stops.trans (upd_congr (by rw [pathCleared, holdMoved, hold]))

/-! ## The end of the expiry -/

/-- A station that the expiry has taken out, with its report. -/
def takenOutOfService (cause : Option Cause) (credited : Nat) (x : Station) : Station :=
  let y := availabilitySet .outOfService x
  { y with
    recovery := { y.recovery with disablePending := false }
    cond := { y.cond with jam := (cause.map fun c => ⟨.stallTimeout, c, credited⟩).or y.cond.jam } }

theorem endSeries_stallTimeout (state : (s.st i).session.state = .stalled) (empty : (s.st i).queue = []) :
    endSeries ⟨i, .stallTimeout cause n⟩ s =
      (closeStep i .stallTimeout .closed (s.upd i (pathCleared s.idleFull))).upd i (takenOutOfService cause n) := by
  have keeps := closeStep_pathKeeps i .stallTimeout .closed (s.upd i (pathCleared s.idleFull))
  have idle : ((closeStep i .stallTimeout .closed (s.upd i (pathCleared s.idleFull))).st i).request = .idle :=
    keeps.request.trans (by rw [st_upd_self, pathCleared_rest])
  show stallTimeoutEnds i cause n s = _
  unfold stallTimeoutEnds
  rw [afterRemoval_stalled state empty, reevaluate_idle idle]
  generalize closeStep i .stallTimeout .closed (s.upd i (pathCleared s.idleFull)) = w
  dsimp only
  rw [setAvailability_eq, State.updRecovery, upd_upd]
  cases cause with
  | none => exact upd_congr (by rw [takenOutOfService]; rfl)
  | some c =>
    dsimp only
    rw [raiseJam, State.updCond, upd_upd]
    exact upd_congr (by rw [takenOutOfService]; rfl)

theorem recoveryTold_raises (disable : x.recovery.disablePending = true) (enabled : x.recovery.availability = .enabled) :
    (recoveryTold x).cond.lineLatest = some (lineState x.line) := by
  rw [recoveryTold]
  dsimp only
  rw [if_pos ⟨disable, by rw [enabled]; nofun⟩]
  rfl

theorem closedAt_raises (disable : x.recovery.disablePending = true) (enabled : x.recovery.availability = .enabled) :
    (closedAt .closed spent cent x).cond.lineLatest = some (lineState x.line) := by
  have recovery : (payerEntry .closed x).recovery = x.recovery := by rw [payerEntry_rest]
  have present : (payerEntry .closed x).line.present = x.line.present := by rw [payerEntry_rest]
  have confirmed : (payerEntry .closed x).line.confirmed = x.line.confirmed := by rw [payerEntry_rest]
  rw [closedAt]
  dsimp only
  rw [recoveryTold_raises, offered_rest]
  · exact congrArg some (lineState_congr present confirmed)
  · rw [offered_rest]
    exact (congrArg Recovery.disablePending recovery).trans disable
  · rw [offered_rest]
    exact (congrArg Recovery.availability recovery).trans enabled

/-- What the end of the expiry leaves of the station that it closes. -/
structure TakenOut (cause : Option Cause) (n : Nat) (x y : Station) : Prop where
  session : y.session = Session.ended x.session.number
  queue : y.queue = x.queue
  request : y.request = x.request
  recovery : y.recovery = ⟨x.recovery.stoppage, none, .outOfService, false⟩
  jam : ∀ c, cause = some c → y.cond.jam = some ⟨.stallTimeout, c, n⟩
  told : y.cond.session = true
  raised : x.recovery.availability = .enabled → y.cond.lineLatest = some (lineState x.line)
  meters : y.meters = { x.meters with sessionsClosed := (x.meters.sessionsClosed + 1) % 1000000000 }

theorem takenOutOfService_closed (cause : Option Cause) (n spent : Nat) (cent : ClosingCent) (x : Station) :
    TakenOut cause n x (takenOutOfService cause n (closedAt .closed spent cent x)) := by
  have rest := closedAt_rest (cancel := .closed) (spent := spent) (cent := cent) (x := x)
  have told := (closedAt_cond (cancel := .closed) (spent := spent) (cent := cent) (x := x)).1
  have raises := closedAt_raises (spent := spent) (cent := cent) (x := x)
  generalize closedAt .closed spent cent x = y at *
  have recovery : y.recovery = ⟨x.recovery.stoppage, none,
      if x.recovery.disablePending then .outOfService else x.recovery.availability, false⟩ := by rw [rest]
  have line : lineState y.line = lineState x.line := lineState_congr (by rw [rest]) (by rw [rest])
  have session : y.session = Session.ended x.session.number := by rw [rest]
  have queue : y.queue = x.queue := by rw [rest]
  have request : y.request = x.request := by rw [rest]
  have meters : y.meters = { x.meters with sessionsClosed := (x.meters.sessionsClosed + 1) % 1000000000 } := by rw [rest]
  unfold takenOutOfService availabilitySet
  by_cases out : y.recovery.availability = .outOfService
  · rw [if_pos out]
    refine ⟨session, queue, request, ?_, fun c h => ?_, told, fun enabled => ?_, meters⟩
    · show ({ y.recovery with disablePending := false } : Recovery) = _
      rw [recovery] at out ⊢
      rw [show (if x.recovery.disablePending then Availability.outOfService else x.recovery.availability) = _ from out]
    · rw [h]
      rfl
    · refine raises ?_ enabled
      by_contra free
      rw [recovery, if_neg free, enabled] at out
      cases out
  · rw [if_neg out]
    refine ⟨session, queue, request, ?_, fun c h => ?_, told, fun _ => congrArg some line, meters⟩
    · show ({ y.recovery with availability := .outOfService, disablePending := false } : Recovery) = _
      rw [recovery]
    · rw [h]
      rfl

/-! ## The expiry as its series -/

/-- Station `i` with its stall timer stopped, as the series of the expiry begins. -/
def State.timedOut (s : State) (i : StationId) : State := stopStallTimer i s

theorem timedOut_st : (s.timedOut i).st i = { s.st i with recovery := { (s.st i).recovery with stallTimer := none } } := st_upd_self ..

def expirySeries (i : StationId) (x : Station) : Series := ⟨i, .stallTimeout x.recovery.stoppage (chargedOf x.queue).length⟩

theorem exec_stallExpiry_no (inFrame : s.inFrame i = true)
    (no : (s.st i).recovery.stallTimer ≠ some 0 ∨ (s.st i).session.state ≠ .stalled) : exec (.stallTimerExpiry i) s = .next s := by
  have begun : startJob (.stallExpiry i) s = (none, s) := if_neg fun h => no.elim (fun n => n h.1) fun n => n h.2
  refine congrArg Host.Outcome.next ((if_pos inFrame).trans ?_)
  exact workOff_one rfl begun

theorem exec_stallExpiry (inFrame : s.inFrame i = true) (out : (s.st i).recovery.stallTimer = some 0)
    (state : (s.st i).session.state = .stalled) :
    exec (.stallTimerExpiry i) s = .next (workOff [.series (expirySeries i (s.st i))] (s.timedOut i)) := by
  have begun : startJob (.stallExpiry i) s = (some (expirySeries i (s.st i)), s.timedOut i) := if_pos ⟨out, state⟩
  refine congrArg Host.Outcome.next ((if_pos inFrame).trans ?_)
  exact workOff_series rfl begun rfl

/-- The second clause's first part: the expiry with nothing between its credits. -/
theorem expiry_leaves (state : (s.st i).session.state = .stalled) (quiet : s.meanwhile = [] ∨ chargedOf (s.st i).queue = [])
    (t : State) (ends : workOff [.series (expirySeries i (s.st i))] (s.timedOut i) = t) :
    let x := s.st i
    (t.st i).session = Session.ended x.session.number ∧ (t.st i).queue = [] ∧ (t.st i).request = .idle ∧
      (t.st i).recovery = ⟨x.recovery.stoppage, none, .outOfService, false⟩ ∧
      (∀ cause, x.recovery.stoppage = some cause →
        (t.st i).cond.jam = some ⟨.stallTimeout, cause, (x.queue.filter fun e => e.kind == .charged).length⟩) ∧
      (t.st i).cond.session = true ∧
      (x.recovery.availability = .enabled → (t.st i).cond.lineLatest = some (lineState x.line)) ∧
      (t.st i).meters.writtenOff % 1000000000 = (x.meters.writtenOff + (x.queue.map (·.impressions)).sum) % 1000000000 ∧
      (t.st i).meters.sessionsClosed = (x.meters.sessionsClosed + 1) % 1000000000 ∧
      LocalTo i s t ∧ ∃ r, t.journal.records = s.journal.records ++ [r] ∧
      r.journalNumber = s.journal.nextNumber ∧ r.sessionNumber = x.session.number ∧ r.station = i ∧
      r.reason = .stallTimeout ∧ r.closeTime = s.journal.clock ∧ r.stallCount = x.session.stallCount := by
  intro x
  have here := timedOut_st (s := s) (i := i)
  have queue : ((s.timedOut i).st i).queue = x.queue := by rw [here]
  have whole := workOff_series_whole (r := expirySeries i x) (s := s.timedOut i)
    (quiet.imp id fun uncharged => by rw [show (expirySeries i x).station = i from rfl, queue]; exact uncharged)
  rw [show (expirySeries i x).station = i from rfl, queue] at whole
  have begins : LocalTo i s (s.timedOut i) := stopStallTimer_local i s
  have removes := begins.trans (removeAll_local i x.queue (s.timedOut i))
  obtain ⟨removed, left, written, only⟩ := removeAll_removed (i := i) x.queue (s.timedOut i) queue
  rw [here] at removed written
  have journal : (removeAll i x.queue (s.timedOut i)).journal = s.journal := by rw [only]; rfl
  generalize removeAll i x.queue (s.timedOut i) = v at *
  have closes : LocalTo i v (endSeries (expirySeries i x) v) := endSeries_local (expirySeries i x) v
  have all := removes.trans closes
  clear closes begins removes
  have form := endSeries_stallTimeout (cause := x.recovery.stoppage) (n := (chargedOf x.queue).length) (removed.state.trans state) left
  have path : (v.upd i (pathCleared v.idleFull)).st i = pathCleared v.idleFull (v.st i) := st_upd_self ..
  have journal' : (v.upd i (pathCleared v.idleFull)).journal = s.journal := journal
  generalize v.upd i (pathCleared v.idleFull) = w at *
  have station := closeStep_st i .stallTimeout .closed w
  obtain ⟨k, appended, reason, at_, number, journalNumber, closeTime, stalls⟩ := closeStep_appends i .stallTimeout .closed w
  generalize (closingCent i w).1 = cent at station
  generalize (closingCent i w).2.1 = spent at station
  generalize closeStep i .stallTimeout .closed w = c at *
  have out := takenOutOfService_closed x.recovery.stoppage (chargedOf x.queue).length spent cent (w.st i)
  rw [← station] at out
  have result := ends.symm.trans (whole.trans form)
  have at_t : t.st i = _ := (congrArg (State.st · i) result).trans (st_upd_self ..)
  have same : w.st i = pathCleared v.idleFull (v.st i) := path
  rw [pathCleared_rest] at same
  have journalled : t.journal = c.journal := (congrArg State.journal result).trans rfl
  have everywhere : LocalTo i s t := by rw [← ends, whole]; exact all
  rw [← at_t] at out
  obtain ⟨session, queue', request, recovery, jam, told, raised, meters⟩ := out
  rw [same] at session queue' request recovery raised meters number stalls
  refine ⟨?_, queue'.trans left, request, ?_, jam, told, fun enabled => ?_, ?_, ?_, everywhere, k, ?_, ?_, ?_, at_, reason, ?_, ?_⟩
  · exact session.trans (congrArg Session.ended (by rw [removed.session]))
  · exact recovery.trans (by rw [removed.recovery])
  · exact (raised (by rw [removed.recovery]; exact enabled)).trans (congrArg some
      (lineState_congr (by rw [removed.line]) (by rw [removed.line])))
  · rw [meters]
    exact written
  · rw [meters, removed.meters]
  · rw [journalled, appended, journal']
    rfl
  · rw [journalNumber, journal']
  · rw [number, removed.session]
  · rw [closeTime, journal']
  · rw [stalls, removed.session]

end

end Sys2Proof.Machine
end

section
/-!
PROOFS. The stall timer's expiry of an account's session with events in the gap after its first credit (sections 3.6, 5.5 and 6.3).
-/

namespace Sys2Proof.Machine

section
variable {i : StationId} {s t u v c : State} {n k : Nat} {e f : InFlight} {a b : Account} {cause : Option Cause}
  {more : List (List Meanwhile)} {events : List Meanwhile}

/-- What the gap after the first credit of an expiry finds. -/
structure ExpiryCredited (i : StationId) (n : Nat) (e f : InFlight) (a : Account) (tape : List (List Meanwhile))
    (s c : State) : Prop where
  removed : Removed ((s.timedOut i).st i) (c.st i)
  queue : (c.st i).queue = [f]
  session : ∃ lost, (c.st i).session = creditedSession (s.st i).session e lost
  account : findAccount c.accounts n = some { a with balance := min 9999999 (a.balance + unitsReturned (s.st i).session e.price) }
  others : ∀ j, j ≠ i → c.st j = s.st j
  only : CreditsOnly (s.taped tape) c

theorem expiry_firstCredited (tape : List (List Meanwhile)) (state : (s.st i).session.state = .stalled) (one : e.kind = .charged)
    (paid : (s.st i).session.payer = some (.account n)) (found : findAccount s.accounts n = some a) :
    ExpiryCredited i n e f a tape s ((takeBack i e [f] (s.timedOut i)).taped tape) := by
  have here := timedOut_st (s := s) (i := i)
  have credit := takeBack_creditTaken (s := s.timedOut i) (q := [f]) (a := a) one
    (by rw [here]; show (s.st i).session.state ≠ _; rw [state]; nofun) (by rw [here]; exact paid) found
  obtain ⟨removed, left, session, account, -, -, only, local_⟩ := credit
  have others : ∀ j, j ≠ i → (takeBack i e [f] (s.timedOut i)).st j = s.st j := fun j other =>
    (local_ j other).trans (st_upd_ne _ _ other)
  rw [here] at session account
  generalize takeBack i e [f] (s.timedOut i) = c at *
  have only' : CreditsOnly (s.taped tape) (c.taped tape) := (congrArg (State.taped · tape) only).trans rfl
  exact ⟨removed, left, session, account, others, only'⟩

/-- The closing cent and the balance at the end of an expiry. -/
theorem endSeries_stallTimeout_account (empty : (u.st i).queue = []) (state : (u.st i).session.state = .stalled)
    (paid : (u.st i).session.payer = some (.account n)) (found : findAccount u.accounts n = some b) (t : State)
    (ends : endSeries ⟨i, .stallTimeout cause k⟩ u = t) :
    let cent : Int := if 50 ≤ (u.st i).session.fineTotal % 100 ∧ floorOf u.accounts.ranges n ≤ b.balance - 1 then 1 else 0
    (∃ b', findAccount t.accounts n = some b' ∧ b'.balance = b.balance - cent) ∧ t.meanwhile = u.meanwhile ∧
      ∀ j, j ≠ i → t.st j = u.st j := by
  intro cent
  have others := (endSeries_local ⟨i, .stallTimeout cause k⟩ u).others
  rw [ends] at others
  have result := ends.symm.trans (endSeries_stallTimeout (cause := cause) (n := k) state empty)
  have session : ((u.upd i (pathCleared u.idleFull)).st i).session = (u.st i).session := by rw [st_upd_self, pathCleared_rest]
  have accounts : (u.upd i (pathCleared u.idleFull)).accounts = u.accounts := rfl
  have tape : (u.upd i (pathCleared u.idleFull)).meanwhile = u.meanwhile := rfl
  generalize u.upd i (pathCleared u.idleFull) = w at *
  have closed := closeStep_closedWith (i := i) (r := .stallTimeout) (u := w) (payer := .account n) (by rw [session]; exact paid)
  have tape' := closeStep_meanwhile i .stallTimeout .closed w
  generalize closeStep i .stallTimeout .closed w = z at *
  generalize (closingCent i w).1 = mark at closed
  generalize (closingCent i w).2.1 = spent at closed
  obtain ⟨final, -, -, settled, -⟩ := closed
  rw [session] at final
  obtain ⟨cents, -⟩ := finalSpent_account (t := w) (b := b) (n := n) paid (by rw [accounts]; exact found) final
  obtain ⟨updated, -⟩ := settled n b rfl (by rw [accounts]; exact found)
  rw [accounts] at cents
  have posts := postedUnit_eq (total := (u.st i).session.fineTotal) cents
  have units := (congrArg State.accounts result).trans (b := z.accounts) rfl
  have tapes := (congrArg State.meanwhile result).trans (b := z.meanwhile) rfl
  exact ⟨⟨_, (congrArg (findAccount · n) units).trans updated, by rw [posts]⟩, tapes.trans (tape'.trans tape), others⟩

end

section
variable {i : StationId} {s c : State} {n : Nat} {e f : InFlight} {a : Account} {more : List (List Meanwhile)} {events : List Meanwhile}

/-- An expiry of two credits whose first gap leaves the station as it is: the second credit and the closing cent are taken on the
balance that the gap leaves. -/
theorem expiry_two (state : (s.st i).session.state = .stalled) (queue : (s.st i).queue = [e, f]) (one : e.kind = .charged)
    (two : f.kind = .charged) (paid : (s.st i).session.payer = some (.account n)) (found : findAccount s.accounts n = some a)
    (tape : s.meanwhile = events :: [] :: more) :
    ∃ c, ExpiryCredited i n e f a ([] :: more) s c ∧ ∀ (v : State) (b : Account),
      events.foldl takeInGap ⟨[.series (expirySeries i (s.st i))], c⟩ = ⟨[.series (expirySeries i (s.st i))], v⟩ →
      v.st i = c.st i → findAccount v.accounts n = some b → v.accounts.ranges = s.accounts.ranges → v.meanwhile = [] :: more →
      ∀ t, workOff [.series (expirySeries i (s.st i))] (s.timedOut i) = t →
      let x := s.st i
      let after := creditedSession (creditedSession x.session e 0) f 0
      let second := min 9999999 (b.balance + unitsReturned (creditedSession x.session e 0) f.price)
      let cent := if 50 ≤ after.fineTotal % 100 ∧ floorOf s.accounts.ranges n ≤ second - 1 then 1 else 0
      ((∃ b', findAccount t.accounts n = some b' ∧ b'.balance = second - cent) ∧ t.meanwhile = more) ∧
        ∀ j, j ≠ i → t.st j = v.st j := by
  have credited := expiry_firstCredited (f := f) ([] :: more) state one paid found
  have off := fun v b => workOff_credits (v := v) (b := b) (r := expirySeries i (s.st i)) (s := s.timedOut i) (n := n)
    (by show ((s.timedOut i).st i).queue = _; rw [timedOut_st]; exact queue) one two tape
  rw [show (expirySeries i (s.st i)).station = i from rfl] at off
  refine ⟨_, credited, ?_⟩
  generalize (takeBack i e [f] (s.timedOut i)).taped ([] :: more) = c at credited off
  obtain ⟨removed, left, ⟨lost, session⟩, account, -, -⟩ := credited
  rw [timedOut_st] at removed
  intro v b gap at_ stored ranges tape' t ends x after second cent
  obtain ⟨u, whole, ⟨removed', left', ⟨lost', session'⟩, account', -, ranges', -, others'⟩, taped⟩ := off v b gap
    (by rw [at_]; exact left) (by rw [at_, removed.state]; show (s.st i).session.state ≠ _; rw [state]; nofun)
    (by rw [at_]; exact removed.payer.trans paid) stored tape'
  have there : (v.taped more).st i = c.st i := at_
  rw [there] at removed' session' account'
  obtain ⟨balance, tapes, others⟩ := endSeries_stallTimeout_account left' (removed'.state.trans (removed.state.trans state))
    (removed'.payer.trans (removed.payer.trans paid)) account' t (whole.symm.trans ends)
  have floors : u.accounts.ranges = s.accounts.ranges := ranges'.trans ranges
  have fine : (u.st i).session.fineTotal = after.fineTotal := by rw [session', session]; rfl
  have back : unitsReturned (c.st i).session f.price = unitsReturned (creditedSession x.session e 0) f.price := by rw [session]; rfl
  rw [fine, floors, back] at balance
  exact ⟨⟨balance, tapes.trans taped⟩, fun j other => (others j other).trans (others' j other)⟩

end

end Sys2Proof.Machine
end

section
/-!
PROOFS. A pick, and the exits of a DRAINING session, in the gap of another session's expiry (sections 2.5, 3.7, 4.2 and 5.5).
-/

namespace Sys2Proof.Machine

section
variable {j : StationId} {c : State} {n base : Nat} {a : Account} {k : Fin 8} {p : SheetSpec}

/-- The state in which a pick raised in a gap is evaluated. -/
def State.pickAsking (c : State) (j : StationId) (p : SheetSpec) : State :=
  c.upd j fun x => asked c.idleFull { x with line := raiseLatch p x.line }

theorem pickAsking_st : (c.pickAsking j p).st j = asked c.idleFull { c.st j with line := raiseLatch p (c.st j).line } := st_upd_self ..

theorem pickAt_evaluated (present : (c.st j).line.present = true) (latch : (c.st j).line.latch = .idle) {v : Verdict} {t : State}
    (evaluated : evaluate j p (c.pickAsking j p) = (v, t)) (decided : ∀ w, v ≠ .wait w) :
    pickAt j p c = t.upd j (lineAnswered (nextSerial (c.st j).line) v) := by
  unfold pickAt
  dsimp only
  rw [if_pos ⟨present, latch⟩, pickRaised, setRequest_activity, State.updLine, upd_upd]
  unfold State.pickAsking at evaluated
  rw [idleFull_upd, evaluated]
  cases v with
  | wait w => exact absurd rfl (decided w)
  | go => exact answerLine_eq ..
  | stop r => exact answerLine_eq ..

theorem chargedSession_payer (x : Session) (p : SheetSpec) (price : Nat) : (chargedSession x p price).payer = x.payer := rfl

/-- What a pick of an account's session that posts `delta` minor units does in a gap. -/
structure PickJudged (j : StationId) (n : Nat) (a : Account) (p : SheetSpec) (price delta : Nat) (c u : State) : Prop where
  latch : (u.st j).line.latch =
    (if delta = 0 ∨ floorOf c.accounts.ranges n ≤ a.balance - delta then .answeredGo else .answeredStop .funds)
  queue : (u.st j).queue = (if delta = 0 ∨ floorOf c.accounts.ranges n ≤ a.balance - delta
    then (c.st j).queue ++ [sheetEntry c .charged p price] else (c.st j).queue)
  account : findAccount u.accounts n = some { a with
    balance := if delta = 0 ∨ floorOf c.accounts.ranges n ≤ a.balance - delta then a.balance - delta else a.balance }
  ranges : u.accounts.ranges = c.accounts.ranges
  meanwhile : u.meanwhile = c.meanwhile

theorem pickAt_account (present : (c.st j).line.present = true) (latch : (c.st j).line.latch = .idle)
    (state : (c.st j).session.state = .opened) (hold : (c.st j).hold = .none) (tariff : (c.st j).session.tariffClass = some k)
    (room : (c.st j).queue.length < 8) (sides : p.sides = 1 ∨ p.sides = 2)
    (priced : basePrice c.charge k p.media p.colour = some base)
    (within : ¬ PastLimits (c.st j).session p (costOf c k base (c.st j).session p))
    (payer : (c.st j).session.payer = some (.account n)) (found : findAccount c.accounts n = some a) :
    PickJudged j n a p (costOf c k base (c.st j).session p) (unitsPosted (c.st j).session (costOf c k base (c.st j).session p)) c
      (pickAt j p c) := by
  have here := pickAsking_st (c := c) (j := j) (p := p)
  have session : ((c.pickAsking j p).st j).session = (c.st j).session := by rw [here]; rfl
  have queue : ((c.pickAsking j p).st j).queue = (c.st j).queue := by rw [here]; rfl
  have held : ((c.pickAsking j p).st j).hold = (c.st j).hold := by rw [here]; rfl
  have raised : ((c.pickAsking j p).st j).line.latch = .raised (nextSerial (c.st j).line) p false := by rw [here]; rfl
  have charge := evaluate_charge (i := j) (s := c.pickAsking j p) (by rw [session]; exact state) (by rw [held]; exact hold) sides
    (by rw [queue]; exact room)
  have funds := fundsCheck_account (s := c.pickAsking j p) (delta := unitsPosted (c.st j).session (costOf c k base (c.st j).session p))
    payer found
  by_cases covers : unitsPosted (c.st j).session (costOf c k base (c.st j).session p) = 0 ∨
      floorOf c.accounts.ranges n ≤ a.balance - unitsPosted (c.st j).session (costOf c k base (c.st j).session p)
  · rw [if_pos (by exact covers)] at funds
    have go := evaluateCharge_go (i := j) (s := c.pickAsking j p) (by rw [session]; exact tariff) priced
      (by rw [session]; exact within) (by rw [session]; exact funds)
    rw [session] at go
    dsimp only at go
    rw [if_neg (by rw [chargedSession_payer, payer]; nofun)] at go
    have result := pickAt_evaluated present latch (charge.trans go) nofun
    have stored := (findAccount_put (n := n) (a := { a with balance := a.balance - unitsPosted (c.st j).session (costOf c k base (c.st j).session p) })
      (show a.number = n from findAccount_number found) (c.pickAsking j p)).1
    have same : (putAccount { a with balance := a.balance - unitsPosted (c.st j).session (costOf c k base (c.st j).session p) }
      (c.pickAsking j p)).st j = (c.pickAsking j p).st j := rfl
    rw [result]
    refine ⟨?_, ?_, ?_, rfl, rfl⟩
    · rw [if_pos covers, st_upd_self, st_upd_self, same]
      exact (congrArg (answerLatch _ .go) ((chargedAt_latch ..).trans raised)).trans (if_pos rfl)
    · rw [if_pos covers, st_upd_self, st_upd_self, same]
      exact (chargedAt_queue ..).trans (by rw [queue]; rfl)
    · rw [if_pos covers]
      exact stored
  · rw [if_neg (by exact covers)] at funds
    have short := evaluateCharge_short (i := j) (s := c.pickAsking j p) (by rw [session]; exact tariff) priced
      (by rw [session]; exact within) (by rw [session]; exact funds)
    rw [answerShort_notCard (by rw [session, payer]; rfl)] at short
    have result := pickAt_evaluated present latch (charge.trans short) nofun
    rw [result]
    refine ⟨?_, ?_, ?_, rfl, rfl⟩
    · rw [if_neg covers, st_upd_self]
      exact (congrArg (answerLatch _ (.stop .funds)) raised).trans (if_pos rfl)
    · rw [if_neg covers, st_upd_self]
      exact queue
    · rw [if_neg covers]
      exact found

end

section
variable {i j : StationId} {s c : State} {n base : Nat} {e f g : InFlight} {a : Account} {k : Fin 8} {p : SheetSpec} {r : CloseReason}
  {more : List (List Meanwhile)}

/-- What an expiry's end leaves of the account, the second credit being taken on `left`. -/
def ExpiryEnds (i : StationId) (n : Nat) (e f : InFlight) (s : State) (more : List (List Meanwhile)) (left : Int) (t : State) : Prop :=
  let x := s.st i
  let after := creditedSession (creditedSession x.session e 0) f 0
  let second := min 9999999 (left + unitsReturned (creditedSession x.session e 0) f.price)
  let cent := if 50 ≤ after.fineTotal % 100 ∧ floorOf s.accounts.ranges n ≤ second - 1 then 1 else 0
  (∃ b, findAccount t.accounts n = some b ∧ b.balance = second - cent) ∧ t.meanwhile = more

/-- The first clause on the tape of the gaps: a pick of another session on the account. -/
theorem expiry_pick (state : (s.st i).session.state = .stalled) (queue : (s.st i).queue = [e, f]) (one : e.kind = .charged)
    (two : f.kind = .charged) (paid : (s.st i).session.payer = some (.account n)) (found : findAccount s.accounts n = some a)
    (other : j ≠ i) (inFrame : s.inFrame j = true) (tape : s.meanwhile = [.pick j p] :: [] :: more)
    (present : (s.st j).line.present = true) (latch : (s.st j).line.latch = .idle)
    (opened : (s.st j).session.state = .opened) (hold : (s.st j).hold = .none) (tariff : (s.st j).session.tariffClass = some k)
    (room : (s.st j).queue.length < 8) (sides : p.sides = 1 ∨ p.sides = 2)
    (priced : basePrice s.charge k p.media p.colour = some base)
    (within : ¬ PastLimits (s.st j).session p (costOf s k base (s.st j).session p))
    (payer : (s.st j).session.payer = some (.account n)) (t : State)
    (ends : workOff [.series (expirySeries i (s.st i))] (s.timedOut i) = t) :
    let y := s.st j
    let first := min 9999999 (a.balance + unitsReturned (s.st i).session e.price)
    let price := costOf s k base y.session p
    let delta := unitsPosted y.session price
    let taken : Bool := delta = 0 ∨ floorOf s.accounts.ranges n ≤ first - delta
    (t.st j).line.latch = (if taken then .answeredGo else .answeredStop .funds) ∧
      (t.st j).queue = (if taken then y.queue ++ [sheetEntry s .charged p price] else y.queue) ∧
      ExpiryEnds i n e f s more (if taken then first - delta else first) t := by
  intro y first price delta taken
  obtain ⟨c, credited, off⟩ := expiry_two state queue one two paid found tape
  have there : c.st j = s.st j := credited.others j other
  have only := credited.only
  have ranges : c.accounts.ranges = s.accounts.ranges := by rw [only]; rfl
  have charge : c.charge = s.charge := by rw [only]; rfl
  have host : c.host = s.host := by rw [only]; rfl
  have tape' : c.meanwhile = [] :: more := by rw [only]; rfl
  have cost : costOf c k base (c.st j).session p = price := by rw [there, costOf, charge]; rfl
  have judged := pickAt_account (c := c) (j := j) (base := base) (p := p) (by rw [there]; exact present) (by rw [there]; exact latch)
    (by rw [there]; exact opened) (by rw [there]; exact hold) (by rw [there]; exact tariff) (by rw [there]; exact room) sides
    (by rw [charge]; exact priced) (by rw [cost, there]; exact within) (by rw [there]; exact payer) credited.account
  rw [cost, there] at judged
  have here := (pickAt_local j p c).others i other.symm
  have gap : takeInGap ⟨[.series (expirySeries i (s.st i))], c⟩ (.pick j p) =
      ⟨[.series (expirySeries i (s.st i))], pickAt j p c⟩ := by
    have may : admitted ⟨[.series (expirySeries i (s.st i))], c⟩ (.pick j p) = true :=
      decide_eq_true (mt List.mem_singleton.1 other)
    rw [takeInGap_admitted rfl may]
    exact congrArg (Work.mk _) (if_pos (by rw [State.inFrame, State.frameSize, host]; exact inFrame))
  obtain ⟨balance, others⟩ := off (pickAt j p c) _ gap here judged.account (judged.ranges.trans ranges) (judged.meanwhile.trans tape') t ends
  have entry : sheetEntry c .charged p price = sheetEntry s .charged p price := by rw [sheetEntry, sheetEntry, host]
  obtain ⟨latch', queue', -, -, -⟩ := judged
  rw [ranges] at latch' queue' balance
  rw [there, entry] at queue'
  rw [others j other]
  simp only [taken, decide_eq_true_iff]
  exact ⟨latch', queue', balance⟩

/-- The only sheet of a DRAINING session leaves in a gap: the session closes. -/
theorem exitsEvent_closes (queue : (c.st j).queue = [g]) (charged : g.kind = .charged) (idle : (c.st j).request = .idle)
    (hold : (c.st j).hold = .none) (state : (c.st j).session.state = .draining) (reason : (c.st j).session.closeReason = some r) :
    exitsEvent j 1 c = closeStep j r .closed (c.upd j fun x => headDelivered c.idleFull g [] (reloaded c.idleFull x)) := by
  have here : (activity j c).st j = reloaded c.idleFull (c.st j) := st_upd_self ..
  have path : (activity j c).upd j (headDelivered (activity j c).idleFull g []) =
      c.upd j fun x => headDelivered c.idleFull g [] (reloaded c.idleFull x) := by rw [activity_eq, upd_upd]; rfl
  have there : (c.upd j fun x => headDelivered c.idleFull g [] (reloaded c.idleFull x)).st j =
      headDelivered c.idleFull g [] (reloaded c.idleFull (c.st j)) := st_upd_self ..
  refine (if_neg Nat.one_ne_zero).trans (exits_one_delivers (by rw [here]; exact queue) ?_ ?_)
  · rw [path, show isCharged g = true from beq_iff_eq.2 charged]
    exact afterRemoval_closes (by rw [there]; exact state) (by rw [there]; exact reason) (by rw [there]; exact fun f member => nomatch member)
      (by rw [there]; exact idle) (by rw [there]; exact hold)
  · have left := (closeStep_pathKeeps j r .closed (c.upd j fun x => headDelivered c.idleFull g [] (reloaded c.idleFull x))).queue
    rw [there] at left
    rw [left]
    exact fun f head => nomatch head

/-- The second clause on the tape of the gaps: the last sheet of another session on the account leaves, and that session closes. -/
theorem expiry_exits (state : (s.st i).session.state = .stalled) (queue : (s.st i).queue = [e, f]) (one : e.kind = .charged)
    (two : f.kind = .charged) (paid : (s.st i).session.payer = some (.account n)) (found : findAccount s.accounts n = some a)
    (other : j ≠ i) (inFrame : s.inFrame j = true) (tape : s.meanwhile = [.exits j 1] :: [] :: more)
    (present : (s.st j).line.present = true) (hold : (s.st j).hold = .none) (idle : (s.st j).request = .idle)
    (draining : (s.st j).session.state = .draining) (reason : (s.st j).session.closeReason = some r) (path : (s.st j).queue = [g])
    (charged : g.kind = .charged) (payer : (s.st j).session.payer = some (.account n)) (t : State)
    (ends : workOff [.series (expirySeries i (s.st i))] (s.timedOut i) = t) :
    let y := s.st j
    let first := min 9999999 (a.balance + unitsReturned (s.st i).session e.price)
    let posted : Bool := 50 ≤ y.session.fineTotal % 100 ∧ floorOf s.accounts.ranges n ≤ first - 1
    (t.st j).session = Session.ended y.session.number ∧ (t.st j).queue = [] ∧
      ExpiryEnds i n e f s more (if posted then first - 1 else first) t := by
  intro y first posted
  obtain ⟨c, credited, off⟩ := expiry_two state queue one two paid found tape
  have there : c.st j = s.st j := credited.others j other
  have only := credited.only
  have ranges : c.accounts.ranges = s.accounts.ranges := by rw [only]; rfl
  have host : c.host = s.host := by rw [only]; rfl
  have tape' : c.meanwhile = [] :: more := by rw [only]; rfl
  have closes := exitsEvent_closes (c := c) (j := j) (r := r) (by rw [there]; exact path) charged (by rw [there]; exact idle)
    (by rw [there]; exact hold) (by rw [there]; exact draining) (by rw [there]; exact reason)
  have here := (exitsEvent_local j 1 c).others i other.symm
  have gap : takeInGap ⟨[.series (expirySeries i (s.st i))], c⟩ (.exits j 1) =
      ⟨[.series (expirySeries i (s.st i))], exitsEvent j 1 c⟩ := by
    have may : admitted ⟨[.series (expirySeries i (s.st i))], c⟩ (.exits j 1) = true :=
      decide_eq_true (mt List.mem_singleton.1 other)
    rw [takeInGap_admitted rfl may]
    exact congrArg (Work.mk _) ((if_pos (by rw [State.inFrame, State.frameSize, host]; exact inFrame)).trans
      (if_pos (by rw [there]; exact present)))
  have at_ : (c.upd j fun x => headDelivered c.idleFull g [] (reloaded c.idleFull x)).st j =
      headDelivered c.idleFull g [] (reloaded c.idleFull (s.st j)) := (st_upd_self ..).trans (by rw [there])
  have units : (c.upd j fun x => headDelivered c.idleFull g [] (reloaded c.idleFull x)).accounts = c.accounts := rfl
  have taped : (c.upd j fun x => headDelivered c.idleFull g [] (reloaded c.idleFull x)).meanwhile = c.meanwhile := rfl
  generalize c.upd j (fun x => headDelivered c.idleFull g [] (reloaded c.idleFull x)) = w at *
  have session : (w.st j).session = y.session := by rw [at_]; rfl
  have closed := closeStep_closedWith (i := j) (r := r) (u := w) (payer := .account n) (by rw [session]; exact payer)
  have taped' := closeStep_meanwhile j r .closed w
  have floors : (closeStep j r .closed w).accounts.ranges = w.accounts.ranges := (closeStep_local j r .closed w).ranges
  rw [← closes] at closed taped' floors
  generalize exitsEvent j 1 c = v at *
  generalize (closingCent j w).1 = mark at closed
  generalize (closingCent j w).2.1 = spent at closed
  obtain ⟨final, station, -, settled, -⟩ := closed
  rw [session] at final
  obtain ⟨cents, -⟩ := finalSpent_account (t := w) (n := n) payer (by rw [units]; exact credited.account) final
  obtain ⟨updated, -⟩ := settled n _ rfl (by rw [units]; exact credited.account)
  rw [units, ranges] at cents
  have posts := postedUnit_eq (total := y.session.fineTotal) cents
  obtain ⟨balance, others⟩ := off v _ gap here updated (floors.trans ((congrArg AccountUnit.ranges units).trans ranges))
    (taped'.trans (taped.trans tape')) t ends
  rw [closedAt_rest, at_] at station
  rw [others j other, station]
  have left : (if posted then first - 1 else first) = first - (if mark = .posted then 1 else 0) := by
    rw [posts]
    simp only [posted, decide_eq_true_iff]
    split <;> simp
  rw [left]
  exact ⟨rfl, rfl, balance⟩

end

end Sys2Proof.Machine
end

section
/-!
PROOFS. The credits of an expiry and of a recovery of another session on the same account, one by one (sections 3.6, 5.4 and 5.5).
-/

namespace Sys2Proof.Machine

section
variable {i j : StationId} {s t u : State} {n : Nat} {e f g h : InFlight} {q : List InFlight} {a : Account} {ri rj : Series} {cause : Cause}

/-! ## The jobs -/

theorem joinJobs_two (other : ri.station ≠ rj.station) : joinJobs rj [.series ri] = [.series ri, .series rj] := by
  have before : ((Job.series ri).station != some rj.station) = true := bne_iff_ne.2 fun same => other (Option.some_inj.1 same)
  simp [joinJobs, List.takeWhile, before]

theorem takeInGap_advance (other : ri.station ≠ rj.station) (s : State) :
    takeInGap ⟨[.series ri, .series rj], s⟩ (.advance rj.station) =
      ⟨.series ri :: (seriesOn rj [] s).jobs, (seriesOn rj [] s).state⟩ := by
  have first : ¬ (Job.series ri).station = some rj.station := fun same => other (Option.some_inj.1 same)
  rw [takeInGap_admitted rfl rfl]
  show advance _ rj.station [.series ri, .series rj] s = _
  have second : ∀ b, advance b rj.station [.series rj] s = seriesOn rj [] s := fun b => by
    rw [advance]
    exact if_pos rfl
  rw [advance, if_neg first, second]

theorem seriesOn_credit (queue : (s.st rj.station).queue = g :: q) (charged : g.kind = .charged) :
    seriesOn rj [] s = ⟨[.series rj], takeBack rj.station g q s⟩ := by
  have next : creditNext rj.station (g :: q) s = (true, takeBack rj.station g q s) :=
    if_pos (by rw [isCharged, charged]; rfl)
  rw [seriesOn, queue, next]
  rfl

theorem seriesOn_ends (queue : (s.st rj.station).queue = []) : seriesOn rj [] s = ⟨[], endSeries rj s⟩ := by
  rw [seriesOn, queue]
  exact congrArg (Work.mk · (endSeries rj s)) (ite_self _)

/-- Station `j` with READY confirmed and its stall timer stopped, as the series of its recovery begins in a gap. -/
def State.recoveringInGap (s : State) (j : StationId) : State :=
  stopStallTimer j (s.updLine j fun l => { l with confirmed := some .ready, candidate := none })

theorem recoveringInGap_st : (s.recoveringInGap j).st j = { s.st j with
    line := { (s.st j).line with confirmed := some .ready, candidate := none }
    recovery := { (s.st j).recovery with stallTimer := none } } := by
  rw [State.recoveringInGap, stopStallTimer, State.updRecovery, State.updLine, upd_upd, st_upd_self]

/-- READY confirmed in a gap at a stopped station with a CHARGED entry: its recovery joins the jobs. -/
theorem takeInGap_recovered (other : j ≠ ri.station) (inFrame : s.inFrame j = true) (present : (s.st j).line.present = true)
    (confirmed : (s.st j).line.confirmed ≠ some .ready) (stopped : (s.st j).recovery.stoppage = some cause)
    (queue : (s.st j).queue = g :: q) (charged : g.kind = .charged) :
    takeInGap ⟨[.series ri], s⟩ (.recovered j false) =
      ⟨[.series ri, .series (recoverySeries j cause (s.st j))], s.recoveringInGap j⟩ := by
  have may : admitted ⟨[.series ri], s⟩ (.recovered j false) = true := decide_eq_true (mt List.mem_singleton.1 other)
  have begun : codeAt j .ready s = (some (recoverySeries j cause (s.st j)), s.recoveringInGap j) := by
    refine (if_pos ⟨inFrame, present, confirmed, nofun⟩).trans ?_
    have at_ : (s.updLine j fun l => { l with confirmed := some .ready, candidate := none }).st j =
      { s.st j with line := { (s.st j).line with confirmed := some .ready, candidate := none } } := st_upd_self ..
    rw [codeConfirmed, at_]
    show (match (s.st j).recovery.stoppage with | some c => _ | none => _) = _
    rw [stopped]
    rfl
  rw [takeInGap_admitted rfl may]
  show Work.joined ⟨[.series ri], s⟩ (codeAt j .ready s) = _
  rw [begun, Work.joined]
  dsimp only
  rw [if_pos, joinJobs_two other.symm]
  rw [show (recoverySeries j cause (s.st j)).station = j from rfl, recoveringInGap_st]
  show (s.st j).queue.any _ = true
  rw [queue, List.any_cons, charged]
  rfl

/-! ## The SHOW of a credit -/

/-- The SHOW of a session's spent and of the funds that a balance leaves account `n`. -/
def fundsShown (s : State) (n : Nat) (x : Session) (balance : Int) : DownMsg :=
  .showing x.spent (balance - floorOf s.accounts.ranges n).toNat

theorem takeBack_down (charged : e.kind = .charged) (live : (s.st i).session.state ≠ .none)
    (paid : (s.st i).session.payer = some (.account n)) (found : findAccount s.accounts n = some a)
    (present : (s.st i).line.present = true) (room : (s.st i).line.down.length < 4) :
    ((takeBack i e q s).st i).line.down = (s.st i).line.down ++
      [fundsShown s n (creditedSession (s.st i).session e 0) (min 9999999 (a.balance + unitsReturned (s.st i).session e.price))] := by
  have here : (creditWorld (s.st i).session e s).st i = s.st i := by rw [creditWorld_stations]; rfl
  have shown := creditShown_account (e := e) paid found (findAccount_number found)
  rw [takeBack_charged charged live, st_upd_self, here, takenBack_shown fun _ => room]
  show (shownLine _ (creditShown s (s.st i).session e) (s.st i).line).down = _
  rw [shown, shownLine, if_pos present]
  rfl

/-- A credit to account `n` with its SHOW. -/
structure CreditShown (i : StationId) (n : Nat) (e : InFlight) (q : List InFlight) (a : Account) (s t : State) : Prop
    extends CreditTaken i n e q a s t where
  down : (t.st i).line.down = (s.st i).line.down ++
    [fundsShown s n (creditedSession (s.st i).session e 0) (min 9999999 (a.balance + unitsReturned (s.st i).session e.price))]

theorem takeBack_creditShown (charged : e.kind = .charged) (live : (s.st i).session.state ≠ .none)
    (paid : (s.st i).session.payer = some (.account n)) (found : findAccount s.accounts n = some a)
    (present : (s.st i).line.present = true) (room : (s.st i).line.down.length < 4) :
    CreditShown i n e q a s (takeBack i e q s) :=
  ⟨takeBack_creditTaken charged live paid found, takeBack_down charged live paid found present room⟩

end

end Sys2Proof.Machine
end

section
/-!
PROOFS. The credits of an expiry and of a recovery of another session on the same account taken in turn (sections 3.6, 5.4 and 5.5).
-/

namespace Sys2Proof.Machine

section
variable {i j : StationId} {s t u s0 c1 c2 c3 c4 c5 c6 : State} {n : Nat} {e f g h : InFlight} {q : List InFlight} {a : Account} {ri rj : Series} {cause : Cause}
  {more : List (List Meanwhile)}

/-- The jobs of an expiry into whose gaps a recovery of station `j` comes, the credits of the two alternating. -/
theorem workOff_alternating (atI : ri.station = i) (atJ : rj.station = j) (other : i ≠ j)
    (tape : s0.meanwhile = [.recovered j false, .advance j] :: [.advance j, .advance j] :: more)
    (queue : (s0.st i).queue = [e, f]) (one : e.kind = .charged) (two : f.kind = .charged) (three : g.kind = .charged)
    (four : h.kind = .charged)
    (joins : takeInGap ⟨[.series ri], c1⟩ (.recovered j false) = ⟨[.series ri, .series rj], c2⟩)
    (is1 : (takeBack i e [f] s0).taped ([.advance j, .advance j] :: more) = c1)
    (path2 : (c2.st j).queue = [g, h]) (is3 : takeBack j g [h] c2 = c3) (left3 : (c3.st i).queue = [f])
    (tape3 : c3.meanwhile = [.advance j, .advance j] :: more) (is4 : (takeBack i f [] c3).taped more = c4)
    (path4 : (c4.st j).queue = [h]) (is5 : takeBack j h [] c4 = c5) (path5 : (c5.st j).queue = []) (is6 : endSeries rj c5 = c6)
    (left6 : (c6.st i).queue = []) : workOff [.series ri] s0 = endSeries ri c6 := by
  subst atI atJ
  have gap1 : [Meanwhile.recovered rj.station false, .advance rj.station].foldl takeInGap ⟨[.series ri], c1⟩ =
      ⟨[.series ri, .series rj], c3⟩ := by
    rw [List.foldl_cons, List.foldl_cons, List.foldl_nil, joins, takeInGap_advance other, seriesOn_credit path2 three, is3]
  have gap2 : [Meanwhile.advance rj.station, .advance rj.station].foldl takeInGap ⟨[.series ri, .series rj], c4⟩ =
      ⟨[.series ri], c6⟩ := by
    rw [List.foldl_cons, List.foldl_cons, List.foldl_nil, takeInGap_advance other, seriesOn_credit path4 four, is5, takeInGap_advance other, seriesOn_ends path5, is6]
  rw [workOff, tape]
  show workOffWithin (more.length + 1 + 1) _ = _
  rw [workOffWithin_credit rfl queue one tape, is1, gap1, workOffWithin_credit rfl left3 two tape3, is4, gap2]
  exact workOffWithin_ends left6 _

/-- A recovery that reopens its session in a gap. -/
theorem endSeries_reopens_at {k : Nat} (idle : (s.st j).request = .idle) (empty : (s.st j).queue = [])
    (state : (s.st j).session.state = .stalled) (pending : (s.st j).session.closePending = none) (t : State)
    (ends : endSeries ⟨j, .recovery cause k⟩ s = t) :
    (t.st j).session.state = .opened ∧ (t.st j).line.down = (s.st j).line.down ∧ (t.st j).recovery.stoppage = none ∧
      t.accounts = s.accounts ∧ t.meanwhile = s.meanwhile ∧ ∀ i, i ≠ j → t.st i = s.st i := by
  have result := ends.symm.trans (endSeries_reopens (cause := cause) (n := k) idle empty state pending)
  have here := (congrArg (State.st · j) result).trans (st_upd_self ..)
  rw [holdMoved_rest] at here
  refine ⟨?_, ?_, ?_, (congrArg State.accounts result).trans rfl, (congrArg State.meanwhile result).trans rfl, fun i other => ?_⟩
  · rw [here]
    rfl
  · rw [here]
    rfl
  · rw [here]
    rfl
  · rw [result]
    exact st_upd_ne _ _ other

theorem takenOutOfService_line (c : Option Cause) (k : Nat) (x : Station) : (takenOutOfService c k x).line = x.line := by
  unfold takenOutOfService availabilitySet
  split <;> rfl

/-- The CLOSED at the end of an expiry goes behind the messages that wait. -/
theorem endSeries_stallTimeout_down {c : Option Cause} {k : Nat} (empty : (s.st i).queue = [])
    (state : (s.st i).session.state = .stalled) (present : (s.st i).line.present = true) (room : (s.st i).line.down.length < 4)
    (t : State) (ends : endSeries ⟨i, .stallTimeout c k⟩ s = t) : ∃ m, (t.st i).line.down = (s.st i).line.down ++ [m] := by
  have here := (congrArg (State.st · i) (ends.symm.trans (endSeries_stallTimeout (cause := c) (n := k) state empty))).trans (st_upd_self ..)
  have path : (s.upd i (pathCleared s.idleFull)).st i = _ := (st_upd_self ..).trans (pathCleared_rest ..)
  have down := closedAt_down_room (cancel := .closed) (spent := (closingCent i (s.upd i (pathCleared s.idleFull))).2.1)
    (cent := (closingCent i (s.upd i (pathCleared s.idleFull))).1) (x := (s.upd i (pathCleared s.idleFull)).st i)
    (by rw [path]; exact present) (by rw [path]; exact room)
  rw [← closeStep_st i .stallTimeout] at down
  have kept : ((s.upd i (pathCleared s.idleFull)).st i).line.down = (s.st i).line.down := by rw [path]
  have line := (congrArg Station.line here).trans (takenOutOfService_line ..)
  exact ⟨_, (congrArg StationLine.down line).trans (down.trans (by rw [kept]))⟩

/-- The third clause on the tape of the gaps: a recovery of another session on the account, its credits alternating with those of
the expiry. -/
theorem expiry_recovered (state : (s.st i).session.state = .stalled) (queue : (s.st i).queue = [e, f]) (one : e.kind = .charged)
    (two : f.kind = .charged) (paid : (s.st i).session.payer = some (.account n)) (found : findAccount s.accounts n = some a)
    (other : j ≠ i) (inFrame : s.inFrame j = true)
    (tape : s.meanwhile = [.recovered j false, .advance j] :: [.advance j, .advance j] :: more)
    (present : (s.st j).line.present = true) (payer : (s.st j).session.payer = some (.account n))
    (stopped : (s.st j).recovery.stoppage = some cause) (confirmed : (s.st j).line.confirmed ≠ some .ready)
    (stalled : (s.st j).session.state = .stalled) (pending : (s.st j).session.closePending = none)
    (idle : (s.st j).request = .idle) (path : (s.st j).queue = [g, h]) (three : g.kind = .charged) (four : h.kind = .charged)
    (here : (s.st i).line.present = true) (down : (s.st i).line.down = []) (down' : (s.st j).line.down = []) (t : State)
    (ends : workOff [.series (expirySeries i (s.st i))] (s.timedOut i) = t) :
    let x := s.st i
    let y := s.st j
    let first := min 9999999 (a.balance + unitsReturned x.session e.price)
    let after := creditedSession (creditedSession x.session e 0) f 0
    let second := min 9999999 (first + unitsReturned y.session g.price)
    let third := min 9999999 (second + unitsReturned (creditedSession x.session e 0) f.price)
    let fourth := min 9999999 (third + unitsReturned (creditedSession y.session g 0) h.price)
    let cent := if 50 ≤ after.fineTotal % 100 ∧ floorOf s.accounts.ranges n ≤ fourth - 1 then 1 else 0
    (t.st i).line.down.take 2 = [fundsShown s n (creditedSession x.session e 0) first, fundsShown s n after third] ∧
    (t.st j).line.down = [fundsShown s n (creditedSession y.session g 0) second,
      fundsShown s n (creditedSession (creditedSession y.session g 0) h 0) fourth] ∧
    (t.st j).session.state = .opened ∧ (t.st j).recovery.stoppage = none ∧
    (∃ b, findAccount t.accounts n = some b ∧ b.balance = fourth - cent) ∧ t.meanwhile = more := by
  intro x y first after second third fourth cent
  have start := timedOut_st (s := s) (i := i)
  have there : (s.timedOut i).st j = s.st j := st_upd_ne _ _ other
  have units : (s.timedOut i).accounts = s.accounts := rfl
  have queue' : ((s.timedOut i).st i).queue = [e, f] := by rw [start]; exact queue
  have off := fun c1 c2 c3 c4 c5 c6 => workOff_alternating (c1 := c1) (c2 := c2) (c3 := c3) (c4 := c4) (c5 := c5) (c6 := c6)
    (ri := expirySeries i x) (rj := recoverySeries j cause y) (i := i) (j := j) (s0 := s.timedOut i) rfl rfl other.symm tape
    queue' one two three four
  have credit1 := takeBack_creditShown (s := s.timedOut i) (i := i) (q := [f]) (a := a) one
    (by rw [start]; show x.session.state ≠ _; rw [state]; nofun) (by rw [start]; exact paid) found (by rw [start]; exact here)
    (by rw [start]; show x.line.down.length < 4; rw [down]; decide)
  generalize is1 : takeBack i e [f] (s.timedOut i) = d1 at credit1
  obtain ⟨⟨removed1, left1, ⟨lost1, session1⟩, account1, -, ranges1, only1, others1⟩, shown1⟩ := credit1
  rw [start] at removed1 session1 account1 shown1
  have at1 : (d1.taped ([.advance j, .advance j] :: more)).st j = y := (others1 j other).trans there
  have joins := takeInGap_recovered (ri := expirySeries i x) (s := d1.taped ([.advance j, .advance j] :: more)) (j := j) (cause := cause)
    other (by rw [only1]; exact inFrame) (by rw [at1]; exact present) (by rw [at1]; exact confirmed) (by rw [at1]; exact stopped)
    (by rw [at1]; exact path) three
  rw [at1] at joins
  have station2 := recoveringInGap_st (s := d1.taped ([.advance j, .advance j] :: more)) (j := j)
  rw [at1] at station2
  have other2 : ((d1.taped ([.advance j, .advance j] :: more)).recoveringInGap j).st i = d1.st i :=
    (st_upd_ne _ _ other.symm).trans (st_upd_ne _ _ other.symm)
  have units2 : ((d1.taped ([.advance j, .advance j] :: more)).recoveringInGap j).accounts = d1.accounts := rfl
  have tape2 : ((d1.taped ([.advance j, .advance j] :: more)).recoveringInGap j).meanwhile = [.advance j, .advance j] :: more := rfl
  generalize (d1.taped ([.advance j, .advance j] :: more)).recoveringInGap j = c2 at joins station2 other2 units2 tape2
  have floors2 : c2.accounts.ranges = s.accounts.ranges := (congrArg AccountUnit.ranges units2).trans (ranges1.trans rfl)
  have credit3 := takeBack_creditShown (s := c2) (i := j) (q := [h]) three (by rw [station2]; show y.session.state ≠ _; rw [stalled]; nofun)
    (by rw [station2]; exact payer) (by rw [units2]; exact account1) (by rw [station2]; exact present)
    (by rw [station2]; show y.line.down.length < 4; rw [down']; decide)
  generalize is3 : takeBack j g [h] c2 = c3 at credit3
  obtain ⟨⟨removed3, path3, ⟨lost3, session3⟩, account3, -, ranges3, only3, others3⟩, shown3⟩ := credit3
  have floors3 : c3.accounts.ranges = s.accounts.ranges := ranges3.trans floors2
  have tape3 : c3.meanwhile = [.advance j, .advance j] :: more := (congrArg State.meanwhile only3).trans tape2
  have at3 : c3.st i = d1.st i := (others3 i other.symm).trans other2
  rw [fundsShown, floors2] at shown3
  have path2 : (c2.st j).queue = [g, h] := by rw [station2]; exact path
  rw [station2] at removed3 session3 account3 shown3
  have live4 : (d1.st i).session.state = .stalled := removed1.state.trans state
  have line1 : (d1.st i).line.present = true := (congrArg StationLine.present removed1.line).trans here
  have down1 : (d1.st i).line.down = [fundsShown s n (creditedSession x.session e 0) first] :=
    shown1.trans (congrArg (· ++ _) down)
  have credit4 := takeBack_creditShown (s := c3) (i := i) (q := []) two (by rw [at3, live4]; nofun)
    (by rw [at3]; exact removed1.payer.trans paid) account3 (by rw [at3]; exact line1) (by rw [at3, down1]; exact (by decide : 1 < 4))
  generalize is4 : takeBack i f [] c3 = d4 at credit4
  obtain ⟨⟨removed4, left4, ⟨lost4, session4⟩, account4, -, ranges4, only4, others4⟩, shown4⟩ := credit4
  rw [fundsShown, floors3] at shown4
  have floors4 : d4.accounts.ranges = s.accounts.ranges := ranges4.trans floors3
  rw [at3] at removed4 session4 account4 shown4
  have at4 : (d4.taped more).st j = c3.st j := others4 j other
  have stalled3 : (c3.st j).session.state = .stalled := removed3.state.trans stalled
  have line3 : (c3.st j).line.present = true := (congrArg StationLine.present removed3.line).trans present
  have down3 : (c3.st j).line.down = [fundsShown s n (creditedSession y.session g 0) second] :=
    shown3.trans (congrArg (· ++ _) down')
  have credit5 := takeBack_creditShown (s := d4.taped more) (i := j) (q := []) four (by rw [at4, stalled3]; nofun)
    (by rw [at4]; exact removed3.payer.trans payer) account4 (by rw [at4]; exact line3) (by rw [at4, down3]; exact (by decide : 1 < 4))
  generalize is5 : takeBack j h [] (d4.taped more) = c5 at credit5
  obtain ⟨⟨removed5, path5, ⟨lost5, session5⟩, account5, -, ranges5, only5, others5⟩, shown5⟩ := credit5
  rw [fundsShown, show (d4.taped more).accounts.ranges = s.accounts.ranges from floors4] at shown5
  rw [at4] at removed5 session5 account5 shown5
  have at5 : c5.st i = d4.st i := others5 i other.symm
  generalize is6 : endSeries (recoverySeries j cause y) c5 = c6
  obtain ⟨opened, down6, clear, units6, tape6, others6⟩ := endSeries_reopens_at
    (removed5.request.trans (removed3.request.trans idle)) path5 (removed5.state.trans stalled3)
    (by rw [session5]; show (c3.st j).session.closePending = _; rw [session3]; exact pending) c6 is6
  have at6 : c6.st i = d4.st i := (others6 i other.symm).trans at5
  have whole := off _ c2 c3 _ c5 c6 joins (by rw [is1]) path2 is3 (by rw [at3]; exact left1) tape3 (by rw [is4])
    (by rw [at4]; exact path3) is5 path5 is6 (by rw [at6]; exact left4)
  have down4 : (d4.st i).line.down = [fundsShown s n (creditedSession x.session e 0) first, fundsShown s n after third] := by
    rw [shown4, down1, session1]
    rfl
  have down5 : (c5.st j).line.down = [fundsShown s n (creditedSession y.session g 0) second,
      fundsShown s n (creditedSession (creditedSession y.session g 0) h 0) fourth] := by
    rw [shown5, down3, session3, session1]
    rfl
  have ended := whole.symm.trans ends
  have stalled4 : (d4.st i).session.state = .stalled := removed4.state.trans live4
  obtain ⟨balance, taped, others⟩ := endSeries_stallTimeout_account (by rw [at6]; exact left4) (by rw [at6]; exact stalled4)
    (by rw [at6]; exact removed4.payer.trans (removed1.payer.trans paid)) (by rw [units6]; exact account5) t ended
  obtain ⟨m, last⟩ := endSeries_stallTimeout_down (by rw [at6]; exact left4) (by rw [at6]; exact stalled4)
    (by rw [at6, congrArg StationLine.present removed4.line]; exact line1) (by rw [at6, down4]; exact (by decide : 2 < 4)) t ended
  rw [at6, down4] at last
  have floors6 : c6.accounts.ranges = s.accounts.ranges := (congrArg AccountUnit.ranges units6).trans (ranges5.trans floors4)
  have fine : (c6.st i).session.fineTotal = after.fineTotal := by rw [at6, session4, session1]; rfl
  rw [fine, floors6, session3, session1] at balance
  rw [last, others j other]
  exact ⟨rfl, down6.trans down5, opened, clear, balance, taped.trans (tape6.trans ((congrArg State.meanwhile only5).trans rfl))⟩

end

/-- Settles O59: the expiry is its series worked off; with an empty tape to the state of `expiry_leaves`, and with events of a
session on the same account in its gaps to those of `expiry_pick`, `expiry_exits` and `expiry_recovered`. -/
theorem stallTimerExpiryClosesTheSession : Obligations.StallTimerExpiryClosesTheSession := by
  intro i s inFrame x
  refine ⟨exec_stallExpiry_no inFrame, fun out state => ⟨_, exec_stallExpiry inFrame out state, fun quiet => ?leaves, ?tapes⟩⟩
  case leaves => exact expiry_leaves state quiet _ rfl
  case tapes =>
    intro j e f a n more y first after ends other inFrame' queue one two paid found number present payer hold
    refine ⟨?pick, ?exits, ?recovers⟩
    case pick =>
      intro base k p price delta tape latch opened tariff room sides priced within
      exact expiry_pick state queue one two paid found other inFrame' tape present latch opened hold tariff room sides priced within
        payer _ rfl
    case exits =>
      intro g r tape idle draining reason path charged
      exact expiry_exits state queue one two paid found other inFrame' tape present hold idle draining reason path charged payer _ rfl
    case recovers =>
      intro g h cause tape stopped confirmed stalled pending idle path three four here down down'
      exact expiry_recovered state queue one two paid found other inFrame' tape present payer stopped confirmed stalled pending idle
        path three four here down down' _ rfl

end Sys2Proof.Machine
end

section
/-!
PROOFS. What the rest of a station's events leave as it was: codes, stoppages, recoveries, expiries and HALT at a station (chapter 5).
-/

namespace Sys2Proof.Machine

section
variable {i : StationId} {s : State}

theorem raiseStation_lasting : Lasting s (raiseStation i s) := by
  rw [raiseStation_eq]
  exact .upd (stationRaised_lasts _)

theorem raiseJam_lasting (k : JamKind) (c : Cause) (n : Nat) : Lasting s (raiseJam i k c n s) := updCond_lasting fun _ => rfl

theorem stopStallTimer_lasting : Lasting s (stopStallTimer i s) := updRecovery_lasting _

theorem setAvailability_lasting (a : Availability) : Lasting s (setAvailability i a s) := by
  rw [setAvailability_eq]
  refine .upd ?_
  unfold availabilitySet
  split
  · exact .refl _
  · refine StationLasts.trans ?_ (stationRaised_lasts _)
    exact .plain rfl rfl

theorem stoppage_lasting (c : Cause) : Lasting s (stoppage i c s) := by
  have raised : Lasting s (raiseJam i .stoppage c 0 (s.updRecovery i fun r => { r with stoppage := some c })) :=
    (raiseJam_lasting _ _ _).after (updRecovery_lasting _)
  unfold stoppage
  dsimp only
  split
  · exact raised.trans stallUnlessHeld_lasting
  · exact raised

theorem takeCode_lasting (c : Code) : Lasting s (takeCode i c s) := by
  cases c with
  | jam l => exact stoppage_lasting _
  | doorOpen => exact stoppage_lasting _
  | fault => exact stoppage_lasting _
  | _ => exact .refl s

theorem codeReported_lasting : Lasting s (codeReported i s) := syncIdle_lasting.trans raiseStation_lasting

theorem codeConfirmed_lasting (c : Code) : Lasting s (codeConfirmed i c s).2 := by
  unfold codeConfirmed
  split
  · exact stopStallTimer_lasting
  · exact (takeCode_lasting c).trans codeReported_lasting

theorem stallExpires_lasting : Lasting s (stallExpires i s).2 := by
  unfold stallExpires
  dsimp only
  split
  · exact stopStallTimer_lasting
  · exact .refl s

theorem reopenSession_lasting : Lasting s (reopenSession i s) := by
  unfold reopenSession
  dsimp only
  split
  · split
    · exact (setSession_lasting _).trans reevaluate_lasting
    · exact goDraining_lasting _
  · exact .refl s

theorem recoveryEnds_lasting (c : Cause) (n : Nat) : Lasting s (recoveryEnds i c n s) :=
  (raiseJam_lasting _ _ _).after ((updRecovery_lasting _).after (reopenSession_lasting.after (afterRemoval_lasting _ _)))

theorem stallTimeoutEnds_lasting (c : Option Cause) (n : Nat) : Lasting s (stallTimeoutEnds i c n s) := by
  have closed : Lasting s (reevaluate i (closeStep i .stallTimeout .closed (afterRemoval true (n != 0) i s))) :=
    reevaluate_lasting.after ((closeStep_lasting _ _).after (afterRemoval_lasting _ _))
  have out := (closed.trans (setAvailability_lasting (i := i) .outOfService)).trans
    (updRecovery_lasting (i := i) fun r => { r with disablePending := false })
  unfold stallTimeoutEnds
  dsimp only
  split
  · exact out.trans (raiseJam_lasting _ _ _)
  · exact out

theorem haltEnds_lasting : Lasting s (haltEnds i s) := by
  unfold haltEnds
  dsimp only
  refine reevaluate_lasting.after ?_
  split
  · exact removeEntry_lasting _
  · exact (setHold_lasting _).after (removeEntry_lasting _)

theorem haltStation_lasting : Lasting s (haltStation i s).2 := by
  unfold haltStation
  dsimp only
  split
  · exact .refl s
  · split
    · have abandoned := (removeEntry_lasting (i := i) (s := s) (some .halt)).trans (abandonAuthorizing_lasting (i := i) (some .stopped))
      dsimp only
      exact abandoned.trans haltEnds_lasting
    · exact haltEnds_lasting

theorem endSeries_lasting (r : Series) : Lasting s (endSeries r s) := by
  obtain ⟨i, occasion⟩ := r
  cases occasion with
  | recovery c n => exact (recoveryEnds_lasting c n).trans codeReported_lasting
  | stallTimeout c n => exact stallTimeoutEnds_lasting c n
  | halt => exact (closeStep_lasting (i := i) .halt .halt).trans (haltEnds_lasting (i := i))

theorem removeAll_lasting (q : List InFlight) (s : State) : Lasting s (removeAll i q s) := by
  induction q generalizing s with
  | nil => exact .refl s
  | cons e rest ih => exact (takeBack_lasting e rest).trans (ih _)

theorem creditNext_lasting (q : List InFlight) (s : State) : Lasting s (creditNext i q s).2 := by
  induction q generalizing s with
  | nil => exact .refl s
  | cons e rest ih =>
    unfold creditNext
    dsimp only
    split
    · exact takeBack_lasting e rest
    · exact (takeBack_lasting e rest).trans (ih _)

theorem takenWhole_lasting (b : Begun) : Lasting b.2 (takenWhole b) := by
  unfold takenWhole
  split
  · exact .refl _
  · exact (removeAll_lasting _ _).trans (endSeries_lasting _)

theorem seriesOn_lasting (r : Series) (rest : List Job) (s : State) : Lasting s (seriesOn r rest s).state := by
  have credits := creditNext_lasting (i := r.station) (s.st r.station).queue s
  unfold seriesOn
  dsimp only
  split
  · exact credits
  · exact credits.trans (endSeries_lasting r)

theorem withdrawRaised_lasting (l : Latch) : Lasting s (withdrawRaised i l s) := by
  unfold withdrawRaised
  split
  · exact pickWithdrawn_lasting _
  · exact .refl s

theorem takeEvent_lasting (e : LineEvent) (s : State) : Lasting s (takeEvent i e s).2 := by
  cases e with
  | codeConfirmed c => exact codeConfirmed_lasting c
  | pickRaised n p => exact pickRaised_lasting n p
  | pickWithdrawn n => exact pickWithdrawn_lasting n
  | exits n => exact exitsEvent_lasting n
  | message m => exact deliver_lasting m
  | anomaly k => exact raiseAnomaly_lasting k

theorem idleExpires_lasting : Lasting s (idleExpires i s) := by
  unfold idleExpires
  split
  · exact drainAmidActivity_lasting _ _ _
  · exact .refl s

theorem headExpires_lasting : Lasting s (headExpires i s) := judgeHeads_lasting _ _ _

end

end Sys2Proof.Machine
end

section
/-!
PROOFS. No request, no event of a gap and nothing that a station does moves a presence state or the frame: arrivals alone do (sections
1.1 and 1.2).
-/

namespace Sys2Proof.Machine

/-- The presence state of every station and its count, and the place in the frame, are kept. -/
structure Placed (s t : State) : Prop where
  present : ∀ j, (t.st j).line.present = (s.st j).line.present
  contrary : ∀ j, (t.st j).line.contrary = (s.st j).line.contrary
  slot : t.slot = s.slot

theorem Placed.refl (s : State) : Placed s s := ⟨fun _ => rfl, fun _ => rfl, rfl⟩

theorem Placed.trans {s t u : State} (h : Placed s t) (k : Placed t u) : Placed s u :=
  ⟨fun j => (k.present j).trans (h.present j), fun j => (k.contrary j).trans (h.contrary j), k.slot.trans h.slot⟩

theorem Placed.of_st {s t : State} (st : ∀ j, t.st j = s.st j) (slot : t.slot = s.slot) : Placed s t :=
  ⟨fun j => by rw [st], fun j => by rw [st], slot⟩

theorem Lasting.placed {s t : State} (h : Lasting s t) : Placed s t :=
  ⟨fun j => congrArg Prod.fst (h.stations j).line, fun j => congrArg (·.2.1) (h.stations j).line, h.slot⟩

/-- An answer that moves nothing of the stations. -/
theorem placed_answer {s : State} {a : Answered} (stations : a.state.stations = s.stations) (slot : a.state.slot = s.slot) :
    Placed s a.state := .of_st (fun j => by rw [State.st, State.st, stations]) slot

section
variable {s : State}

/-! ## Requests -/

/-- An answer that carries a reply over a state. -/
theorem Placed.ok {t : State} {body : List Byte} (h : Placed s t) : Placed s (answerOk body t).state := h

theorem onStation_placed {b : Byte} {f : StationId → Answered} (h : ∀ i, Placed s (f i).state) :
    Placed s (onStation b s f).state := by
  unfold onStation
  split
  · exact .refl s
  · exact h _

theorem onStored_placed {n : BitVec 24} {f : Account → Answered} (h : ∀ a, Placed s (f a).state) :
    Placed s (onStored n s f).state := by
  unfold onStored
  split
  · exact .refl s
  · split
    · exact .refl s
    · exact h _

theorem putFreezing_placed (frozen : Bool) (b : Account) : Placed s (putFreezing frozen b s) := by
  have put : Placed s (putAccount b s) := .of_st (fun _ => rfl) rfl
  unfold putFreezing
  split
  · exact put.trans freezeSessions_lasting.placed
  · exact put

theorem takeStop_placed (s : State) : Placed s (takeStop s).state := by
  unfold takeStop
  split
  · exact .of_st (fun j => stopWhenEmpty_st _ j) (congrArg State.slot (stopWhenEmpty_rest _) :)
  · exact .refl s

theorem writeRange_placed (e : Fin 8) (r : Option Range) : Placed s (writeRange e r s).state := by
  unfold writeRange
  split
  · exact .refl s
  · split
    · exact .refl s
    · exact placed_answer rfl rfl

theorem takeSetRange_placed (e o : Byte) (l h : BitVec 24) (k c : Byte) (v : BitVec 24) :
    Placed s (takeSetRange e o l h k c v s).state := by
  unfold takeSetRange
  split
  · exact .refl s
  · split
    · exact .refl s
    · split
      · exact writeRange_placed _ _
      · split
        · split
          · exact .refl s
          · exact writeRange_placed _ _
        · exact .refl s

theorem takeSetTiers_placed (c d0 : Byte) (t1 : BitVec 24) (d1 : Byte) (t2 : BitVec 24) (d2 : Byte) (t3 : BitVec 24) (d3 : Byte) :
    Placed s (takeSetTiers c d0 t1 d1 t2 d2 t3 d3 s).state := by
  unfold takeSetTiers
  split
  · exact .refl s
  · split
    · exact .refl s
    · split
      · exact .refl s
      · split
        · exact .refl s
        · exact placed_answer rfl rfl

theorem takeSetCardPolicy_placed (h i t : BitVec 16) (c : Byte) (l m : BitVec 16) (p : BitVec 24) :
    Placed s (takeSetCardPolicy h i t c l m p s).state := by
  unfold takeSetCardPolicy
  split
  · exact .refl s
  · split
    · exact .refl s
    · split <;> exact placed_answer rfl rfl

theorem takeAccountPut_placed (n : BitVec 24) (b : BitVec 32) (st m : Byte) : Placed s (takeAccountPut n b st m s).state := by
  unfold takeAccountPut putChecked
  split
  · exact .refl s
  · split
    · exact .refl s
    · split
      · split
        · split
          · exact .refl s
          · split
            · exact .refl s
            · exact placed_answer rfl rfl
        · split
          · exact .refl s
          · split
            · exact .refl s
            · exact .ok (putFreezing_placed _ _)
      · exact .refl s

theorem applyResult_placed (i : StationId) (k : AuthKind) (n : Nat) : Placed s (applyResult i k n s) := by
  refine Lasting.placed ?_
  cases k with
  | initial =>
    unfold applyResult approveInitial declineInitial
    dsimp only
    split
    · split
      · exact (abandonAuthorizing_lasting _).trans reevaluate_lasting
      · exact .refl s
    · split
      · exact (setSession_lasting _).trans (sessionOpened_lasting _ _)
      · exact .refl s
  | increment =>
    unfold applyResult approveIncrement endIncrements
    dsimp only
    split
    · exact (updSession_lasting _).trans reevaluate_lasting
    · exact (updSession_lasting _).trans reevaluate_lasting

theorem takeAuthResult_placed (n : BitVec 16) (o : Byte) (a : BitVec 24) : Placed s (takeAuthResult n o a s).state := by
  unfold takeAuthResult
  split
  · exact .refl s
  · split
    · exact .refl s
    · split
      · exact .refl s
      · exact (removeEntry_lasting none).placed.trans (applyResult_placed _ _ _)

theorem inOpenOrder_placed {α : Type} (xs : List α) : Placed s (inOpenOrder xs s).2 := by
  refine Placed.of_st (inOpenOrder_st xs s) ?_
  unfold inOpenOrder
  split
  · rfl
  · exact (choose_lasting s).slot

theorem setLevel_placed (l : Urgency) : Placed s (setLevel l s) :=
  .of_st (setLevel_st l s) (by rw [setLevel_spec])

theorem takeJournalRelease_placed (n : BitVec 16) (e : BitVec 32) : Placed s (takeJournalRelease n e s).state := by
  unfold takeJournalRelease
  split
  · exact .refl s
  · split
    · exact .refl s
    · split
      · exact .refl s
      · refine Placed.of_st (releaseRecords_st s _) ?_
        show (releaseRecords _ s).slot = _
        unfold releaseRecords
        split
        · rfl
        · exact (setLevel_placed _).slot

/-- Every owner's answer moves no presence state and no slot. -/
theorem ownerAnswer_placed {r : Request} {a : Answered} (h : ownerAnswer r s = some a) : Placed s a.state := by
  cases r <;> cases h
  case start => unfold takeStart; split <;> exact placed_answer rfl rfl
  case stop => exact takeStop_placed s
  case setLevels => unfold takeSetLevels; split <;> exact placed_answer rfl rfl
  case setTariff => unfold takeSetTariff; split <;> [exact .refl s; (split <;> exact placed_answer rfl rfl)]
  case setTiers => exact takeSetTiers_placed ..
  case setRange => exact takeSetRange_placed ..
  case setCardPolicy => exact takeSetCardPolicy_placed ..
  case accountPut => exact takeAccountPut_placed ..
  case accountGet => exact onStored_placed fun _ => .refl s
  case accountAdjust => exact onStored_placed fun a => by dsimp only; split <;> exact placed_answer rfl rfl
  case accountFreeze => exact onStored_placed fun a => by split; exacts [.refl s, .ok (putFreezing_placed _ _)]
  case accountThaw => exact onStored_placed fun a => by split <;> exact placed_answer rfl rfl
  case accountRemove => exact onStored_placed fun a => by split <;> exact placed_answer rfl rfl
  case authResult => exact takeAuthResult_placed ..
  case authPending => exact inOpenOrder_placed _
  case denyAdd => unfold takeDenyAdd; split_ifs <;> exact placed_answer rfl rfl
  case denyRemove => unfold takeDenyRemove; split <;> exact placed_answer rfl rfl
  case standinList => unfold takeStandinList; split <;> exact placed_answer rfl rfl
  case standinClear => unfold takeStandinClear; split <;> [exact .refl s; (split <;> exact placed_answer rfl rfl)]
  case journalRead => unfold takeJournalRead; split <;> exact placed_answer rfl rfl
  case journalRelease => exact takeJournalRelease_placed ..
  case stationGet => exact onStation_placed fun _ => .refl s
  case stationEnable =>
    exact onStation_placed fun i => by
      split
      · exact .refl s
      · split
        · exact (setAvailability_lasting _).placed
        · exact .ok (updRecovery_lasting _).placed
  case stationDisable =>
    exact onStation_placed fun i => by
      split
      · exact .refl s
      · split
        · exact .ok ((updRecovery_lasting _).trans (takeReason_lasting _)).placed
        · exact (setAvailability_lasting _).placed
  case sessionEnd => exact onStation_placed fun i => by split; exacts [(takeReason_lasting _).placed, .refl s]
  case serviceHold =>
    exact onStation_placed fun i => by
      split
      · exact (changeHold_lasting _ _).placed
      all_goals exact .refl s
  case serviceRelease =>
    exact onStation_placed fun i => by
      split
      · exact (changeHold_lasting _ _).placed
      · exact (changeHold_lasting _ _).placed
      all_goals exact .refl s
  case meterGet => exact onStation_placed fun _ => .refl s
  case meterClear => exact onStation_placed fun i => by split; exacts [.ok (updMeters_lasting _).placed, .refl s]
  all_goals exact placed_answer rfl rfl

/-! ## The host line in a gap -/

theorem htxEnds_placed (s : State) : Placed s (htxEnds s).2 := by
  refine Placed.of_st (htxEnds_st s) ?_
  unfold htxEnds
  split <;> rfl

theorem arbitrate_placed (s : State) : Placed s (arbitrate s) := by
  unfold arbitrate
  split
  · split
    · exact .of_st (fun _ => rfl) rfl
    · rcases buildNotice_cases s with e | ⟨n, served, f, i, e⟩ | e <;> rw [e]
      · exact .refl s
      · have read : Placed s (s.updCond i f) := by
          refine ⟨fun j => ?_, fun j => ?_, rfl⟩ <;>
          · by_cases at_i : j = i
            · rw [at_i, State.updCond, st_upd_self]
            · rw [State.updCond, st_upd_ne _ _ at_i]
        exact read.trans (.of_st (fun _ => rfl) rfl)
      · exact .of_st (fun _ => rfl) rfl
    · exact .refl s
  · exact .refl s

theorem requestOn_placed (r : Request) (jobs : List Job) (s : State) : Placed s (requestOn r ⟨jobs, s⟩).state := by
  unfold requestOn
  split
  · next answered => exact (ownerAnswer_placed answered).trans (.of_st (fun _ => rfl) rfl)
  · exact inOpenOrder_placed s.liveStations

theorem dispatchOn_placed (jobs : List Job) (s : State) : Placed s (dispatchOn ⟨jobs, s⟩).state := by
  unfold dispatchOn
  split
  · next f rest _ _ =>
    have removed : Placed s (s.updHost fun h => { h with received := rest }) := .of_st (fun _ => rfl) rfl
    dsimp only
    split
    · exact .of_st (fun _ => rfl) rfl
    · exact removed.trans (requestOn_placed _ _ _)
  · exact .refl _

theorem submitOn_placed (r : Request) (w : Work) : Placed w.state (submitOn r w).state := by
  unfold submitOn
  split
  · exact requestOn_placed r w.jobs w.state
  · have queued : Placed w.state (enqueue (requestFrame r) w.state) := .of_st (fun _ => rfl) rfl
    exact queued.trans (dispatchOn_placed _ _)

theorem frameEndedOn_placed (w : Work) : Placed w.state (frameEndedOn w).state := by
  unfold frameEndedOn
  dsimp only
  split
  · exact (htxEnds_placed w.state).trans (dispatchOn_placed _ _)
  · exact htxEnds_placed w.state

/-! ## Jobs worked off -/

theorem haltDone_placed (replies : Bool) (s : State) : Placed s (haltDone replies s) := by
  refine Placed.of_st (haltDone_st replies s) ?_
  unfold haltDone
  dsimp only
  split <;> rfl

theorem startJob_placed (j : Job) (s : State) : Placed s (startJob j s).2 := by
  cases j with
  | event i e => exact (takeEvent_lasting e s).placed
  | stallExpiry i => exact stallExpires_lasting.placed
  | halt i => exact haltStation_lasting.placed
  | series r => exact .refl s
  | halted replies recorded => exact haltDone_placed replies s

theorem workToGap_placed (jobs : List Job) (s : State) : Placed s (workToGap jobs s).state := by
  induction jobs generalizing s with
  | nil => exact .refl s
  | cons j rest ih =>
    unfold workToGap
    dsimp only
    split
    · exact (startJob_placed j s).trans (ih _)
    · exact (startJob_placed j s).trans (seriesOn_lasting _ _ _).placed

theorem begunOn_placed (b : Begun) (rest : List Job) : Placed b.2 (begunOn b rest).state := by
  unfold begunOn
  split
  · exact .refl _
  · exact (seriesOn_lasting _ _ _).placed

theorem jobOn_placed (may : Bool) (j : Job) (rest : List Job) (s : State) : Placed s (jobOn may j rest s).state := by
  cases j with
  | series r => exact (seriesOn_lasting r rest s).placed
  | halt i =>
    unfold jobOn
    dsimp only
    split
    · exact haltStation_lasting.placed.trans (begunOn_placed _ _)
    · exact .refl s
  | _ => exact .refl s

theorem advance_placed (may : Bool) (i : StationId) (jobs : List Job) (s : State) : Placed s (advance may i jobs s).state := by
  rcases advance_cases may i jobs s with e | ⟨pre, j, rest, -, -, -, e⟩ <;> rw [e]
  · exact .refl s
  · exact jobOn_placed may j rest s

theorem joined_placed (w : Work) (b : Begun) : Placed b.2 (w.joined b).state := by
  unfold Work.joined
  split
  · exact .refl _
  · split
    · exact .refl _
    · exact (takenWhole_lasting b).placed

theorem codeAt_placed (i : StationId) (c : Code) (s : State) : Placed s (codeAt i c s).2 := by
  unfold codeAt
  dsimp only
  split
  · refine Placed.trans ?_ (codeConfirmed_lasting c).placed
    refine ⟨fun j => ?_, fun j => ?_, rfl⟩ <;>
    · by_cases at_i : j = i
      · rw [at_i, State.updLine, st_upd_self]
      · rw [State.updLine, st_upd_ne _ _ at_i]
  · exact .refl s

theorem takeMeanwhile_placed (e : Meanwhile) (w : Work) : Placed w.state (takeMeanwhile e w).state := by
  cases e with
  | pick i p => exact (takeActivity_lasting (.pick i p) _).placed
  | dropped i => exact (takeActivity_lasting (.dropped i) _).placed
  | exits i n => exact (takeActivity_lasting (.exits i n) _).placed
  | message i m => exact (takeActivity_lasting (.message i m) _).placed
  | recovered i running => exact (codeAt_placed i _ _).trans (joined_placed _ _)
  | code i c => exact (codeAt_placed i c _).trans (joined_placed _ _)
  | idleExpiry i => exact (atStation_lasting (fun _ => idleExpires_lasting) _).placed
  | stallExpiry i =>
    unfold takeMeanwhile
    dsimp only
    split
    · exact stallExpires_lasting.placed.trans (joined_placed _ _)
    · exact .refl _
  | overdue i => exact (atStation_lasting (fun _ => headExpires_lasting) _).placed
  | request r => exact submitOn_placed r w
  | arbiter => exact arbitrate_placed w.state
  | frameSent => exact frameEndedOn_placed w
  | advance i => exact advance_placed _ i _ _

theorem takeInGap_placed (w : Work) (e : Meanwhile) : Placed w.state (takeInGap w e).state := by
  unfold takeInGap
  split
  · dsimp only
    split
    · exact .refl _
    · exact takeMeanwhile_placed e w
  · exact .refl _

theorem workGap_placed (w : Work) : Placed w.state (workGap w).state := by
  have each : ∀ (es : List Meanwhile) (v : Work), Placed v.state (es.foldl takeInGap v).state := by
    intro es
    induction es with
    | nil => exact fun v => .refl _
    | cons e rest ih => exact fun v => (takeInGap_placed v e).trans (ih _)
  exact (popMeanwhile_lasting w.state).placed.trans (each _ { w with state := w.state.popMeanwhile.2 })

theorem takenInTurn_placed (jobs : List Job) (s : State) :
    Placed s (jobs.foldl (fun t j => takenWhole (startJob j t)) s) := by
  induction jobs generalizing s with
  | nil => exact .refl s
  | cons j rest ih => exact ((startJob_placed j s).trans (takenWhole_lasting _).placed).trans (ih _)

theorem workOffWithin_placed (n : Nat) (w : Work) : Placed w.state (workOffWithin n w) := by
  induction n generalizing w with
  | zero => exact takenInTurn_placed _ _
  | succ n ih =>
    have worked := workToGap_placed w.inTurn w.state
    unfold workOffWithin
    dsimp only
    split
    · exact worked
    · exact worked.trans ((workGap_placed _).trans (ih _))

theorem takeEvents_placed (i : StationId) (events : List LineEvent) (s : State) : Placed s (takeEvents i events s) :=
  (inOpenOrder_placed events).trans (workOffWithin_placed _ ⟨_, (inOpenOrder events s).2⟩)

end

end Sys2Proof.Machine
end

section
/-!
PROOFS. Presence and codes in the slots of a station (sections 1.1 to 1.3).
-/

namespace Sys2Proof.Machine

section
variable {i : StationId} {s : State} {l : StationLine} {h : UpHalf}

/-! ## The parts of an arrival -/

/-- No event of an arrival confirms a code. -/
def ConfirmsNone (events : List LineEvent) : Prop := ∀ c, LineEvent.codeConfirmed c ∉ events

theorem confirmsNone_nil : ConfirmsNone [] := nofun

theorem confirmsNone_anomaly (k : AnomalyKind) : ConfirmsNone [.anomaly k] := nofun

theorem ConfirmsNone.append {xs ys : List LineEvent} (h : ConfirmsNone xs) (k : ConfirmsNone ys) : ConfirmsNone (xs ++ ys) :=
  fun c m => (List.mem_append.1 m).elim (h c) (k c)

/-- A part of an arrival that leaves presence and codes, and confirms no code. -/
structure Plain (l : StationLine) (r : LineStep) : Prop where
  fixed : lineFixed r.1 = lineFixed l
  events : ConfirmsNone r.2

theorem Plain.quiet {m : StationLine} (fixed : lineFixed m = lineFixed l) : Plain l (m, []) := ⟨fixed, confirmsNone_nil⟩

theorem Plain.anomaly {m : StationLine} {k : AnomalyKind} (fixed : lineFixed m = lineFixed l) : Plain l (m, [.anomaly k]) :=
  ⟨fixed, confirmsNone_anomaly k⟩

theorem pickArrival_plain (p : Option SheetSpec) (l : StationLine) : Plain l (pickArrival p l) := by
  unfold pickArrival
  split <;> exact ⟨rfl, nofun⟩

theorem quietArrival_plain (l : StationLine) : Plain l (quietArrival l) := by
  unfold quietArrival
  split
  · exact .quiet rfl
  · split
    · exact .anomaly rfl
    · exact .quiet rfl

theorem messageEvent_confirmsNone (bytes : List Byte) : ConfirmsNone [messageEvent bytes] := by
  unfold messageEvent
  split <;> exact nofun

theorem byteArrival_plain (mark : MsgMark) (b : Byte) (l : StationLine) : Plain l (byteArrival mark b l) := by
  unfold byteArrival
  split
  · exact quietArrival_plain l
  · exact .quiet rfl
  · split
    · exact .anomaly rfl
    · exact .quiet rfl
  · exact ⟨rfl, messageEvent_confirmsNone _⟩
  · split
    · exact .anomaly rfl
    · exact ⟨rfl, messageEvent_confirmsNone _⟩
  · exact .quiet rfl
  · exact .anomaly rfl

theorem byteTaken_fixed (l : StationLine) : lineFixed (byteTaken l) = lineFixed l := by
  unfold byteTaken
  split
  · rfl
  · split <;> rfl

theorem unacknowledged_plain (l : StationLine) : Plain l (unacknowledged l) := by
  unfold unacknowledged
  split
  · exact .quiet rfl
  · split
    · exact .anomaly rfl
    · exact .quiet rfl

theorem ackArrival_plain (m : AckMark) (l : StationLine) : Plain l (ackArrival m l) := by
  unfold ackArrival
  split
  · exact .quiet rfl
  · exact unacknowledged_plain l
  · exact .quiet (byteTaken_fixed l)
  · exact .anomaly rfl

/-- The parts of an arrival but its code. -/
theorem messageParts_plain (a : Arrival) (l : StationLine) : Plain l (messageParts a l) := by
  have pick := pickArrival_plain a.pick l
  have byte := byteArrival_plain a.mark a.byte (pickArrival a.pick l).1
  have ack := ackArrival_plain a.ack (byteArrival a.mark a.byte (pickArrival a.pick l).1).1
  have exits : ConfirmsNone (exitArrival a.exits) := by
    unfold exitArrival
    split <;> exact nofun
  exact ⟨ack.fixed.trans (byte.fixed.trans pick.fixed), pick.events.append (exits.append (byte.events.append ack.events))⟩

theorem fullArrival_parts (a : Arrival) (l : StationLine) : fullArrival a l =
    ((messageParts a (codeArrival a.code l).1).1, (codeArrival a.code l).2 ++ (messageParts a (codeArrival a.code l).1).2) := rfl

theorem emptyArrival_plain (l : StationLine) : Plain { l with candidate := none } (emptyArrival l) := by
  have quiet := quietArrival_plain { l with candidate := none }
  have ack := unacknowledged_plain (quietArrival { l with candidate := none }).1
  exact ⟨ack.fixed.trans quiet.fixed, quiet.events.append ack.events⟩

/-- A line state with the same presence and count. -/
def SamePresence (l m : StationLine) : Prop := m.present = l.present ∧ m.contrary = l.contrary

theorem samePresence_of_fixed {m : StationLine} (fixed : lineFixed m = lineFixed l) : SamePresence l m :=
  ⟨congrArg Prod.fst fixed, congrArg (·.2.1) fixed⟩

theorem codeArrival_presence (code : Option Code) (l : StationLine) : SamePresence l (codeArrival code l).1 := by
  unfold codeArrival
  split
  · exact ⟨rfl, rfl⟩
  · split
    · exact ⟨rfl, rfl⟩
    · split <;> exact ⟨rfl, rfl⟩

theorem fullArrival_presence (a : Arrival) (l : StationLine) : SamePresence l (fullArrival a l).1 := by
  obtain ⟨present, contrary⟩ := samePresence_of_fixed (messageParts_plain a (codeArrival a.code l).1).fixed
  have coded := codeArrival_presence a.code l
  exact ⟨present.trans coded.1, contrary.trans coded.2⟩

/-! ## Presence (R3 to R5) -/

theorem updLine_placed {f : StationLine → StationLine} (keeps : SamePresence (s.st i).line (f (s.st i).line)) :
    Placed s (s.updLine i f) := by
  refine ⟨fun j => ?_, fun j => ?_, rfl⟩ <;> by_cases at_i : j = i
  · rw [at_i, State.updLine, st_upd_self]
    exact keeps.1
  · rw [State.updLine, st_upd_ne _ _ at_i]
  · rw [at_i, State.updLine, st_upd_self]
    exact keeps.2
  · rw [State.updLine, st_upd_ne _ _ at_i]

theorem applyLine_placed {f : StationLine → LineStep} (keeps : SamePresence (s.st i).line (f (s.st i).line).1) :
    Placed s (applyLine i f s) :=
  (updLine_placed (f := fun _ => (f (s.st i).line).1) keeps).trans (takeEvents_placed _ _ _)

/-- An arrival moves a presence state and a place in the frame by its mark alone. -/
theorem takeArrival_placed (a : Arrival) (s : State) : Placed (presenceArrival i a.present s) (takeArrival i a s) := by
  unfold takeArrival
  dsimp only
  split
  · exact applyLine_placed (fullArrival_presence a _)
  · exact applyLine_placed (samePresence_of_fixed (emptyArrival_plain _).fixed :)

theorem abandonLost_lasting : Lasting s (abandonLost i s) := by
  unfold abandonLost
  split
  · exact ((removeEntry_lasting _).trans (abandonAuthorizing_lasting _)).trans reevaluate_lasting
  · exact .refl s

theorem loseStation_lasting : Lasting (s.updLine i lineLost) (loseStation i s) :=
  ((((withdrawRaised_lasting _).trans abandonLost_lasting).trans (stoppage_lasting _)).trans syncIdle_lasting).trans
    raiseStation_lasting

theorem updLine_line (f : StationLine → StationLine) : ((s.updLine i f).st i).line = f (s.st i).line :=
  congrArg Station.line (st_upd_self ..)

theorem presenceArrival_agrees {mark : Bool} (agrees : (s.st i).line.present = mark) :
    ((presenceArrival i mark s).st i).line = { (s.st i).line with contrary := 0 } := by
  unfold presenceArrival
  dsimp only
  rw [if_pos agrees, updLine_line]

theorem presenceArrival_counts {mark : Bool} (differs : (s.st i).line.present ≠ mark) (few : (s.st i).line.contrary < 15) :
    ((presenceArrival i mark s).st i).line = { (s.st i).line with contrary := (s.st i).line.contrary + 1 } := by
  have below : ¬ Config.presenceLimit ≤ (s.st i).line.contrary + 1 := by
    show ¬ 16 ≤ _
    omega
  unfold presenceArrival
  dsimp only
  rw [if_neg differs, if_neg below, updLine_line]

theorem presenceArrival_turns {mark : Bool} (differs : (s.st i).line.present ≠ mark) (many : 15 ≤ (s.st i).line.contrary) :
    ((presenceArrival i mark s).st i).line.present = mark ∧ ((presenceArrival i mark s).st i).line.contrary = 0 := by
  have reached : Config.presenceLimit ≤ (s.st i).line.contrary + 1 := by
    show 16 ≤ _
    omega
  unfold presenceArrival
  dsimp only
  rw [if_neg differs, if_pos reached]
  split
  · next present =>
    have lost := (loseStation_lasting (i := i) (s := s)).placed
    have absent : mark = false := by
      cases mark
      · rfl
      · exact absurd present differs
    rw [lost.present, lost.contrary, updLine_line, absent]
    exact ⟨rfl, rfl⟩
  · next absent =>
    rw [regainStation, updLine_line]
    cases mark
    · exact absurd (Bool.eq_false_of_not_eq_true absent) differs
    · exact ⟨rfl, rfl⟩

/-! ## Codes (R6) -/

/-- The value of a code in the first byte of a half that carries the mark. -/
def Reports (h : UpHalf) : Code → Prop
  | .ready => h.b0.toNat / 16 = 9
  | .running => h.b0.toNat / 16 = 10
  | .warming => h.b0.toNat / 16 = 11
  | .paperOut => h.b0.toNat / 16 = 12
  | .doorOpen => h.b0.toNat / 16 = 13
  | .jam l => h.b0.toNat / 16 = 14 ∧ h.b0.toNat % 16 = l.val ∧ l.val ≠ 0
  | .fault => h.b0.toNat / 16 = 15

theorem Reports.decodes {c : Code} (reports : Reports h c) : (decodeHalf h).code = some c := by
  show decodeCode (h.b0.toNat / 16 % 8) (h.b0.toNat % 16) = some c
  cases c with
  | jam l =>
    obtain ⟨code, location, nonzero⟩ := reports
    rw [code, location]
    simp [decodeCode, nonzero]
  | _ =>
    rw [Reports] at reports
    rw [reports]
    rfl

theorem decodes_none (bad : h.b0.toNat / 16 = 8 ∨ h.b0.toNat = 224) : (decodeHalf h).code = none := by
  show decodeCode (h.b0.toNat / 16 % 8) (h.b0.toNat % 16) = none
  rcases bad with code | byte
  · rw [code]
    rfl
  · rw [byte]
    rfl

theorem decodeHalf_mark : (decodeHalf h).present = decide (128 ≤ h.b0.toNat) := by
  have small := h.b0.isLt
  show decide _ = _
  refine decide_eq_decide.2 ?_
  omega

/-! ## Events without a code, and those of a tape that is empty -/

theorem inOpenOrder_lasting {α : Type} (xs : List α) (s : State) : Lasting s (inOpenOrder xs s).2 := by
  unfold inOpenOrder
  split
  · exact .refl s
  · exact choose_lasting s

theorem takeEvent_begins_none {e : LineEvent} (notCode : ∀ c, e ≠ .codeConfirmed c) (s : State) : (takeEvent i e s).1 = none := by
  cases e with
  | codeConfirmed c => exact absurd rfl (notCode c)
  | _ => rfl

theorem mem_inOpenOrder {α : Type} {xs : List α} {x : α} : x ∈ (inOpenOrder xs s).1 ↔ x ∈ xs := (inOpenOrder_perm xs s).mem_iff

theorem foldl_lasting {α : Type} {f : α → State → State} (each : ∀ e t, Lasting t (f e t)) (es : List α) (s : State) :
    Lasting s (es.foldl (fun t e => f e t) s) := by
  induction es generalizing s with
  | nil => exact .refl s
  | cons e rest ih => exact (each e s).trans (ih _)

/-- Events that confirm no code are taken one after another, whatever the tape holds. -/
theorem takeEvents_started {events : List LineEvent} (none : ConfirmsNone events) (s : State) :
    takeEvents i events s = (inOpenOrder events s).1.foldl (fun t e => (takeEvent i e t).2) (inOpenOrder events s).2 := by
  unfold takeEvents
  dsimp only
  rw [workOff_whole (f := fun j t => (startJob j t).2) _ _ (fun j m => by obtain ⟨e, -, rfl⟩ := List.mem_map.1 m; rfl)
    (fun j m t => by
      obtain ⟨e, at_e, rfl⟩ := List.mem_map.1 m
      exact Prod.ext (takeEvent_begins_none (fun c code => none c (code ▸ mem_inOpenOrder.1 at_e)) t) rfl), List.foldl_map]
  rfl

/-- Events that confirm no code leave every station's presence and codes, whatever the tape holds. -/
theorem takeEvents_lasting {events : List LineEvent} (none : ConfirmsNone events) (s : State) : Lasting s (takeEvents i events s) := by
  rw [takeEvents_started none]
  exact (inOpenOrder_lasting events s).trans (foldl_lasting takeEvent_lasting _ _)

/-- A station whose latest line state told is the one that it has. -/
def ToldNow (x : Station) : Prop := x.cond.lineLatest = some (lineState x.line) ∧ x.cond.lineFirst ≠ none

theorem ToldNow.lasts {x y : Station} (told : ToldNow x) (lasts : StationLasts x y) : ToldNow y := by
  refine ⟨?_, lasts.first told.2⟩
  rw [lineState_fixed lasts.line]
  exact lasts.told.elim (fun same => same.trans told.1) id

theorem raiseStation_told : ToldNow ((raiseStation i s).st i) := by
  rw [raiseStation_eq, st_upd_self]
  exact ⟨rfl, nofun⟩

/-- A code confirmed tells its line state, before or after the series that it begins. -/
theorem codeConfirmed_told (c : Code) : ToldNow ((takenWhole (codeConfirmed i c s)).st i) := by
  rcases codeConfirmed_cases i c s with e | ⟨cause, n, e⟩ <;> rw [e]
  · exact raiseStation_told
  · exact raiseStation_told

theorem takenEvent_lasting (e : LineEvent) (s : State) : Lasting s (takenWhole (takeEvent i e s)) :=
  (takeEvent_lasting e s).trans (takenWhole_lasting _)

theorem takeEvents_quiet (events : List LineEvent) (quiet : s.meanwhile = []) :
    takeEvents i events s = (inOpenOrder events s).1.foldl (fun t e => takenWhole (takeEvent i e t)) (inOpenOrder events s).2 := by
  unfold takeEvents
  dsimp only
  rw [workOff_quiet _ ((inOpenOrder_local i events s).meanwhile.trans quiet), inTurn_of_not_halting (by simp [halting, Job.isHalted]),
    List.foldl_map]
  rfl

/-- A code confirmed among events that are taken whole is told, and stays told. -/
theorem takenEach_told {events : List LineEvent} {c : Code} (code : LineEvent.codeConfirmed c ∈ events) (s : State) :
    ToldNow ((events.foldl (fun t e => takenWhole (takeEvent i e t)) s).st i) := by
  induction events generalizing s with
  | nil => cases code
  | cons e rest ih =>
    rw [List.foldl_cons]
    rcases List.mem_cons.1 code with first | later
    · have told : ToldNow ((takenWhole (takeEvent i e s)).st i) := by
        rw [← first]
        exact codeConfirmed_told c
      exact told.lasts ((foldl_lasting takenEvent_lasting rest _).stations i)
    · exact ih later _

/-- With nothing in the gaps the events leave every station's presence and codes, and a code confirmed is told. -/
theorem takeEvents_tells {events : List LineEvent} {c : Code} (quiet : s.meanwhile = []) (code : LineEvent.codeConfirmed c ∈ events) :
    Lasting s (takeEvents i events s) ∧ ToldNow ((takeEvents i events s).st i) := by
  rw [takeEvents_quiet events quiet]
  exact ⟨(inOpenOrder_lasting events s).trans (foldl_lasting takenEvent_lasting _ _), takenEach_told (mem_inOpenOrder.2 code) _⟩

/-- A station that has counted an anomaly more than another. -/
def CountsMore (x y : Station) : Prop := min 255 (x.cond.anomalies + 1) ≤ y.cond.anomalies

theorem CountsMore.lasts {x y z : Station} (more : CountsMore x y) (lasts : StationLasts y z) : CountsMore x z := by
  have kept := lasts.anomalies
  unfold CountsMore at *
  omega

theorem CountsMore.later {x y z : Station} (lasts : StationLasts x y) (more : CountsMore y z) : CountsMore x z := by
  have kept := lasts.anomalies
  unfold CountsMore at *
  omega

theorem raiseAnomaly_countsMore (k : AnomalyKind) (s : State) : CountsMore (s.st i) ((raiseAnomaly i k s).st i) := by
  rw [raiseAnomaly, State.updCond, st_upd_self]
  exact le_refl (min 255 ((s.st i).cond.anomalies + 1))

theorem eachStarted_counts {events : List LineEvent} {k : AnomalyKind} (bad : LineEvent.anomaly k ∈ events) (s : State) :
    CountsMore (s.st i) ((events.foldl (fun t e => (takeEvent i e t).2) s).st i) := by
  induction events generalizing s with
  | nil => cases bad
  | cons e rest ih =>
    rw [List.foldl_cons]
    rcases List.mem_cons.1 bad with first | later
    · have more : CountsMore (s.st i) ((takeEvent i e s).2.st i) := by
        rw [← first]
        exact raiseAnomaly_countsMore k s
      exact more.lasts ((foldl_lasting takeEvent_lasting rest _).stations i)
    · exact ((takeEvent_lasting e s).stations i |> CountsMore.later) (ih later _)

/-- An anomaly among the events is counted. -/
theorem takeEvents_counts {events : List LineEvent} {k : AnomalyKind} (none : ConfirmsNone events)
    (bad : LineEvent.anomaly k ∈ events) (s : State) : CountsMore (s.st i) ((takeEvents i events s).st i) := by
  rw [takeEvents_started none]
  exact CountsMore.later ((inOpenOrder_lasting events s).stations i) (eachStarted_counts (mem_inOpenOrder.2 bad) _)

end

end Sys2Proof.Machine
end

section
/-!
PROOFS. The slots of a station move its presence and its codes (sections 1.1 to 1.3).
-/

namespace Sys2Proof.Machine

section
variable {i : StationId} {s t : State} {h : UpHalf}

/-! ## Presence and the frame -/

/-- The state in which the upstream half of station `i` is judged. -/
def State.halfSent (s : State) (i : StationId) : State := sendHalf i s.passSlot

/-- A slot taken. -/
def slotTaken (i : StationId) (h : UpHalf) (s : State) : State := takeArrival i (decodeHalf h) (s.halfSent i)

theorem afterDownHalf_presence (x : Station) : SamePresence x.line (afterDownHalf x) := by
  unfold afterDownHalf
  dsimp only
  split <;> exact ⟨rfl, rfl⟩

theorem halfSent_presence (s : State) (i : StationId) : SamePresence (s.st i).line ((s.halfSent i).st i).line := by
  have sent : ((s.halfSent i).st i).line = afterDownHalf (s.st i) := congrArg Station.line (st_upd_self ..)
  rw [sent]
  exact afterDownHalf_presence _

theorem slotTaken_slot (h : UpHalf) : (slotTaken i h s).slot = s.nextSlot :=
  (takeArrival_placed _ _).slot.trans (presenceArrival_local i _ _).slot

/-- The presence and the count after a slot are those of the presence mark. -/
theorem slotTaken_presence (i : StationId) (h : UpHalf) (s : State) : SamePresence
    ((presenceArrival i (128 ≤ h.b0.toNat) (s.halfSent i)).st i).line ((slotTaken i h s).st i).line := by
  have placed := takeArrival_placed (i := i) (decodeHalf h) (s.halfSent i)
  rw [decodeHalf_mark] at placed
  exact ⟨placed.present i, placed.contrary i⟩

theorem slot_agrees (agrees : (s.st i).line.present = decide (128 ≤ h.b0.toNat)) :
    ((slotTaken i h s).st i).line.present = (s.st i).line.present ∧ ((slotTaken i h s).st i).line.contrary = 0 := by
  obtain ⟨sent, -⟩ := halfSent_presence s i
  obtain ⟨present, contrary⟩ := slotTaken_presence i h s
  rw [present, contrary, presenceArrival_agrees (sent.trans agrees)]
  exact ⟨sent, rfl⟩

theorem slot_counts (differs : (s.st i).line.present ≠ decide (128 ≤ h.b0.toNat)) (few : (s.st i).line.contrary < 15) :
    ((slotTaken i h s).st i).line.present = (s.st i).line.present ∧
      ((slotTaken i h s).st i).line.contrary = (s.st i).line.contrary + 1 := by
  obtain ⟨sent, count⟩ := halfSent_presence s i
  obtain ⟨present, contrary⟩ := slotTaken_presence i h s
  rw [present, contrary, presenceArrival_counts (by rw [sent]; exact differs) (by rw [count]; exact few)]
  exact ⟨sent, congrArg (· + 1) count⟩

theorem slot_turns (differs : (s.st i).line.present ≠ decide (128 ≤ h.b0.toNat)) (many : 15 ≤ (s.st i).line.contrary) :
    ((slotTaken i h s).st i).line.present = decide (128 ≤ h.b0.toNat) ∧ ((slotTaken i h s).st i).line.contrary = 0 := by
  obtain ⟨sent, count⟩ := halfSent_presence s i
  obtain ⟨present, contrary⟩ := slotTaken_presence i h s
  rw [present, contrary]
  exact presenceArrival_turns (by rw [sent]; exact differs) (by rw [count]; exact many)

theorem nextSlot_within (within : s.slot.val + 1 < s.frameSize) : s.nextSlot.val = s.slot.val + 1 := by
  have bound : s.frameSize ≤ 16 := by
    unfold State.frameSize
    split <;> decide
  unfold State.nextSlot
  rw [if_pos within, Fin.val_add, Fin.val_one]
  omega

theorem nextSlot_last (last : s.slot.val + 1 = s.frameSize) : s.nextSlot = 0 := by
  unfold State.nextSlot
  rw [if_neg (by omega)]

/-! ## Codes -/

/-- What the code of a half makes of a line state, with its event. -/
def codedLine (h : UpHalf) (x : Station) : LineStep := codeArrival (decodeHalf h).code (agreedLine x)

/-- A slot of a present station whose half carries the mark takes the code's event with the events of the other parts. -/
theorem slot_coded (slot : s.slot = i) (inFrame : s.inFrame i = true) (present : (s.st i).line.present = true)
    (mark : 128 ≤ h.b0.toNat) : ∃ (l : StationLine) (events : List LineEvent), Plain (codedLine h (s.st i)).1 (l, events) ∧
      slotTaken i h s = takeEvents i ((codedLine h (s.st i)).2 ++ events) (s.passSlot.upd i fun y => { y with line := l }) := by
  have taken : exec (.upstreamHalf i h) s = .next (slotTaken i h s) := exec_slot inFrame slot
  refine ⟨_, _, messageParts_plain (decodeHalf h) (codedLine h (s.st i)).1, Host.Outcome.next.inj (taken.symm.trans ?_)⟩
  exact slot_full inFrame slot rfl (decodeHalf_mark.trans (decide_eq_true mark)) present (fullArrival_parts _ _)

/-- A line state's codes. -/
def SameCodes (l m : StationLine) : Prop := m.confirmed = l.confirmed ∧ m.candidate = l.candidate

theorem sameCodes_of_fixed {l m : StationLine} (fixed : lineFixed m = lineFixed l) : SameCodes l m :=
  ⟨congrArg (·.2.2.1) fixed, congrArg (·.2.2.2) fixed⟩

theorem SameCodes.trans {l m n : StationLine} (h : SameCodes l m) (k : SameCodes m n) : SameCodes l n :=
  ⟨k.1.trans h.1, k.2.trans h.2⟩

theorem lasting_codes {l : StationLine} {events : List LineEvent} (plain : Plain (codedLine h (s.st i)).1 (l, events))
    (lasting : Lasting (s.passSlot.upd i fun y => { y with line := l }) t) : SameCodes (codedLine h (s.st i)).1 (t.st i).line := by
  have lasts := (lasting.stations i).line
  rw [st_upd_self] at lasts
  exact (sameCodes_of_fixed plain.fixed).trans (sameCodes_of_fixed lasts)

/-- A half that confirms no code: the codes are those that its code leaves, and an anomaly that it raises is counted. -/
theorem slot_confirmsNone (slot : s.slot = i) (inFrame : s.inFrame i = true) (present : (s.st i).line.present = true)
    (mark : 128 ≤ h.b0.toNat) (none : ConfirmsNone (codedLine h (s.st i)).2) :
    SameCodes (codedLine h (s.st i)).1 ((slotTaken i h s).st i).line ∧
      ∀ k, LineEvent.anomaly k ∈ (codedLine h (s.st i)).2 → CountsMore (s.st i) ((slotTaken i h s).st i) := by
  obtain ⟨l, events, plain, e⟩ := slot_coded slot inFrame present mark
  have confirmsNone := none.append plain.events
  refine ⟨?_, fun k bad => ?_⟩ <;> rw [e]
  · exact lasting_codes plain (takeEvents_lasting confirmsNone _)
  · have more := takeEvents_counts (i := i) confirmsNone (List.mem_append_left _ bad)
      (s.passSlot.upd i fun y => { y with line := l })
    rw [st_upd_self] at more
    exact more

/-- A half that confirms a code, with nothing in the gaps. -/
theorem slot_confirmed {c : Code} (slot : s.slot = i) (inFrame : s.inFrame i = true) (present : (s.st i).line.present = true)
    (mark : 128 ≤ h.b0.toNat) (quiet : s.meanwhile = []) (code : LineEvent.codeConfirmed c ∈ (codedLine h (s.st i)).2) :
    SameCodes (codedLine h (s.st i)).1 ((slotTaken i h s).st i).line ∧ ToldNow ((slotTaken i h s).st i) := by
  obtain ⟨l, events, plain, e⟩ := slot_coded slot inFrame present mark
  obtain ⟨lasting, told⟩ := takeEvents_tells (i := i) (s := s.passSlot.upd i fun y => { y with line := l }) quiet
    (List.mem_append_left events code)
  rw [e]
  exact ⟨lasting_codes plain lasting, told⟩

theorem reports_marked {c : Code} (reports : Reports h c) : 128 ≤ h.b0.toNat := by
  cases c with
  | jam l =>
    obtain ⟨code, -, -⟩ := reports
    omega
  | _ =>
    rw [Reports] at reports
    omega

/-- The half reports the confirmed code again. -/
theorem slot_again {c : Code} (slot : s.slot = i) (inFrame : s.inFrame i = true) (present : (s.st i).line.present = true)
    (reports : Reports h c) (confirmed : (s.st i).line.confirmed = some c) :
    ((slotTaken i h s).st i).line.confirmed = some c ∧ ((slotTaken i h s).st i).line.candidate = none := by
  have coded : codedLine h (s.st i) = ({ agreedLine (s.st i) with candidate := none }, []) := by
    rw [codedLine, reports.decodes]
    exact codeArrival_confirmed ((agreedLine_confirmed _).trans confirmed)
  obtain ⟨⟨same, candidate⟩, -⟩ := slot_confirmsNone slot inFrame present (reports_marked reports) (by rw [coded]; exact confirmsNone_nil)
  rw [same, candidate, coded]
  exact ⟨(agreedLine_confirmed _).trans confirmed, rfl⟩

/-- Another code becomes the candidate. -/
theorem slot_candidate {c : Code} (slot : s.slot = i) (inFrame : s.inFrame i = true) (present : (s.st i).line.present = true)
    (reports : Reports h c) (other : (s.st i).line.confirmed ≠ some c) (new : (s.st i).line.candidate ≠ some c) :
    ((slotTaken i h s).st i).line.confirmed = (s.st i).line.confirmed ∧ ((slotTaken i h s).st i).line.candidate = some c := by
  have coded : codedLine h (s.st i) = ({ agreedLine (s.st i) with candidate := some c }, []) := by
    rw [codedLine, reports.decodes, codeArrival, if_neg (by rw [agreedLine_confirmed]; exact other),
      if_neg (by rw [agreedLine_candidate]; exact new)]
  obtain ⟨⟨same, candidate⟩, -⟩ := slot_confirmsNone slot inFrame present (reports_marked reports) (by rw [coded]; exact confirmsNone_nil)
  rw [same, candidate, coded]
  exact ⟨agreedLine_confirmed _, rfl⟩

/-- The candidate comes again and is confirmed. -/
theorem slot_confirms_candidate {c : Code} (slot : s.slot = i) (inFrame : s.inFrame i = true)
    (present : (s.st i).line.present = true) (reports : Reports h c) (other : (s.st i).line.confirmed ≠ some c)
    (twice : (s.st i).line.candidate = some c) (quiet : s.meanwhile = []) :
    (((slotTaken i h s).st i).line.confirmed = some c ∧ ((slotTaken i h s).st i).line.candidate = none) ∧
      ToldNow ((slotTaken i h s).st i) := by
  have coded : codedLine h (s.st i) =
      ({ agreedLine (s.st i) with confirmed := some c, candidate := none }, [.codeConfirmed c]) := by
    rw [codedLine, reports.decodes, codeArrival, if_neg (by rw [agreedLine_confirmed]; exact other),
      if_pos ((agreedLine_candidate _).trans twice)]
  obtain ⟨⟨same, candidate⟩, told⟩ := slot_confirmed (c := c) slot inFrame present (reports_marked reports) quiet
    (by rw [coded]; exact .head _)
  refine ⟨?_, told⟩
  rw [same, candidate, coded]
  exact ⟨rfl, rfl⟩

/-- A half with no code. -/
theorem slot_badCode (slot : s.slot = i) (inFrame : s.inFrame i = true) (present : (s.st i).line.present = true)
    (bad : h.b0.toNat / 16 = 8 ∨ h.b0.toNat = 224) :
    ((slotTaken i h s).st i).line.confirmed = (s.st i).line.confirmed ∧ ((slotTaken i h s).st i).line.candidate = none ∧
      CountsMore (s.st i) ((slotTaken i h s).st i) := by
  have coded : codedLine h (s.st i) = ({ agreedLine (s.st i) with candidate := none }, [.anomaly .badCode]) := by
    rw [codedLine, decodes_none bad]
    rfl
  obtain ⟨⟨same, candidate⟩, counts⟩ := slot_confirmsNone (h := h) slot inFrame present (by omega) (by rw [coded]; exact confirmsNone_anomaly _)
  refine ⟨?_, ?_, counts .badCode (by rw [coded]; exact .head _)⟩
  · rw [same, coded]
    exact agreedLine_confirmed _
  · rw [candidate, coded]

end

/-- Settles O48: a slot's presence and place by its mark alone, and its codes, each by the events of its arrival. -/
theorem slotsMovePresenceAndCodes : Obligations.SlotsMovePresenceAndCodes := by
  unfold Obligations.SlotsMovePresenceAndCodes
  intro i h s inFrame
  refine ⟨exec_outOfSlot, fun slot => ⟨slotTaken i h s, exec_slot inFrame slot, fun quiet => ?_, ?_⟩⟩
  · exact (sendHalf_local i s.passSlot).trans (takeArrival_local i _ quiet)
  dsimp only
  refine ⟨fun within => ?_, fun last => ?_, slot_agrees, slot_counts, slot_turns, fun present mark => ⟨fun c code => ?_, fun bad => ?_⟩⟩
  · have next : (slotTaken i h s).slot.val = i.val + 1 := by
      rw [slotTaken_slot, ← slot]
      exact nextSlot_within (by rw [slot]; exact within)
    refine ⟨next, ?_⟩
    rw [frameMark, beq_eq_false_iff_ne]
    rintro zero
    rw [zero] at next
    cases next
  · have first : (slotTaken i h s).slot = 0 := by
      rw [slotTaken_slot]
      exact nextSlot_last (by rw [slot]; exact last)
    exact ⟨first, beq_iff_eq.2 first⟩
  · have reports : Reports h c := by cases c <;> exact (of_decide_eq_true code :)
    refine ⟨slot_again slot inFrame present reports, slot_candidate slot inFrame present reports, fun other twice quiet => ?_⟩
    obtain ⟨⟨confirmed, candidate⟩, told, first⟩ := slot_confirms_candidate slot inFrame present reports other twice quiet
    exact ⟨confirmed, candidate, told, first⟩
  · exact slot_badCode slot inFrame present bad

end Sys2Proof.Machine
end

section
/-!
PROOFS. What waits in the receive queue, and what is on HTX, does not show in what stations do (section 10.3): picks and sessions.
-/

namespace Sys2Proof.Machine

/-- The state with other requests in the receive queue, and another frame on HTX. -/
def State.queueing (s : State) (q : List HostFrame × Htx) : State := s.updHost fun h => { h with received := q.1, htx := q.2 }

section
variable {i : StationId} {s : State} {q : List HostFrame × Htx}

@[simp] theorem queueing_st : (s.queueing q).st i = s.st i := rfl
@[simp] theorem queueing_accounts : (s.queueing q).accounts = s.accounts := rfl
@[simp] theorem queueing_cards : (s.queueing q).cards = s.cards := rfl
@[simp] theorem queueing_charge : (s.queueing q).charge = s.charge := rfl
@[simp] theorem queueing_journal : (s.queueing q).journal = s.journal := rfl

theorem updSession_queueing (f : Session → Session) : (s.queueing q).updSession i f = (s.updSession i f).queueing q := rfl
theorem updMeters_queueing (f : Meters → Meters) : (s.queueing q).updMeters i f = (s.updMeters i f).queueing q := rfl
theorem updLine_queueing (f : StationLine → StationLine) : (s.queueing q).updLine i f = (s.updLine i f).queueing q := rfl
theorem updRecovery_queueing (f : Recovery → Recovery) : (s.queueing q).updRecovery i f = (s.updRecovery i f).queueing q := rfl
theorem updCards_queueing (f : CardUnit → CardUnit) : (s.queueing q).updCards f = (s.updCards f).queueing q := rfl
theorem updJournal_queueing (f : JournalUnit → JournalUnit) : (s.queueing q).updJournal f = (s.updJournal f).queueing q := rfl
theorem putAccount_queueing (a : Account) : putAccount a (s.queueing q) = (putAccount a s).queueing q := rfl
theorem takeNumber_queueing (s : State) : takeNumber (s.queueing q) = ((takeNumber s).1, (takeNumber s).2.queueing q) := rfl

/-- A function of a choice between two, whatever decides it. -/
theorem ite_through {α β : Type} {c : Prop} {d d' : Decidable c} (f : α → β) {x y : β} {a b : α} (yes : x = f a) (no : y = f b) :
    @ite β c d x y = f (@ite α c d' a b) := by
  by_cases h : c
  · rw [if_pos h, if_pos h, yes]
  · rw [if_neg h, if_neg h, no]

theorem ite_queueing {c : Prop} {d d' : Decidable c} {x y a b : State} (yes : x = a.queueing q) (no : y = b.queueing q) :
    @ite State c d x y = (@ite State c d' a b).queueing q := ite_through (State.queueing · q) yes no

theorem ite_pair_queueing {α : Type} {c : Prop} {d d' : Decidable c} {x y a b : α × State} (yes : x = (a.1, a.2.queueing q))
    (no : y = (b.1, b.2.queueing q)) :
    @ite (α × State) c d x y = ((@ite (α × State) c d' a b).1, (@ite (α × State) c d' a b).2.queueing q) :=
  ite_through (fun r : α × State => (r.1, r.2.queueing q)) yes no

/-! ## Line, timer and table operations -/

theorem offer_queueing (m : DownMsg) (s : State) : offer i m (s.queueing q) = (offer i m s).queueing q := by
  rw [offer_eq, offer_eq]
  rfl

theorem offerShow_queueing (s : State) : offerShow i (s.queueing q) = (offerShow i s).queueing q := offer_queueing _ s

theorem removeEntry_queueing (c : Option CancelCause) (s : State) :
    removeEntry i c (s.queueing q) = (removeEntry i c s).queueing q := by
  rw [removeEntry_eq, removeEntry_eq]
  rfl

theorem freeReference_queueing (n m : Nat) (s : State) : freeReference (s.queueing q) n m = freeReference s n m := by
  induction n generalizing m with
  | zero => rfl
  | succ n ih =>
    rw [freeReference, freeReference, ih]
    rfl

theorem makeEntry_queueing (k : AuthKind) (a : Nat) (s : State) :
    makeEntry i k a (s.queueing q) = (makeEntry i k a s).queueing q := by
  unfold makeEntry
  simp only [freeReference_queueing]
  rfl

theorem setLevel_queueing (l : Urgency) (s : State) : setLevel l (s.queueing q) = (setLevel l s).queueing q := by
  rw [setLevel_spec, setLevel_spec]
  rfl

/-! ## Picks -/

theorem debit_queueing (n a : Nat) (s : State) : debit n a (s.queueing q) = (debit n a s).map (·.queueing q) := by
  unfold debit
  dsimp only [queueing_accounts]
  cases findAccount s.accounts n with
  | none => rfl
  | some b =>
    exact ite_through (Option.map (State.queueing · q)) rfl rfl

theorem fundsCheck_queueing (x : Session) (d : Nat) (s : State) :
    fundsCheck x d (s.queueing q) = (fundsCheck x d s).map (·.queueing q) := by
  unfold fundsCheck
  split
  · exact debit_queueing _ _ s
  · split_ifs <;> rfl
  · split_ifs <;> rfl
  · rfl

theorem chargeSheet_queueing (p : SheetSpec) (s : State) :
    chargeSheet i p (s.queueing q) = ((chargeSheet i p s).1, (chargeSheet i p s).2.queueing q) := by
  unfold chargeSheet
  dsimp only [queueing_st, queueing_charge]
  cases quote s.charge (s.st i).session p with
  | notPriced => rfl
  | limit => rfl
  | priced n price d =>
    dsimp only
    rw [fundsCheck_queueing]
    cases fundsCheck (s.st i).session d s <;> rfl

theorem askIncrement_queueing (s : State) :
    askIncrement i (s.queueing q) = ((askIncrement i s).1, (askIncrement i s).2.queueing q) := by
  have same : incrementOpen (s.queueing q) (s.st i).session = incrementOpen s (s.st i).session := rfl
  unfold askIncrement
  dsimp only [queueing_st, queueing_cards]
  rw [same, makeEntry_queueing]
  refine ite_pair_queueing ?_ rfl
  cases (s.st i).auth with
  | none => rfl
  | some e => exact ite_pair_queueing rfl rfl

theorem afterGo_queueing (s : State) : afterGo i (s.queueing q) = (afterGo i s).queueing q := by
  have same : incrementOpen (s.queueing q) (s.st i).session = incrementOpen s (s.st i).session := rfl
  unfold afterGo
  dsimp only [queueing_st, queueing_cards]
  rw [same, makeEntry_queueing]
  exact ite_queueing rfl rfl

theorem pushEntry_queueing (k : EntryKind) (n c : Nat) (p : SheetSpec) (s : State) :
    pushEntry i k n c p (s.queueing q) = (pushEntry i k n c p s).queueing q := rfl

theorem grantCharged_queueing (n c : Nat) (p : SheetSpec) (s : State) :
    grantCharged i n c p (s.queueing q) = (grantCharged i n c p s).queueing q := by
  unfold grantCharged
  dsimp only
  rw [pushEntry_queueing, offerShow_queueing, afterGo_queueing]
  exact ite_queueing rfl rfl

theorem answerShort_queueing (s : State) :
    answerShort i (s.queueing q) = ((answerShort i s).1, (answerShort i s).2.queueing q) := by
  unfold answerShort
  rw [askIncrement_queueing]
  refine ite_pair_queueing ?_ rfl
  rcases askIncrement i s with ⟨a, t⟩
  cases a <;> rfl

theorem evaluateCharge_queueing (p : SheetSpec) (s : State) :
    evaluateCharge i p (s.queueing q) = ((evaluateCharge i p s).1, (evaluateCharge i p s).2.queueing q) := by
  unfold evaluateCharge
  rw [chargeSheet_queueing]
  rcases chargeSheet i p s with ⟨o, t⟩
  cases o with
  | granted n price => exact Prod.ext rfl (grantCharged_queueing _ _ p t)
  | short => exact answerShort_queueing t
  | notPriced => rfl
  | limit => rfl

theorem evaluate_queueing (p : SheetSpec) (s : State) :
    evaluate i p (s.queueing q) = ((evaluate i p s).1, (evaluate i p s).2.queueing q) := by
  have free : grantService i p (s.queueing q) = (grantService i p s).queueing q := rfl
  unfold evaluate
  dsimp only [queueing_st]
  rw [evaluateCharge_queueing, free]
  split_ifs <;> rfl

theorem reevaluate_queueing (s : State) : reevaluate i (s.queueing q) = (reevaluate i s).queueing q := by
  unfold reevaluate
  dsimp only [queueing_st]
  cases (s.st i).request with
  | idle => rfl
  | waiting n p c left =>
    dsimp only
    rw [evaluate_queueing]
    rcases evaluate i p s with ⟨v, t⟩
    cases v <;> rfl

theorem pickRaised_queueing (n : Nat) (p : SheetSpec) (s : State) :
    pickRaised i n p (s.queueing q) = (pickRaised i n p s).queueing q := by
  have began : setRequest i .idle (activity i (s.queueing q)) = (setRequest i .idle (activity i s)).queueing q := rfl
  unfold pickRaised
  rw [began, evaluate_queueing]
  rcases evaluate i p (setRequest i .idle (activity i s)) with ⟨v, t⟩
  cases v <;> rfl

theorem pickWithdrawn_queueing (n : Nat) (s : State) : pickWithdrawn i n (s.queueing q) = (pickWithdrawn i n s).queueing q := by
  unfold pickWithdrawn
  dsimp only [queueing_st]
  cases (s.st i).request with
  | idle => rfl
  | waiting m p c left =>
    exact ite_queueing rfl rfl

/-! ## Sessions -/

theorem setAvailability_queueing (a : Availability) (s : State) :
    setAvailability i a (s.queueing q) = (setAvailability i a s).queueing q := by
  rw [setAvailability_eq, setAvailability_eq]
  rfl

theorem sessionEnded_queueing (s : State) : sessionEnded i (s.queueing q) = (sessionEnded i s).queueing q := by
  rw [sessionEnded_eq, sessionEnded_eq]
  rfl

theorem stopWhenEmpty_queueing (s : State) : stopWhenEmpty (s.queueing q) = (stopWhenEmpty s).queueing q := by
  unfold stopWhenEmpty
  exact ite_queueing rfl rfl

theorem setSession_queueing (f : Session → Session) (s : State) :
    setSession i f (s.queueing q) = (setSession i f s).queueing q := rfl

theorem abandonAuthorizing_queueing (r : Option RefusedReason) (s : State) :
    abandonAuthorizing i r (s.queueing q) = (abandonAuthorizing i r s).queueing q := by
  unfold abandonAuthorizing
  cases r with
  | none =>
    dsimp only
    rw [setSession_queueing, sessionEnded_queueing, stopWhenEmpty_queueing]
  | some r =>
    dsimp only
    rw [setSession_queueing, offer_queueing, sessionEnded_queueing, stopWhenEmpty_queueing]

theorem closingCent_queueing (s : State) : closingCent i (s.queueing q) =
    ((closingCent i s).1, (closingCent i s).2.1, (closingCent i s).2.2.queueing q) := by
  unfold closingCent
  dsimp only [queueing_st]
  split
  · rfl
  · rw [fundsCheck_queueing]
    cases fundsCheck (s.st i).session 1 s <;> rfl

theorem settleAccount_queueing (n m : Nat) (s : State) : settleAccount n m (s.queueing q) = (settleAccount n m s).queueing q := by
  unfold settleAccount
  dsimp only [queueing_accounts, queueing_journal]
  cases findAccount s.accounts n <;> rfl

theorem updatePayer_queueing (n : Nat) (c : CancelCause) (s : State) :
    updatePayer i n c (s.queueing q) = (updatePayer i n c s).queueing q := by
  unfold updatePayer
  dsimp only [queueing_st]
  split
  · exact settleAccount_queueing _ _ s
  · exact ite_queueing (removeEntry_queueing _ s) rfl
  · rfl
  · rfl

theorem appendRecord_queueing (r : JournalRecord) (s : State) : appendRecord r (s.queueing q) = (appendRecord r s).queueing q := by
  unfold appendRecord
  rw [updJournal_queueing]
  exact setLevel_queueing _ _

theorem closeStep_queueing (r : CloseReason) (c : CancelCause) (s : State) :
    closeStep i r c (s.queueing q) = (closeStep i r c s).queueing q := by
  unfold closeStep
  dsimp only
  rw [closingCent_queueing]
  dsimp only
  rw [updatePayer_queueing]
  dsimp only [queueing_journal, queueing_st]
  rw [appendRecord_queueing, setSession_queueing, updMeters_queueing, offer_queueing, sessionEnded_queueing, stopWhenEmpty_queueing]

theorem drainCheck_queueing (s : State) : drainCheck i (s.queueing q) = (drainCheck i s).queueing q := by
  unfold drainCheck
  dsimp only [queueing_st]
  split
  · cases (s.st i).session.closeReason with
    | none => rfl
    | some r =>
      dsimp only
      rw [closeStep_queueing, reevaluate_queueing]
  · rfl

theorem startDraining_queueing (r : CloseReason) (s : State) :
    startDraining i r (s.queueing q) = (startDraining i r s).queueing q := by
  unfold startDraining
  rw [setSession_queueing, reevaluate_queueing]

theorem goDraining_queueing (r : CloseReason) (s : State) : goDraining i r (s.queueing q) = (goDraining i r s).queueing q := by
  unfold goDraining
  rw [startDraining_queueing, drainCheck_queueing]

theorem takeReason_queueing (r : CloseReason) (s : State) : takeReason i r (s.queueing q) = (takeReason i r s).queueing q := by
  unfold takeReason
  dsimp only [queueing_st]
  rw [goDraining_queueing]
  cases (s.st i).session.state <;> rfl

theorem stallUnlessHeld_queueing (s : State) : stallUnlessHeld i (s.queueing q) = (stallUnlessHeld i s).queueing q := by
  have stalls : stallSession i (s.queueing q) = (stallSession i s).queueing q := by
    rw [stallSession_eq, stallSession_eq]
    rfl
  unfold stallUnlessHeld
  dsimp only [queueing_st]
  exact ite_queueing stalls rfl

theorem sessionOpened_queueing (k : PayerKind) (a : Nat) (s : State) :
    sessionOpened i k a (s.queueing q) = (sessionOpened i k a s).queueing q := by
  unfold sessionOpened
  dsimp only [queueing_journal]
  rw [updSession_queueing, offer_queueing, reevaluate_queueing]
  generalize reevaluate i (offer i (.opened k a) (s.updSession i fun x => { x with openTime := some s.journal.clock })) = t
  have stalled : (if ((t.queueing q).st i).recovery.stoppage.isSome then stallUnlessHeld i (t.queueing q) else t.queueing q) =
      (if (t.st i).recovery.stoppage.isSome then stallUnlessHeld i t else t).queueing q := by
    exact ite_queueing (stallUnlessHeld_queueing t) rfl
  rw [stalled]
  generalize (if (t.st i).recovery.stoppage.isSome then stallUnlessHeld i t else t) = u
  dsimp only [queueing_st]
  split
  · exact goDraining_queueing _ u
  · rfl

theorem openByAccount_queueing (n : Nat) (s : State) : openByAccount i n (s.queueing q) = (openByAccount i n s).queueing q := by
  have check : openingCheck i false (s.queueing q) = openingCheck i false s := rfl
  have account : openingAccountCheck (s.queueing q) n = openingAccountCheck s n := rfl
  unfold openByAccount
  rw [check, account]
  cases openingCheck i false s with
  | some r => exact offer_queueing _ s
  | none =>
    dsimp only
    cases openingAccountCheck s n with
    | error r => exact offer_queueing _ s
    | ok a =>
      dsimp only
      unfold openAccount
      dsimp only
      rw [putAccount_queueing, takeNumber_queueing, setSession_queueing, sessionOpened_queueing]
      rfl

theorem decideStandIn_queueing (s : State) : decideStandIn i (s.queueing q) = (decideStandIn i s).queueing q := by
  have allowed : ∀ t, standInAllowed (s.queueing q) t = standInAllowed s t := fun _ => rfl
  have grants : ∀ t, grantStandIn i t (s.queueing q) = (grantStandIn i t s).queueing q := fun t => by
    unfold grantStandIn
    dsimp only [queueing_cards, queueing_st]
    rw [updCards_queueing, setSession_queueing, sessionOpened_queueing]
  unfold decideStandIn
  dsimp only [queueing_st]
  rw [allowed, grants, abandonAuthorizing_queueing, reevaluate_queueing]
  exact ite_queueing (ite_queueing rfl rfl) rfl

theorem openByCard_queueing (t : Token) (c : CardClass) (s : State) :
    openByCard i t c (s.queueing q) = (openByCard i t c s).queueing q := by
  have check : openingCheck i true (s.queueing q) = openingCheck i true s := rfl
  unfold openByCard
  rw [check]
  cases openingCheck i true s with
  | some r => exact offer_queueing _ s
  | none =>
    dsimp only
    unfold startAuthorizing
    rw [takeNumber_queueing]
    dsimp only [queueing_cards]
    rw [setSession_queueing, reevaluate_queueing, makeEntry_queueing, decideStandIn_queueing]
    exact ite_queueing rfl rfl

theorem deliver_queueing (m : UpMessage) (s : State) : deliver i m (s.queueing q) = (deliver i m s).queueing q := by
  have began : activity i (s.queueing q) = (activity i s).queueing q := rfl
  unfold deliver
  dsimp only [queueing_st]
  rw [began]
  cases m with
  | finish => exact takeReason_queueing _ _
  | card t c =>
    dsimp only
    rw [offer_queueing, openByCard_queueing]
    exact ite_queueing rfl rfl
  | account n =>
    dsimp only
    rw [offer_queueing, openByAccount_queueing]
    exact ite_queueing rfl rfl

end

end Sys2Proof.Machine
end

section
/-!
PROOFS. What waits in the receive queue, and what is on HTX, does not show in the paper path, in the gaps of
one station, and in removal series.
-/

namespace Sys2Proof.Machine

section
variable {i : StationId} {s : State} {q : List HostFrame × Htx}

/-! ## The paper path -/

theorem setHold_queueing (h : HoldState) (s : State) : setHold i h (s.queueing q) = (setHold i h s).queueing q := rfl

theorem setQueue_queueing (es : List InFlight) (s : State) : setQueue i es (s.queueing q) = (setQueue i es s).queueing q := rfl

theorem changeHold_queueing (b : Bool) (h : HoldState) (s : State) :
    changeHold b i h (s.queueing q) = (changeHold b i h s).queueing q := by
  unfold changeHold
  dsimp only
  rw [setHold_queueing]
  generalize setHold i h s = t
  refine (congrArg (reevaluate i) ?_).trans (reevaluate_queueing _)
  exact ite_queueing (stallUnlessHeld_queueing t) rfl

theorem holdWhenEmpty_queueing (b : Bool) (s : State) :
    holdWhenEmpty b i (s.queueing q) = (holdWhenEmpty b i s).queueing q := by
  unfold holdWhenEmpty
  dsimp only
  refine ite_queueing ?_ rfl
  dsimp only [queueing_st]
  rw [changeHold_queueing, changeHold_queueing]
  cases (s.st i).hold <;> rfl

theorem afterRemoval_queueing (b c : Bool) (s : State) :
    afterRemoval b c i (s.queueing q) = (afterRemoval b c i s).queueing q := by
  have checked : (if c then drainCheck i (s.queueing q) else s.queueing q) = (if c then drainCheck i s else s).queueing q :=
    ite_queueing (drainCheck_queueing s) rfl
  unfold afterRemoval
  rw [checked, holdWhenEmpty_queueing, reevaluate_queueing]

theorem exitOne_queueing (s : State) : exitOne i (s.queueing q) = (exitOne i s).queueing q := by
  unfold exitOne
  dsimp only [queueing_st]
  cases (s.st i).queue with
  | nil => rfl
  | cons e rest =>
    dsimp only
    rw [updMeters_queueing, setQueue_queueing, afterRemoval_queueing]

theorem creditAccount_queueing (n a : Nat) (s : State) :
    creditAccount i n a (s.queueing q) = (creditAccount i n a s).queueing q := by
  unfold creditAccount
  dsimp only [queueing_accounts]
  cases findAccount s.accounts n with
  | none => rfl
  | some b => exact ite_queueing rfl rfl

theorem creditSheet_queueing (e : InFlight) (s : State) : creditSheet i e (s.queueing q) = (creditSheet i e s).queueing q := by
  unfold creditSheet
  dsimp only
  refine ite_queueing ?_ rfl
  dsimp only [queueing_st]
  rw [updSession_queueing]
  split
  · exact creditAccount_queueing _ _ _
  · rfl

theorem takeBack_queueing (e : InFlight) (rest : List InFlight) (s : State) :
    takeBack i e rest (s.queueing q) = (takeBack i e rest s).queueing q := by
  unfold takeBack
  dsimp only
  rw [updMeters_queueing, setQueue_queueing, creditSheet_queueing, offerShow_queueing]
  exact ite_queueing rfl rfl

theorem raiseAnomaly_queueing (k : AnomalyKind) (s : State) :
    raiseAnomaly i k (s.queueing q) = (raiseAnomaly i k s).queueing q := rfl

theorem overdueOne_queueing (s : State) : overdueOne i (s.queueing q) = (overdueOne i s).queueing q := by
  unfold overdueOne
  dsimp only [queueing_st]
  cases (s.st i).queue with
  | nil => rfl
  | cons e rest =>
    dsimp only
    rw [takeBack_queueing, raiseAnomaly_queueing, afterRemoval_queueing]

theorem choose_queueing (s : State) : (s.queueing q).choose = (s.choose.1, s.choose.2.queueing q) := by
  obtain ⟨stations, slot, number, charge, accounts, cards, journal, host, choices, count, gaps, pending⟩ := s
  cases choices <;> rfl

theorem removalFirst_queueing (b : Bool) (s : State) :
    removalFirst b (s.queueing q) = ((removalFirst b s).1, (removalFirst b s).2.queueing q) := by
  unfold removalFirst
  rw [choose_queueing]
  exact ite_pair_queueing rfl rfl

theorem judgeHeads_queueing (b : Bool) (n : Nat) (s : State) :
    judgeHeads b i n (s.queueing q) = (judgeHeads b i n s).queueing q := by
  induction n generalizing s with
  | zero => rfl
  | succ n ih =>
    unfold judgeHeads
    rw [removalFirst_queueing]
    dsimp only
    rw [overdueOne_queueing, ih]
    exact ite_queueing (ite_queueing rfl rfl) rfl

theorem exits_queueing (n : Nat) (s : State) : exits i n (s.queueing q) = (exits i n s).queueing q := by
  induction n generalizing s with
  | zero => rfl
  | succ n ih =>
    unfold exits
    rw [exitOne_queueing, judgeHeads_queueing, ih]

theorem activity_queueing (s : State) : activity i (s.queueing q) = (activity i s).queueing q := rfl

theorem exitsEvent_queueing (n : Nat) (s : State) : exitsEvent i n (s.queueing q) = (exitsEvent i n s).queueing q := by
  unfold exitsEvent
  rw [activity_queueing, exits_queueing]
  exact ite_queueing rfl rfl

/-! ## Activity in a gap -/

theorem pickAt_queueing (p : SheetSpec) (s : State) : pickAt i p (s.queueing q) = (pickAt i p s).queueing q := by
  unfold pickAt
  dsimp only
  rw [updLine_queueing, pickRaised_queueing]
  exact ite_queueing rfl rfl

theorem withdrawRaised_queueing (l : Latch) (s : State) :
    withdrawRaised i l (s.queueing q) = (withdrawRaised i l s).queueing q := by
  unfold withdrawRaised
  cases raisedSerial l with
  | none => rfl
  | some n => exact pickWithdrawn_queueing n s

theorem dropAt_queueing (s : State) : dropAt i (s.queueing q) = (dropAt i s).queueing q := by
  unfold dropAt
  rw [updLine_queueing, withdrawRaised_queueing]
  exact ite_queueing rfl rfl

theorem atStation_queueing {f : State → State} (each : ∀ t, f (t.queueing q) = (f t).queueing q) (s : State) :
    atStation i f (s.queueing q) = (atStation i f s).queueing q := ite_queueing (each s) rfl

theorem takeActivity_queueing (e : Meanwhile) (s : State) : takeActivity e (s.queueing q) = (takeActivity e s).queueing q := by
  cases e with
  | pick i p => exact atStation_queueing (pickAt_queueing p) s
  | dropped i => exact atStation_queueing dropAt_queueing s
  | exits i n =>
    refine atStation_queueing (f := fun t => if (t.st i).line.present then exitsEvent i n.val t else t) (fun t => ?_) s
    exact ite_queueing (exitsEvent_queueing _ t) rfl
  | message i m => exact atStation_queueing (deliver_queueing m) s
  | _ => rfl

theorem popMeanwhile_queueing (s : State) :
    (s.queueing q).popMeanwhile = (s.popMeanwhile.1, s.popMeanwhile.2.queueing q) := by
  obtain ⟨stations, slot, number, charge, accounts, cards, journal, host, choices, count, gaps, pending⟩ := s
  cases gaps <;> rfl

theorem foldl_queueing {α : Type} {f : State → α → State} (each : ∀ t e, f (t.queueing q) e = (f t e).queueing q) (es : List α)
    (s : State) : es.foldl f (s.queueing q) = (es.foldl f s).queueing q := by
  induction es generalizing s with
  | nil => rfl
  | cons e rest ih => rw [List.foldl_cons, List.foldl_cons, each, ih]

theorem takeGap_queueing (admits : Meanwhile → Bool) (s : State) :
    takeGap admits takeActivity (s.queueing q) = (takeGap admits takeActivity s).queueing q := by
  unfold takeGap
  rw [popMeanwhile_queueing]
  exact foldl_queueing (fun t e => takeActivity_queueing e t) _ _

theorem drainAmidActivity_queueing (r : CloseReason) (s : State) :
    drainAmidActivity i r (s.queueing q) = (drainAmidActivity i r s).queueing q := by
  unfold drainAmidActivity
  rw [startDraining_queueing, takeGap_queueing, drainCheck_queueing]

theorem idleExpires_queueing (s : State) : idleExpires i (s.queueing q) = (idleExpires i s).queueing q :=
  ite_queueing (drainAmidActivity_queueing _ s) rfl

theorem takeFrozen_queueing (s : State) : takeFrozen i (s.queueing q) = (takeFrozen i s).queueing q :=
  ite_queueing (drainAmidActivity_queueing _ s) (takeReason_queueing _ s)

theorem headExpires_queueing (s : State) : headExpires i (s.queueing q) = (headExpires i s).queueing q := judgeHeads_queueing _ _ s

/-! ## Removal series -/

theorem creditNext_queueing (es : List InFlight) (s : State) :
    creditNext i es (s.queueing q) = ((creditNext i es s).1, (creditNext i es s).2.queueing q) := by
  induction es generalizing s with
  | nil => rfl
  | cons e rest ih =>
    unfold creditNext
    dsimp only
    rw [takeBack_queueing, ih]
    exact ite_pair_queueing rfl rfl

theorem removeAll_queueing (es : List InFlight) (s : State) : removeAll i es (s.queueing q) = (removeAll i es s).queueing q := by
  induction es generalizing s with
  | nil => rfl
  | cons e rest ih =>
    unfold removeAll
    rw [takeBack_queueing, ih]

theorem stoppage_queueing (c : Cause) (s : State) : stoppage i c (s.queueing q) = (stoppage i c s).queueing q := by
  have raised : raiseJam i .stoppage c 0 ((s.queueing q).updRecovery i fun r => { r with stoppage := some c }) =
      (raiseJam i .stoppage c 0 (s.updRecovery i fun r => { r with stoppage := some c })).queueing q := rfl
  unfold stoppage
  dsimp only
  rw [raised, stallUnlessHeld_queueing]
  exact ite_queueing rfl rfl

theorem codeReported_queueing (s : State) : codeReported i (s.queueing q) = (codeReported i s).queueing q := rfl

theorem takeCode_queueing (c : Code) (s : State) : takeCode i c (s.queueing q) = (takeCode i c s).queueing q := by
  cases c with
  | jam l => exact stoppage_queueing _ s
  | doorOpen => exact stoppage_queueing _ s
  | fault => exact stoppage_queueing _ s
  | _ => rfl

theorem codeConfirmed_queueing (c : Code) (s : State) :
    codeConfirmed i c (s.queueing q) = ((codeConfirmed i c s).1, (codeConfirmed i c s).2.queueing q) := by
  unfold codeConfirmed
  rw [takeCode_queueing, codeReported_queueing]
  dsimp only [queueing_st]
  split <;> rfl

theorem stallExpires_queueing (s : State) :
    stallExpires i (s.queueing q) = ((stallExpires i s).1, (stallExpires i s).2.queueing q) := ite_pair_queueing rfl rfl

theorem reopenSession_queueing (s : State) : reopenSession i (s.queueing q) = (reopenSession i s).queueing q := by
  unfold reopenSession
  dsimp only
  refine ite_queueing ?_ rfl
  dsimp only [queueing_st]
  rw [setSession_queueing, reevaluate_queueing]
  split
  · rfl
  · exact goDraining_queueing _ s

theorem raiseJam_queueing (k : JamKind) (c : Cause) (n : Nat) (s : State) :
    raiseJam i k c n (s.queueing q) = (raiseJam i k c n s).queueing q := rfl

theorem recoveryEnds_queueing (c : Cause) (n : Nat) (s : State) :
    recoveryEnds i c n (s.queueing q) = (recoveryEnds i c n s).queueing q := by
  unfold recoveryEnds
  dsimp only
  rw [afterRemoval_queueing, reopenSession_queueing, updRecovery_queueing, raiseJam_queueing]

theorem stallTimeoutEnds_queueing (c : Option Cause) (n : Nat) (s : State) :
    stallTimeoutEnds i c n (s.queueing q) = (stallTimeoutEnds i c n s).queueing q := by
  unfold stallTimeoutEnds
  dsimp only
  rw [afterRemoval_queueing, closeStep_queueing, reevaluate_queueing, setAvailability_queueing, updRecovery_queueing]
  cases c with
  | none => rfl
  | some cause => exact raiseJam_queueing ..

theorem haltEnds_queueing (s : State) : haltEnds i (s.queueing q) = (haltEnds i s).queueing q := by
  unfold haltEnds
  dsimp only
  rw [removeEntry_queueing]
  refine (congrArg (reevaluate i) ?_).trans (reevaluate_queueing _)
  exact ite_queueing rfl (setHold_queueing _ _)

theorem haltStation_queueing (s : State) :
    haltStation i (s.queueing q) = ((haltStation i s).1, (haltStation i s).2.queueing q) := by
  unfold haltStation
  dsimp only
  rw [removeEntry_queueing, abandonAuthorizing_queueing, haltEnds_queueing, haltEnds_queueing]
  generalize haltEnds i (abandonAuthorizing i (some .stopped) (removeEntry i (some .halt) s)) = abandoned
  exact ite_pair_queueing rfl (ite_pair_queueing rfl rfl)

theorem endSeries_queueing (r : Series) (s : State) : endSeries r (s.queueing q) = (endSeries r s).queueing q := by
  unfold endSeries
  split
  · rw [recoveryEnds_queueing, codeReported_queueing]
  · exact stallTimeoutEnds_queueing _ _ s
  · rw [closeStep_queueing, haltEnds_queueing]

/-- What has begun at a station, with another receive queue and another frame on HTX. -/
def Begun.queueing (b : Begun) (q : List HostFrame × Htx) : Begun := (b.1, b.2.queueing q)

theorem takenWhole_queueing (b : Begun) : takenWhole (b.queueing q) = (takenWhole b).queueing q := by
  rcases b with ⟨r, t⟩
  cases r with
  | none => rfl
  | some r =>
    show endSeries r (removeAll r.station (t.st r.station).queue (t.queueing q)) = _
    rw [removeAll_queueing, endSeries_queueing]
    rfl

end

end Sys2Proof.Machine
end

section
/-!
PROOFS. HALT's jobs (section 2.7): while HALT is being taken its end is one of the jobs, and what waits in the receive queue does not
show (section 10.3).
-/

namespace Sys2Proof.Machine

/-! ## The end of HALT among the jobs -/

/-- HALT's end is one job, and one alone. -/
def OneEnd (jobs : List Job) : Prop := jobs.countP Job.isHalted = 1

theorem OneEnd.halting {jobs : List Job} (h : OneEnd jobs) : Machine.halting jobs = true := by
  have some : 0 < jobs.countP Job.isHalted := by
    unfold OneEnd at h
    omega
  exact List.any_eq_true.2 (List.countP_pos_iff.1 some)

theorem oneEnd_haltJobs (replies : Bool) (s : State) : OneEnd (haltJobs replies s).1 := by
  have none : ∀ is : List StationId, (is.map Job.halt).countP Job.isHalted = 0 := fun is => by
    rw [List.countP_eq_zero]
    intro j m
    obtain ⟨i, -, rfl⟩ := List.mem_map.1 m
    nofun
  unfold OneEnd haltJobs
  dsimp only
  rw [List.countP_append, none]
  rfl

theorem countP_markRecorded (jobs : List Job) : (markRecorded jobs).countP Job.isHalted = jobs.countP Job.isHalted := by
  rw [markRecorded_eq, List.countP_map]
  refine List.countP_congr fun j _ => ?_
  cases j <;> rfl

theorem countP_seriesOn (r : Series) (rest : List Job) (s : State) :
    (seriesOn r rest s).jobs.countP Job.isHalted = rest.countP Job.isHalted := by
  unfold seriesOn
  dsimp only
  split
  · rfl
  · dsimp only
    split
    · exact countP_markRecorded rest
    · rfl

theorem countP_begunOn (b : Begun) (rest : List Job) : (begunOn b rest).jobs.countP Job.isHalted = rest.countP Job.isHalted := by
  unfold begunOn
  split
  · rfl
  · exact countP_seriesOn ..

theorem countP_jobOn (may : Bool) (j : Job) (rest : List Job) (s : State) :
    (jobOn may j rest s).jobs.countP Job.isHalted = (j :: rest).countP Job.isHalted := by
  cases j with
  | series r => exact countP_seriesOn r rest s
  | halt i =>
    unfold jobOn
    dsimp only
    split
    · exact countP_begunOn _ rest
    · rfl
  | _ => rfl

theorem countP_advance (may : Bool) (i : StationId) (jobs : List Job) (s : State) :
    (advance may i jobs s).jobs.countP Job.isHalted = jobs.countP Job.isHalted := by
  rcases advance_cases may i jobs s with e | ⟨pre, j, rest, split, -, -, e⟩ <;> rw [e]
  rw [split, List.countP_append, List.countP_append, countP_jobOn]

theorem countP_joined (w : Work) (b : Begun) : (w.joined b).jobs.countP Job.isHalted = w.jobs.countP Job.isHalted := by
  unfold Work.joined
  split
  · rfl
  · next r _ =>
    split
    · obtain ⟨pre, rest, before, e, -⟩ := joinJobs_eq r w.jobs
      dsimp only
      rw [e, before, List.countP_append, List.countP_append]
      rfl
    · rfl

theorem admitted_halting {w : Work} {e : Meanwhile} (halting : halting w.jobs = true) (may : admitted w e = true) :
    (∀ r, e ≠ .request r) ∧ e ≠ .arbiter ∧ e ≠ .frameSent := by
  cases e <;> simp_all [admitted]

theorem oneEnd_takeMeanwhile {w : Work} {e : Meanwhile} (h : OneEnd w.jobs) (may : admitted w e = true) :
    OneEnd (takeMeanwhile e w).jobs := by
  obtain ⟨noRequest, noArbiter, noFrame⟩ := admitted_halting h.halting may
  cases e with
  | recovered i running => exact (countP_joined w _).trans h
  | code i c => exact (countP_joined w _).trans h
  | stallExpiry i =>
    unfold takeMeanwhile
    dsimp only
    split
    · exact (countP_joined w _).trans h
    · exact h
  | advance i => exact (countP_advance _ i w.jobs w.state).trans h
  | request r => exact absurd rfl (noRequest r)
  | arbiter => exact absurd rfl noArbiter
  | frameSent => exact absurd rfl noFrame
  | _ => exact h

theorem oneEnd_takeInGap {w : Work} (h : OneEnd w.jobs) (e : Meanwhile) : OneEnd (takeInGap w e).jobs := by
  unfold takeInGap
  split
  · next may =>
    dsimp only
    split
    · exact h
    · exact oneEnd_takeMeanwhile h may
  · exact h

theorem oneEnd_workGap {w : Work} (h : OneEnd w.jobs) : OneEnd (workGap w).jobs := by
  have each : ∀ (es : List Meanwhile) (v : Work), OneEnd v.jobs → OneEnd (es.foldl takeInGap v).jobs := by
    intro es
    induction es with
    | nil => exact fun v h => h
    | cons e rest ih => exact fun v h => ih _ (oneEnd_takeInGap h e)
  exact each _ { w with state := w.state.popMeanwhile.2 } h

/-! ## HALT's end comes last -/

/-- The jobs but HALT's end, in their turn. -/
def Work.beforeEnd (w : Work) : List Job := [0, 1, 2, 3].flatMap fun k => w.jobs.filter fun j => haltRank w j == k

/-- HALT's end is the last of the jobs in their turn. -/
theorem inTurn_endsHalt {w : Work} (h : OneEnd w.jobs) : ∃ replies recorded,
    w.inTurn = w.beforeEnd ++ [.halted replies recorded] := by
  have last : w.jobs.filter (fun j => haltRank w j == 4) = w.jobs.filter Job.isHalted := by
    refine List.filter_congr fun j _ => ?_
    rw [Bool.eq_iff_iff, beq_iff_eq]
    exact ⟨isHalted_of_haltRank, haltRank_halted⟩
  have one : (w.jobs.filter Job.isHalted).length = 1 := (List.countP_eq_length_filter).symm.trans h
  obtain ⟨j, e⟩ := List.length_eq_one_iff.1 one
  have ends : j.isHalted = true := (List.mem_filter.1 (e ▸ List.mem_singleton_self j : j ∈ w.jobs.filter Job.isHalted)).2
  obtain ⟨replies, recorded, rfl⟩ : ∃ a b, j = .halted a b := by
    cases j with
    | halted a b => exact ⟨a, b, rfl⟩
    | _ => cases ends
  refine ⟨replies, recorded, ?_⟩
  unfold Work.inTurn Work.beforeEnd
  rw [if_pos h.halting]
  simp only [List.flatMap_cons, List.flatMap_nil, List.append_nil, List.append_assoc, last, e]

theorem beforeEnd_notHalted (w : Work) : ∀ j ∈ w.beforeEnd, j.isHalted = false := by
  intro j m
  by_contra ends
  have rank := haltRank_halted (w := w) (j := j) (by simpa using ends)
  unfold Work.beforeEnd at m
  simp only [List.flatMap_cons, List.flatMap_nil, List.append_nil, List.mem_append, List.mem_filter, rank] at m
  rcases m with m | m | m | m <;> cases m.2

/-- With HALT's end the last of the jobs, either none is left at the next gap, or it is left. -/
theorem oneEnd_workToGap {jobs : List Job} {replies recorded : Bool} (others : ∀ j ∈ jobs, j.isHalted = false) (s : State) :
    (workToGap (jobs ++ [.halted replies recorded]) s).jobs = [] ∨
      OneEnd (workToGap (jobs ++ [.halted replies recorded]) s).jobs := by
  induction jobs generalizing s with
  | nil => exact .inl rfl
  | cons j rest ih =>
    rw [List.cons_append, workToGap]
    split
    · exact ih (fun k m => others k (.tail j m)) _
    · right
      unfold OneEnd
      rw [countP_seriesOn, List.countP_append, List.countP_eq_zero.2 fun k m => by rw [others k (.tail j m)]; nofun]
      rfl

/-! ## The receive queue behind HALT -/

section
variable {q : List HostFrame × Htx}

/-- Work with another receive queue and another frame on HTX. -/
def Work.queueing (w : Work) (q : List HostFrame × Htx) : Work := ⟨w.jobs, w.state.queueing q⟩

theorem ite_work_queueing {c : Prop} {d d' : Decidable c} {x y a b : Work} (yes : x = a.queueing q) (no : y = b.queueing q) :
    @ite Work c d x y = (@ite Work c d' a b).queueing q := ite_through (Work.queueing · q) yes no

theorem seriesOn_queueing (r : Series) (rest : List Job) (s : State) :
    seriesOn r rest (s.queueing q) = (seriesOn r rest s).queueing q := by
  unfold seriesOn
  dsimp only [queueing_st]
  rw [creditNext_queueing, endSeries_queueing]
  dsimp only
  split_ifs <;> rfl

theorem begunOn_queueing (b : Begun) (rest : List Job) : begunOn (b.queueing q) rest = (begunOn b rest).queueing q := by
  rcases b with ⟨r, t⟩
  cases r with
  | none => rfl
  | some r => exact seriesOn_queueing r rest t

theorem takeEvent_queueing (i : StationId) (e : LineEvent) (s : State) :
    takeEvent i e (s.queueing q) = (takeEvent i e s).queueing q := by
  cases e with
  | codeConfirmed c => exact codeConfirmed_queueing c s
  | pickRaised n p => exact congrArg (Prod.mk none) (pickRaised_queueing n p s)
  | pickWithdrawn n => exact congrArg (Prod.mk none) (pickWithdrawn_queueing n s)
  | exits n => exact congrArg (Prod.mk none) (exitsEvent_queueing n s)
  | message m => exact congrArg (Prod.mk none) (deliver_queueing m s)
  | anomaly k => rfl

theorem haltDone_queueing (replies : Bool) (s : State) : haltDone replies (s.queueing q) = (haltDone replies s).queueing q :=
  ite_queueing rfl rfl

theorem startJob_queueing (j : Job) (s : State) : startJob j (s.queueing q) = (startJob j s).queueing q := by
  cases j with
  | event i e => exact takeEvent_queueing i e s
  | stallExpiry i => exact stallExpires_queueing s
  | halt i => exact haltStation_queueing s
  | series r => rfl
  | halted replies recorded => exact congrArg (Prod.mk none) (haltDone_queueing replies s)

theorem workToGap_queueing (jobs : List Job) (s : State) : workToGap jobs (s.queueing q) = (workToGap jobs s).queueing q := by
  induction jobs generalizing s with
  | nil => rfl
  | cons j rest ih =>
    unfold workToGap
    rw [startJob_queueing]
    rcases startJob j s with ⟨r, t⟩
    cases r with
    | none => exact ih t
    | some r => exact seriesOn_queueing r rest t

theorem jobOn_queueing (may : Bool) (j : Job) (rest : List Job) (s : State) :
    jobOn may j rest (s.queueing q) = (jobOn may j rest s).queueing q := by
  cases j with
  | series r => exact seriesOn_queueing r rest s
  | halt i =>
    unfold jobOn
    dsimp only
    have began : begunOn (haltStation i (s.queueing q)) rest = (begunOn (haltStation i s) rest).queueing q := by
      rw [haltStation_queueing]
      exact begunOn_queueing _ rest
    rw [began]
    exact ite_work_queueing rfl rfl
  | _ => rfl

theorem advance_queueing (may : Bool) (i : StationId) (jobs : List Job) (s : State) :
    advance may i jobs (s.queueing q) = (advance may i jobs s).queueing q := by
  induction jobs with
  | nil => rfl
  | cons j rest ih =>
    unfold advance
    rw [ih, jobOn_queueing]
    exact ite_work_queueing rfl rfl

theorem joined_queueing (w : Work) (b : Begun) : (w.queueing q).joined (b.queueing q) = (w.joined b).queueing q := by
  rcases b with ⟨r, t⟩
  cases r with
  | none => rfl
  | some r =>
    have whole : takenWhole (Begun.queueing (some r, t) q) = (takenWhole (some r, t)).queueing q := takenWhole_queueing _
    unfold Work.joined
    dsimp only [Begun.queueing] at whole ⊢
    rw [whole]
    exact ite_work_queueing rfl rfl

theorem codeAt_queueing (i : StationId) (c : Code) (s : State) : codeAt i c (s.queueing q) = (codeAt i c s).queueing q := by
  unfold codeAt
  dsimp only
  rw [updLine_queueing, codeConfirmed_queueing]
  exact ite_pair_queueing rfl rfl

/-- While HALT is being taken nothing of a gap reads the receive queue. -/
theorem takeMeanwhile_queueing {w : Work} {e : Meanwhile} (halting : halting w.jobs = true) (may : admitted w e = true) :
    takeMeanwhile e (w.queueing q) = (takeMeanwhile e w).queueing q := by
  obtain ⟨noRequest, noArbiter, noFrame⟩ := admitted_halting halting may
  cases e with
  | pick i p => exact congrArg (Work.mk w.jobs) (takeActivity_queueing (.pick i p) _)
  | dropped i => exact congrArg (Work.mk w.jobs) (takeActivity_queueing (.dropped i) _)
  | exits i n => exact congrArg (Work.mk w.jobs) (takeActivity_queueing (.exits i n) _)
  | message i m => exact congrArg (Work.mk w.jobs) (takeActivity_queueing (.message i m) _)
  | recovered i running => exact (congrArg (w.queueing q).joined (codeAt_queueing i _ _)).trans (joined_queueing w _)
  | code i c => exact (congrArg (w.queueing q).joined (codeAt_queueing i c _)).trans (joined_queueing w _)
  | idleExpiry i => exact congrArg (Work.mk w.jobs) (atStation_queueing idleExpires_queueing _)
  | stallExpiry i =>
    have joined : (w.queueing q).joined (stallExpires i (w.state.queueing q)) = (w.joined (stallExpires i w.state)).queueing q :=
      (congrArg (w.queueing q).joined (stallExpires_queueing _)).trans (joined_queueing w _)
    have within : (w.state.queueing q).inFrame i = w.state.inFrame i := rfl
    unfold takeMeanwhile
    dsimp only [Work.queueing] at joined ⊢
    rw [joined, within]
    exact ite_work_queueing rfl rfl
  | overdue i => exact congrArg (Work.mk w.jobs) (atStation_queueing headExpires_queueing _)
  | request r => exact absurd rfl (noRequest r)
  | arbiter => exact absurd rfl noArbiter
  | frameSent => exact absurd rfl noFrame
  | advance i => exact advance_queueing _ i w.jobs w.state

theorem admitted_queueing {w : Work} (halting : halting w.jobs = true) (e : Meanwhile) :
    admitted (w.queueing q) e = admitted w e := by
  have same : Machine.halting (w.queueing q).jobs = true := halting
  cases e with
  | request r =>
    unfold admitted
    dsimp only
    rw [same, halting]
    rfl
  | frameSent =>
    unfold admitted
    dsimp only
    rw [same, halting]
    rfl
  | _ => rfl

theorem takeInGap_queueing {w : Work} (halting : halting w.jobs = true) (e : Meanwhile) :
    takeInGap (w.queueing q) e = (takeInGap w e).queueing q := by
  unfold takeInGap
  rw [admitted_queueing halting]
  by_cases may : admitted w e = true
  · have run : recordsRun (w.queueing q) = recordsRun w := rfl
    have other : ∀ v : Work, otherRecord (w.queueing q).state (v.queueing q).state = otherRecord w.state v.state := fun _ => rfl
    rw [if_pos may, if_pos may]
    dsimp only
    rw [takeMeanwhile_queueing halting may, run, other]
    split_ifs <;> rfl
  · rw [if_neg may, if_neg may]

theorem workGap_queueing {w : Work} (h : OneEnd w.jobs) : workGap (w.queueing q) = (workGap w).queueing q := by
  have each : ∀ (es : List Meanwhile) (v : Work), OneEnd v.jobs → es.foldl takeInGap (v.queueing q) = (es.foldl takeInGap v).queueing q := by
    intro es
    induction es with
    | nil => exact fun v _ => rfl
    | cons e rest ih =>
      intro v h
      rw [List.foldl_cons, List.foldl_cons, takeInGap_queueing h.halting]
      exact ih _ (oneEnd_takeInGap h e)
  have popped := popMeanwhile_queueing (q := q) w.state
  unfold workGap
  show (w.state.queueing q).popMeanwhile.1.foldl takeInGap ⟨w.jobs, (w.state.queueing q).popMeanwhile.2⟩ = _
  rw [popped]
  exact each _ { w with state := w.state.popMeanwhile.2 } h

theorem workOffWithin_queueing (n : Nat) {w : Work} (h : OneEnd w.jobs) :
    workOffWithin n (w.queueing q) = (workOffWithin n w).queueing q := by
  have turn : (w.queueing q).inTurn = w.inTurn := rfl
  induction n generalizing w with
  | zero =>
    unfold workOffWithin
    rw [turn]
    refine foldl_queueing (fun t j => ?_) _ _
    rw [startJob_queueing, takenWhole_queueing]
  | succ n ih =>
    have left : (workToGap w.inTurn w.state).jobs = [] ∨ OneEnd (workToGap w.inTurn w.state).jobs := by
      obtain ⟨replies, recorded, e⟩ := inTurn_endsHalt h
      rw [e]
      exact oneEnd_workToGap (beforeEnd_notHalted w) w.state
    have worked : workToGap (w.queueing q).inTurn (w.queueing q).state = (workToGap w.inTurn w.state).queueing q :=
      workToGap_queueing _ _
    unfold workOffWithin
    dsimp only
    rw [worked]
    rcases left with done | ends
    · rw [if_pos done, if_pos (show ((workToGap w.inTurn w.state).queueing q).jobs = [] from done)]
      rfl
    · have more : (workToGap w.inTurn w.state).jobs ≠ [] := fun empty => by
        rw [empty] at ends
        cases ends
      rw [if_neg more, if_neg (show ((workToGap w.inTurn w.state).queueing q).jobs ≠ [] from more), workGap_queueing ends]
      exact ih (oneEnd_workGap ends) rfl

theorem inOpenOrder_queueing {α : Type} (xs : List α) (s : State) :
    inOpenOrder xs (s.queueing q) = ((inOpenOrder xs s).1, (inOpenOrder xs s).2.queueing q) := by
  unfold inOpenOrder
  rw [choose_queueing]
  exact ite_pair_queueing rfl rfl

theorem haltAll_queueing (s : State) : haltAll (s.queueing q) = (haltAll s).queueing q := by
  have jobs : haltJobs false (s.queueing q) = ((haltJobs false s).1, (haltJobs false s).2.queueing q) := by
    have live : (s.queueing q).liveStations = s.liveStations := rfl
    unfold haltJobs
    dsimp only
    rw [live, inOpenOrder_queueing]
    rfl
  unfold haltAll workOff
  rw [jobs]
  exact workOffWithin_queueing _ (w := ⟨_, _⟩) (oneEnd_haltJobs false s)

end

end Sys2Proof.Machine
end

section
/-!
PROOFS. A request does the same whatever waits behind it (section 10.3), and the end of a frame dispatches the next one.
-/

namespace Sys2Proof.Machine

section
variable {i : StationId} {s : State} {q : List HostFrame × Htx}

/-- An answer over a state with another receive queue and another frame on HTX. -/
def Answered.queueing (a : Answered) (q : List HostFrame × Htx) : Answered := { a with state := a.state.queueing q }

theorem ite_answer_queueing {c : Prop} {d d' : Decidable c} {x y a b : Answered} (yes : x = a.queueing q)
    (no : y = b.queueing q) : @ite Answered c d x y = (@ite Answered c d' a b).queueing q :=
  ite_through (Answered.queueing · q) yes no

/-! ## The part as a whole, and the tables -/

theorem takeStop_queueing (s : State) : takeStop (s.queueing q) = (takeStop s).queueing q := by
  have stopping : (s.queueing q).updHost (fun h => { h with op := .stopping }) =
      (s.updHost fun h => { h with op := .stopping }).queueing q := rfl
  unfold takeStop
  rw [stopping, stopWhenEmpty_queueing]
  exact congrArg (answerOk []) (ite_queueing rfl rfl)

theorem takeSetTariff_queueing (c m k : Byte) (p : BitVec 16) (s : State) :
    takeSetTariff c m k p (s.queueing q) = (takeSetTariff c m k p s).queueing q := by
  unfold takeSetTariff
  refine ite_answer_queueing rfl ?_
  split <;> rfl

theorem takeSetTiers_queueing (c d0 : Byte) (t1 : BitVec 24) (d1 : Byte) (t2 : BitVec 24) (d2 : Byte) (t3 : BitVec 24) (d3 : Byte)
    (s : State) : takeSetTiers c d0 t1 d1 t2 d2 t3 d3 (s.queueing q) = (takeSetTiers c d0 t1 d1 t2 d2 t3 d3 s).queueing q := by
  unfold takeSetTiers
  refine ite_answer_queueing rfl ?_
  split
  · rfl
  · exact ite_answer_queueing rfl (ite_answer_queueing rfl rfl)

theorem writeRange_queueing (e : Fin 8) (r : Option Range) (s : State) :
    writeRange e r (s.queueing q) = (writeRange e r s).queueing q := by
  unfold writeRange
  dsimp only [queueing_accounts]
  split
  · rfl
  · split <;> rfl

theorem takeSetRange_queueing (e o : Byte) (l h : BitVec 24) (k c : Byte) (v : BitVec 24) (s : State) :
    takeSetRange e o l h k c v (s.queueing q) = (takeSetRange e o l h k c v s).queueing q := by
  unfold takeSetRange
  refine ite_answer_queueing rfl ?_
  split
  · rfl
  · refine ite_answer_queueing (writeRange_queueing _ _ s) (ite_answer_queueing ?_ rfl)
    split
    · rfl
    · exact writeRange_queueing _ _ s

theorem takeSetCardPolicy_queueing (h i t : BitVec 16) (c : Byte) (l m : BitVec 16) (p : BitVec 24) (s : State) :
    takeSetCardPolicy h i t c l m p (s.queueing q) = (takeSetCardPolicy h i t c l m p s).queueing q := by
  unfold takeSetCardPolicy
  refine ite_answer_queueing rfl ?_
  split
  · rfl
  · exact ite_answer_queueing rfl rfl

/-! ## Accounts -/

theorem onStored_queueing {n : BitVec 24} {f g : Account → Answered} (each : ∀ a, f a = (g a).queueing q) :
    onStored n (s.queueing q) f = (onStored n s g).queueing q := by
  unfold onStored
  refine ite_answer_queueing rfl ?_
  dsimp only [queueing_accounts]
  split
  · rfl
  · exact each _

theorem freezeSessions_queueing (n : Nat) (s : State) : freezeSessions n (s.queueing q) = (freezeSessions n s).queueing q := by
  have paying : payingStations (s.queueing q) n = payingStations s n := rfl
  unfold freezeSessions
  dsimp only
  rw [paying, inOpenOrder_queueing]
  exact foldl_queueing (fun t i => takeFrozen_queueing t) _ _

theorem putFreezing_queueing (b : Bool) (a : Account) (s : State) :
    putFreezing b a (s.queueing q) = (putFreezing b a s).queueing q := by
  unfold putFreezing
  rw [putAccount_queueing, freezeSessions_queueing]
  exact ite_queueing rfl rfl

theorem answerAccount_queueing (n : Nat) (s : State) : answerAccount n (s.queueing q) = (answerAccount n s).queueing q := rfl

theorem takeAccountPut_queueing (n : BitVec 24) (b : BitVec 32) (st m : Byte) (s : State) :
    takeAccountPut n b st m (s.queueing q) = (takeAccountPut n b st m s).queueing q := by
  unfold takeAccountPut
  refine ite_answer_queueing rfl ?_
  split
  · rfl
  · refine ite_answer_queueing ?_ rfl
    unfold putChecked
    dsimp only [queueing_accounts]
    split
    · exact ite_answer_queueing rfl (ite_answer_queueing rfl rfl)
    · rw [putFreezing_queueing]
      exact ite_answer_queueing rfl (ite_answer_queueing rfl rfl)

/-! ## Cards and the journal -/

theorem applyResult_queueing (k : AuthKind) (n : Nat) (s : State) :
    applyResult i k n (s.queueing q) = (applyResult i k n s).queueing q := by
  have evaluates : ∀ f : Session → Session, reevaluate i ((s.queueing q).updSession i f) =
      (reevaluate i (s.updSession i f)).queueing q := fun f => by rw [updSession_queueing, reevaluate_queueing]
  cases k with
  | initial =>
    unfold applyResult approveInitial declineInitial
    dsimp only
    rw [abandonAuthorizing_queueing, reevaluate_queueing, setSession_queueing, sessionOpened_queueing]
    exact ite_queueing (ite_queueing rfl rfl) (ite_queueing rfl rfl)
  | increment =>
    unfold applyResult approveIncrement endIncrements
    dsimp only
    rw [evaluates, evaluates]
    exact ite_queueing rfl rfl

theorem takeAuthResult_queueing (n : BitVec 16) (o : Byte) (a : BitVec 24) (s : State) :
    takeAuthResult n o a (s.queueing q) = (takeAuthResult n o a s).queueing q := by
  have reference : referenceStation (s.queueing q) n.toNat = referenceStation s n.toNat := rfl
  unfold takeAuthResult
  refine ite_answer_queueing rfl ?_
  rw [reference]
  split
  · rfl
  · dsimp only [queueing_st]
    split
    · rfl
    · unfold resultTaken
      rw [removeEntry_queueing, applyResult_queueing]
      rfl

theorem takeAuthPending_queueing (s : State) : takeAuthPending (s.queueing q) = (takeAuthPending s).queueing q := by
  have entries : (s.queueing q).authStations = s.authStations := rfl
  unfold takeAuthPending
  dsimp only
  rw [entries, inOpenOrder_queueing]
  rfl

theorem takeStandinClear_queueing (t : Token) (s : State) :
    takeStandinClear t (s.queueing q) = (takeStandinClear t s).queueing q := by
  unfold takeStandinClear
  dsimp only [queueing_cards]
  split
  · rfl
  · exact ite_answer_queueing rfl rfl

theorem releaseRecords_queueing (n : Nat) (s : State) : releaseRecords n (s.queueing q) = (releaseRecords n s).queueing q := by
  unfold releaseRecords
  dsimp only
  rw [updJournal_queueing, setLevel_queueing]
  exact ite_queueing rfl rfl

theorem takeJournalRelease_queueing (n : BitVec 16) (e : BitVec 32) (s : State) :
    takeJournalRelease n e (s.queueing q) = (takeJournalRelease n e s).queueing q := by
  unfold takeJournalRelease
  dsimp only
  rw [releaseRecords_queueing]
  exact ite_answer_queueing rfl (ite_answer_queueing rfl (ite_answer_queueing rfl rfl))

/-! ## Stations -/

theorem onStation_queueing {b : Byte} {f g : StationId → Answered} (each : ∀ i, f i = (g i).queueing q) :
    onStation b (s.queueing q) f = (onStation b s g).queueing q := by
  have named : stationNamed (s.queueing q) b = stationNamed s b := rfl
  unfold onStation
  rw [named]
  split
  · rfl
  · exact each _

theorem takeStationEnable_queueing (b : Byte) (s : State) :
    takeStationEnable b (s.queueing q) = (takeStationEnable b s).queueing q := by
  refine onStation_queueing fun i => ite_answer_queueing rfl ?_
  dsimp only [queueing_st]
  rw [setAvailability_queueing]
  cases (s.st i).recovery.availability <;> rfl

theorem takeStationDisable_queueing (b : Byte) (s : State) :
    takeStationDisable b (s.queueing q) = (takeStationDisable b s).queueing q := by
  refine onStation_queueing fun i => ?_
  dsimp only [queueing_st]
  rw [setAvailability_queueing, updRecovery_queueing, takeReason_queueing]
  cases (s.st i).recovery.availability with
  | outOfService => rfl
  | enabled => exact ite_answer_queueing rfl rfl

theorem takeSessionEnd_queueing (b : Byte) (s : State) : takeSessionEnd b (s.queueing q) = (takeSessionEnd b s).queueing q := by
  refine onStation_queueing fun i => ?_
  rw [takeReason_queueing]
  exact ite_answer_queueing rfl rfl

theorem takeServiceHold_queueing (b : Byte) (s : State) : takeServiceHold b (s.queueing q) = (takeServiceHold b s).queueing q := by
  refine onStation_queueing fun i => ?_
  dsimp only [queueing_st]
  rw [changeHold_queueing]
  cases (s.st i).hold <;> rfl

theorem takeServiceRelease_queueing (b : Byte) (s : State) :
    takeServiceRelease b (s.queueing q) = (takeServiceRelease b s).queueing q := by
  refine onStation_queueing fun i => ?_
  dsimp only [queueing_st]
  rw [changeHold_queueing, changeHold_queueing]
  cases (s.st i).hold <;> rfl

/-! ## Every request but STATUS -/

theorem ownerAnswer_queueing {r : Request} (notStatus : r ≠ .status) (s : State) :
    ownerAnswer r (s.queueing q) = (ownerAnswer r s).map (Answered.queueing · q) := by
  cases r
  case status => exact absurd rfl notStatus
  case halt => rfl
  all_goals refine congrArg some ?_
  case start => exact ite_answer_queueing rfl rfl
  case stop => exact takeStop_queueing s
  case setLevels => exact ite_answer_queueing rfl rfl
  case setTariff => exact takeSetTariff_queueing _ _ _ _ s
  case setTiers => exact takeSetTiers_queueing _ _ _ _ _ _ _ _ s
  case setRange => exact takeSetRange_queueing _ _ _ _ _ _ _ s
  case setCardPolicy => exact takeSetCardPolicy_queueing _ _ _ _ _ _ _ s
  case accountPut => exact takeAccountPut_queueing _ _ _ _ s
  case accountGet => exact onStored_queueing fun _ => rfl
  case accountAdjust => exact onStored_queueing fun _ => ite_answer_queueing rfl rfl
  case accountFreeze =>
    refine onStored_queueing fun a => ?_
    rw [putFreezing_queueing]
    exact (congrArg (answerAccount a.number) (ite_queueing rfl rfl)).trans (answerAccount_queueing _ _)
  case accountThaw =>
    refine onStored_queueing fun a => ?_
    rw [putAccount_queueing]
    exact (congrArg (answerAccount a.number) (ite_queueing rfl rfl)).trans (answerAccount_queueing _ _)
  case accountRemove => exact onStored_queueing fun _ => ite_answer_queueing rfl rfl
  case authResult => exact takeAuthResult_queueing _ _ _ s
  case authPending => exact takeAuthPending_queueing s
  case denyAdd => exact ite_answer_queueing rfl (ite_answer_queueing rfl rfl)
  case denyRemove => exact ite_answer_queueing rfl rfl
  case standinList => exact ite_answer_queueing rfl rfl
  case standinClear => exact takeStandinClear_queueing _ s
  case journalRead => exact ite_answer_queueing rfl rfl
  case journalRelease => exact takeJournalRelease_queueing _ _ s
  case stationGet => exact onStation_queueing fun _ => rfl
  case stationEnable => exact takeStationEnable_queueing _ s
  case stationDisable => exact takeStationDisable_queueing _ s
  case sessionEnd => exact takeSessionEnd_queueing _ s
  case serviceHold => exact takeServiceHold_queueing _ s
  case serviceRelease => exact takeServiceRelease_queueing _ s
  case meterGet => exact onStation_queueing fun _ => rfl
  case meterClear => exact onStation_queueing fun _ => ite_answer_queueing rfl rfl
  all_goals rfl

/-- A request but STATUS does the same whatever waits in the receive queue and is on HTX. -/
theorem takeRequest_queueing {r : Request} (notStatus : r ≠ .status) (s : State) :
    takeRequest r (s.queueing q) = (takeRequest r s).queueing q := by
  unfold takeRequest
  rw [ownerAnswer_queueing notStatus]
  cases ownerAnswer r s with
  | some a => rfl
  | none => exact congrArg (answerOk []) (haltAll_queueing s)

end

end Sys2Proof.Machine
end

section
/-!
PROOFS. The end of a frame frees the line and dispatches the next request (section 10.3).
-/

namespace Sys2Proof.Machine

section
variable {s : State} {bytes : List Byte} {f : HostFrame} {rest : List HostFrame} {r : Request}

/-- The state with the line free, the reply buffer empty and nothing in the receive queue. -/
def State.lineFreed (s : State) : State :=
  { s with host := { s.host with htx := .free, reply := .empty, received := [] } }

theorem lineFreed_idle (s : State) : lineIdle s.lineFreed := ⟨rfl, rfl⟩

theorem bufferReply_queueing (k : Byte) (a : Answered) (q : List HostFrame × Htx) :
    bufferReply k (a.queueing q) = (bufferReply k a).queueing q := rfl

theorem dispatch_head (empty : s.host.reply = .empty) (received : s.host.received = f :: rest) :
    dispatch s = bufferReply f.kind (takeFrame f (s.updHost fun h => { h with received := rest })) := by
  unfold dispatch
  rw [empty, received]

theorem dispatch_none (received : s.host.received = []) : dispatch s = s := by
  unfold dispatch
  rw [received]
  cases s.host.reply <;> rfl

theorem htxEnds_reply (reply : s.host.htx = .reply bytes) :
    htxEnds s = (true, s.updHost fun h => { h with htx := .free, reply := .empty }) := by
  unfold htxEnds
  rw [reply]

theorem frameEnded_dispatches (reply : s.host.htx = .reply bytes) (received : s.host.received = f :: rest) :
    exec .frameSent s = .next (bufferReply f.kind (takeFrame f (s.lineFreed.queueing (rest, .free)))) := by
  refine congrArg Host.Outcome.next ?_
  unfold frameEnded
  dsimp only
  rw [htxEnds_reply reply]
  exact dispatch_head rfl received

theorem frameEnded_empty (reply : s.host.htx = .reply bytes) (received : s.host.received = []) :
    exec .frameSent s = .next { s with host := { s.host with htx := .free, reply := .empty } } := by
  refine congrArg Host.Outcome.next ?_
  unfold frameEnded
  dsimp only
  rw [htxEnds_reply reply]
  exact dispatch_none received

theorem frameEnded_notice (notice : s.host.htx = .notice bytes) :
    exec .frameSent s = .next { s with host := { s.host with htx := .free } } := by
  have ended : htxEnds s = (false, s.updHost fun h => { h with htx := .free }) := by
    unfold htxEnds
    rw [notice]
  refine congrArg Host.Outcome.next ?_
  unfold frameEnded
  dsimp only
  rw [ended]
  rfl

/-- A dispatched request is answered over a state with the line free and the requests behind it in the queue. -/
theorem takeFrame_queueing (f : HostFrame) (s : State) (q : List HostFrame × Htx) : ∃ a : Answered,
    takeFrame f (s.queueing q) = a.queueing q := by
  unfold takeFrame
  split
  · exact ⟨answerRefused _ s, rfl⟩
  · next r _ =>
    by_cases status : r = .status
    · exact ⟨⟨.ok, statusBody (s.queueing q), s⟩, by rw [status]; rfl⟩
    · exact ⟨_, takeRequest_queueing status s⟩

theorem frameEnded_takes (reply : s.host.htx = .reply bytes) (received : s.host.received = requestFrame r :: rest) :
    exec .frameSent s = .next (bufferReply (requestKind r) (takeRequest r (s.lineFreed.queueing (rest, .free)))) := by
  rw [frameEnded_dispatches reply received, takeFrame_requestFrame]
  rfl

/-- A dispatched request that fails the checks of its kind or its length changes nothing. -/
theorem frameEnded_refused {status : Status} (reply : s.host.htx = .reply bytes) (received : s.host.received = f :: rest)
    (refused : parseRequest f = .error status) : exec .frameSent s = .next { s with host := { s.host with
      htx := .free, received := rest, reply := .waiting ⟨f.kind, status, []⟩ } } := by
  rw [frameEnded_dispatches reply received, takeFrame, refused]
  rfl

end

/-- Settles O19: a request dispatched at a frame's end does what its command does, whatever waits behind it. -/
theorem frameSentFreesTheLine : Obligations.FrameSentFreesTheLine := by
  unfold Obligations.FrameSentFreesTheLine
  refine ⟨fun s => ⟨fun _ => frameEnded_notice, fun _ => frameEnded_empty, fun bytes f rest reply received => ?_⟩,
    fun s bytes f rest reply received => ⟨fun unknown => ?_, fun n length differs => ?_⟩,
    fun s bytes r reply received => ?_, fun s bytes r rest reply received => ⟨fun notStatus => ?_, fun status => ?_⟩⟩
  · obtain ⟨a, answered⟩ := takeFrame_queueing f s.lineFreed (rest, .free)
    rw [frameEnded_dispatches reply received, answered]
    exact ⟨_, a.status, a.body, rfl, rfl, rfl, rfl⟩
  · exact frameEnded_refused reply received (by rw [parseRequest, unknown])
  · exact frameEnded_refused reply received (by rw [parseRequest, length]; exact if_neg differs)
  · rw [frameEnded_takes reply received]
    exact (exec_request_idle (lineFreed_idle s) r).symm
  · refine ⟨_, exec_request_idle (lineFreed_idle s) r, ?_⟩
    rw [frameEnded_takes reply received, takeRequest_queueing notStatus, bufferReply_queueing]
    have free : (bufferReply (requestKind r) (takeRequest r s.lineFreed)).host.htx = .free :=
      congrArg (fun a : Answered => a.state.host.htx) (takeRequest_queueing (q := ([], .free)) notStatus s.lineFreed)
    unfold State.queueing State.updHost
    dsimp only
    rw [← free]
  · subst status
    exact ⟨_, frameEnded_takes reply received, bodyIs_statusBody _⟩

end Sys2Proof.Machine
end

section
/-!
PROOFS. HALT over a part in which an idle timer has run out beside a CHARGED entry (sections 2.4 and 2.7): a session that opens while
HALT is being taken.
-/

namespace Sys2Proof.Machine

/-- A present station with an OPEN stand-in session and one CHARGED entry in its queue. -/
def printing : Station :=
  { Station.reset with
    line := { StationLine.reset with present := true, latch := .idle }
    session := { Session.ended 7 with state := .opened, payer := some (.standIn 9), tariffClass := some 0 }
    queue := [⟨.charged, 1, .mono, 0, 0, 0, 30⟩] }

/-- A RUNNING part with two such stations and one stored account, 5, with funds. The idle timer of station 1 has run out although its
queue is not empty, which no reachable state has (section 2.4) and the statement does not exclude. In HALT's first gap, after the
credit of station 0, comes the idle expiry of station 1, and in the gap before its close an exit, which closes the DRAINING
session, and then an ACCOUNT. -/
def expiredWhilePrinting : State :=
  { ((State.reset.upd 0 fun _ => printing).upd 1 fun _ => { printing with idleTimer := some 0 }) with
    accounts := ⟨AccountUnit.reset.ranges.set 0 (some ⟨1, 9, .prepaid, 0, 0⟩), [⟨5, 20, false, 1, 0, 0, 0⟩]⟩
    host := { State.reset.host with op := .running }
    nextSession := 8
    choiceTape := [0]
    meanwhile := [[.idleExpiry 1], [.exits 1 1, .message 1 (.account 5)]] }

/-- The session number counter that a command leaves. -/
def counterAfter (r : Result) : Option Nat :=
  match r with
  | .next t => some t.nextSession
  | _ => none

/-- HALT of that part lets a session open on the account, so that the counter moves on. -/
theorem halt_opens_session : counterAfter (exec .halt expiredWhilePrinting) = some 9 := by decide +kernel

/-- Refutes O23: HALT does not keep the session number counter where an idle timer has run out beside a CHARGED entry. -/
theorem not_haltEndsEverySession : ¬ Obligations.HaltEndsEverySession := by
  unfold Obligations.HaltEndsEverySession
  intro h
  obtain ⟨u, halted, -, -, -, -, -, -, -, -, -, counter, -⟩ := h expiredWhilePrinting ⟨rfl, rfl⟩
  have moved := halt_opens_session
  rw [halted] at moved
  have kept : u.nextSession = 8 := counter
  have nine : u.nextSession = 9 := Option.some.inj moved
  omega

end Sys2Proof.Machine
end
